-- ==== Sys2Proof/Word.lean ====
section
/-! DEFINITION. The word types of the STN-7240 and the sparse-map type that memory and registers share. -/

namespace Sys2Proof

/-- A byte. -/
abbrev Byte := BitVec 8
/-- A 16-bit word. -/
abbrev W16 := BitVec 16
/-- A 32-bit word: the width of every register (R7, R10). -/
abbrev W32 := BitVec 32
/-- A 64-bit word. -/
abbrev W64 := BitVec 64
/-- The bits of an IEEE 754 binary64 value in interchange format (R8, R15). -/
abbrev Dbl := BitVec 64
/-- A run of bytes, lowest address first. -/
abbrev Bytes := List (BitVec 8)
/-- A sparse map from natural-number keys, kept sorted by key. -/
abbrev KMap (α : Type) := List (Nat × α)
/-- A set of fault sources, bit n for source n (R388). -/
abbrev Sources := BitVec 192

end Sys2Proof
end

