-- ==== Sys2Proof/Types.lean ====
section
/-! DEFINITION. The types of the operands that a command carries: who sends it, what its buffers hold, what the
outside world supplies with it (frames, samples, readings, the Guard's verdicts). -/

namespace Sys2Proof

/-- The two host links (R33, R39): the PCIe endpoint and the Octal SPI target. -/
inductive HostId where
  | hostp
  | hosts
  deriving DecidableEq, Repr

/-- The sixteen master identifiers, in the order of their values 0x0 to 0xF (R19). -/
inductive Master where
  | firn | guard | cyc0 | cyc1 | cyc2 | cyc3 | net0 | net1 | mtr | seq | rsv | hostp | hosts | solv | portdma | hweng
  deriving DecidableEq, Repr

/-- Where a host command came from: queue pair `k`, the immediate mailbox (R54), or a pair that has been reset since, whose
completions are discarded (R37, R41). -/
inductive CmdSrc where
  | qp (k : Fin 8)
  | imm
  | gone
  deriving DecidableEq, Repr

/-- A window offset and a length in bytes: the *buf* of the command index (R46). -/
structure Buf where
  off : W32
  len : W32
  deriving DecidableEq, Repr

/-- What Linkreset the PCIe link saw (R37). -/
inductive LinkReset where
  | perst | flr | d3hot | linkLoss
  deriving DecidableEq, Repr

/-- The straps as the pins stand at the rising edge of PORST_N (R1, R2), with the sensed VDDIO_B mode (R496). -/
structure Straps where
  pers : BitVec 2
  bootsel : BitVec 2
  testEn : Bool
  vddio33 : Bool
  deriving DecidableEq, Repr

/-- What the Guard sees of a tamper input (R461, R462): which sources are live from here on, and the input pin's levels at the
samples that decide, oldest first: 4 consecutive AONCLK edges for a switch, the samples after the last two advances of the
generator for a mesh. The monitors behind inputs 4 to 7 have no pin. -/
structure TamperPin where
  live : Byte
  levels : List Bool := []
  deriving DecidableEq, Repr

/-- One region of an access table (R447): the offsets of its first and last byte and its RIGHTS byte. -/
structure AccEntry where
  target : Nat
  master : Nat
  region : Nat
  start : Nat
  stop : Nat
  rights : Byte
  deriving DecidableEq, Repr

/-- The configuration of one of ports 0 to 3 (R359). -/
structure PortCfg where
  enable : Bool := true
  mode : Nat := 0
  fwd : Byte
  required : Bool := false
  xpn : Bool := false
  defQ : Nat := 0
  accept : Nat := 0
  pvid : Nat := 1
  replay : Nat := 0
  nbr : Nat := 0xFF
  chain : Nat := 0
  mac : Bytes := [0, 0, 0, 0, 0, 0]
  branches : List Nat := []
  deriving DecidableEq, Repr

/-- A value group of the CPU port (R358). -/
structure ValueGroup where
  group : Nat
  port : Nat
  queue : Nat
  peer : W16
  first : Nat
  count : Nat
  interval : Nat
  phase : Nat
  deriving DecidableEq, Repr

/-- A rate entry that the configuration record restores (R411). -/
structure RateCfg where
  code : W16
  rate : Nat
  burst : Nat
  deriving DecidableEq, Repr

/-- The fields of the PTP configuration that no TIME register holds (R303, R513). -/
structure PtpCfg where
  clockType : Nat := 0
  domain : Nat := 0
  refsrc : Nat := 1
  servoRole : Nat := 0
  delayMech : Nat := 0
  stepMode : Nat := 1
  portEn : Byte := 0
  tcEn : Bool := false
  priority1 : Nat := 128
  priority2 : Nat := 128
  clockClass : Nat := 248
  accuracy : Nat := 0xFE
  logSync : Int := 0
  logMinDelay : Int := 0
  logAnnounce : Int := 1
  annTimeout : Nat := 3
  slaveOnly : Bool := false
  oslv : Nat := 0xFFFF
  lockLimit : Nat := 1000
  lockCount : Nat := 16
  faultCount : Nat := 4
  holdLimit : Nat := 300
  ppsMode : Nat := 2
  ppsWidth : Nat := 100000
  ppsCorr : Int := 0
  utcOffset : Int := 37
  deriving DecidableEq, Repr

/-- The pair configuration (12, PAIR_CONFIG buffer). -/
structure PairCfg where
  mode : Nat := 0
  unitId : Byte := 0
  partner : W16 := 0
  primary : Bool := false
  autoResync : Bool := false
  takeUnsynced : Bool := false
  macsec : Bool := false
  baseX : Bool := false
  epochMin : Nat := 0
  swapH : Nat := 168
  frzTake : Nat := 0
  startWait : Nat := 2000
  deriving DecidableEq, Repr

/-- What the configuration record holds for metering (R257, R270, R282): each list by number. -/
structure MtrCfg where
  gain : List (Nat × Dbl) := []
  offset : List (Nat × Dbl) := []
  delay : List (Nat × W16) := []
  auxMode : Byte := 0
  capt : W32 := 0x0808
  ku : List (Nat × Dbl) := []
  ki : List (Nat × Dbl) := []
  iref : List (Nat × Dbl) := []
  /-- Constant, and MTR_POUTk_CFG, of each pulse output. -/
  pulse : List (Nat × W32 × W32) := []
  heat : List (Nat × Bytes) := []
  deriving DecidableEq, Repr

/-- The named items of the configuration record. The manual gives the items and not their layout (DESIGN CHOICE, log 7). -/
structure CfgRecord where
  /-- R4: 0 STATION, 1 HEAD. -/
  personality : BitVec 2 := 0
  /-- R357: the field address, 0 none. -/
  address : W16 := 0
  /-- R512: the size code of LPDDR4X. -/
  ddrSize : Nat := 0
  /-- R73. -/
  hostLock : Bool := false
  /-- R402. -/
  testAllow : Bool := false
  /-- R257. -/
  metroLock : Bool := false
  /-- R234: 0 none, 1 warm, 2 cold. -/
  autostart : Nat := 0
  /-- R475. -/
  avsEn : Bool := false
  avsAddr : BitVec 7 := 0
  /-- R431. -/
  upPort : Nat := 0
  upAddr : W16 := 0
  downAddr : List W16 := []
  avActivate : Bool := false
  activateAt : W64 := 0
  /-- R465: 64 bytes X and Y, or none stored (all zero). -/
  debugKey : Bytes := []
  /-- R448: region entries of the tile roles, and of the hosts where the record states them (R74). -/
  regions : List AccEntry := []
  /-- R461: tamper modes by input. -/
  tamper : List (Nat × Byte) := []
  /-- R411. -/
  rates : List RateCfg := []
  /-- R398: safe values by output number. -/
  safe : List (Nat × W64) := []
  /-- R359: ports 0 to 3 by number, SYSID and value groups of port 4, VLAN lists. -/
  ports : List (Nat × PortCfg) := []
  sysid : W16 := 0
  groups : List ValueGroup := []
  /-- R303, R513: none where the record holds no PTP configuration. -/
  ptp : Option PtpCfg := none
  /-- R363, R387. -/
  pair : PairCfg := {}
  /-- The copy of EPOCH in the configuration store (R365). -/
  epoch : Nat := 0
  /-- R204: the written parts of loops, by loop * 4 + part. -/
  loops : List (Nat × Bytes) := []
  /-- R257, R282. -/
  mtr : MtrCfg := {}
  /-- The values of the IO block's registers, by offset in the block (18). -/
  io : List (Nat × W32) := []
  deriving DecidableEq, Repr

/-- The configuration of a UART (R360). -/
structure UartCfg where
  generic : Bool
  dataBits : Nat
  parity : Nat
  stopBits : Nat
  rate : Nat
  timeout : Nat
  deriving DecidableEq, Repr

/-- The physical lanes that fail a self-test (R82), and the density that the LPDDR4X devices report at an initialisation, as
a size code of R512. -/
structure LaneList where
  lanes : List Nat := []
  ddrCode : Nat := 0
  /-- The corrected errors of the lanes whose runs the event ends (R83), by physical lane. -/
  corrected : List (Nat × Nat) := []
  deriving DecidableEq, Repr

/-- A symbol of a cycle program (R214, R235): its identifier, its type, its length in bytes, its area (0 input image, 1
output image, 2 working memory, 3 retentive area), the mask of its tasks, and where it stands: for an image the task
whose section holds the copy and the offset in the image, for the other areas any task and the offset in the area. -/
structure Sym where
  id : Nat
  ty : Nat
  len : Nat
  area : Nat
  mask : Nat
  locs : List (Nat × Nat)
  deriving DecidableEq, Repr

/-- What the sections of a cycle program hold whose bytes the manual does not lay out (R214): SYMBOLS; INIT, as (area 2 or
3, offset, bytes) runs; MIGRATE, as (old offset, new offset, length, owner task). -/
structure ProgExtra where
  syms : List Sym
  init : List (Nat × Nat × Bytes) := []
  migrate : List (Nat × Nat × Nat × Nat) := []
  deriving DecidableEq, Repr

/-- What a boot meets outside the manual's own state: the lanes and tiles that fail their self-tests, the density that the LPDDR4X devices report (code of R512), whether PD0 AON kept
power, the PLLs that fail to lock, and the key slots whose storage fails its test. -/
structure BootEnv where
  badTiles : BitVec 9 := 0
  badLanes : BitVec 34 := 0
  ddrCode : Nat := 0
  pd0Kept : Bool := true
  pllFailed : BitVec 2 := 0
  badSlots : List Nat := []
  /-- What the CFG_MIGRATE section makes of the configuration records and of their meaning (R442); none: no change. -/
  migrated : Option (List (Nat × Bytes) × CfgRecord) := none
  deriving DecidableEq, Repr

/-- What the outside world supplies with a host command: what a configuration record or a buffer holds where the manual gives no layout. -/
structure CmdEnv where
  /-- The parent slot of a derivation passes its ICV (R455). -/
  icv : Bool := true
  /-- R442: the format version and the meaning of the record that SYS_CONFIG_WRITE stores; none where it does not
  parse. -/
  recFormat : W16 := 0
  record : Option CfgRecord := none
  /-- Whether the measurement or transaction that the command starts can begin (a source present). -/
  present : Bool := true
  /-- A second rolls over on the AONCLK edge at which the command's request to the calendar acts (R321, R323, R325). -/
  roll : Bool := false
  /-- The spare lanes that fail the self-test of a rotation instant that SYS_ROTATE makes (R486). -/
  badLanes : LaneList := {}
  /-- The conditions that arise on the FABCLK edge on which FAULT_CLEAR acts (R401). -/
  rising : Sources := 0
  /-- What a NET_UART_CONFIG buffer holds (R360); none where it does not parse. -/
  uart : Option UartCfg := none
  /-- What the sections of a CYC_LOAD container hold that the manual does not lay out; none where they do not parse. -/
  prog : Option ProgExtra := none
  /-- What the boot meets that the command causes (SYS_RESTART, IMG_ACTIVATE). -/
  boot : BootEnv := {}
  deriving DecidableEq, Repr

/-- How a host command was issued (R46, R54): its source, its host, TAG, FENCE and NOIRQ, its PLEN, the status that its
entry calls for where the entry itself is at fault (R46, R47, R58), and what the outside supplies with it. -/
structure Issue where
  src : CmdSrc
  host : HostId
  tag : W16 := 0
  fence : Bool := false
  noirq : Bool := false
  plen : Nat
  entryErr : Option Nat := none
  env : CmdEnv := {}
  deriving DecidableEq, Repr

/-- The body of a COMMAND_ACK frame (07). -/
structure AckBody where
  group : Byte
  result : Byte
  seq : W32
  deriving DecidableEq, Repr

/-- The body of an AV_ANNOUNCE frame (R431): IMAGE_ID, LENGTH, FLAGS, VERSION, SVN, ACTIVATE_AT and the CMAC. -/
structure AnnounceBody where
  image : W32
  length : W32
  flags : Byte
  version : W32
  svn : W32
  activateAt : W64 := 0
  cmac : Bytes
  deriving DecidableEq, Repr

/-- The body of an AV_ACK frame (R431). -/
structure AvAckBody where
  image : W32
  next : W16
  held : W16
  state : Byte
  deriving DecidableEq, Repr

/-- What Firn's 10 ms measurement of the monitors asks for (R475): the VDD_CORE target in mV that the ring oscillators
call for, the measured VDD_CORE in mV, and whether the regulator acknowledged. -/
structure AvsStep where
  want : Nat
  meas : Nat
  ack : Bool := true
  deriving DecidableEq, Repr

/-- The body of a BID frame (05). -/
structure BidBody where
  period : W32
  round : Byte
  flags : Byte
  sstat : Byte
  branch : W16
  age : Byte
  position : Byte
  crc : W32
  draws : List W64
  deriving DecidableEq, Repr

/-- A read of MB_ERR (R10, R11): by which host, and the CODE, QP and IMM of an error that arises in its cycle, in bits
[7:0] of `rising`, or 0. -/
structure ErrRead where
  host : HostId
  rising : W32 := 0
  deriving DecidableEq, Repr

/-- The data of a register write (R10, R11), and the W1C bits that hardware sets in its cycle. -/
structure WriteData where
  value : W32
  rising : W32 := 0
  deriving DecidableEq, Repr

/-- What a lane's run meets: the parts per million that clock spreading adds to SOLVCLK (at most 5,000; 17), and the
correctable errors of the lane's SRAM (R83). -/
structure RunMeets where
  spread : Nat
  corrected : Nat := 0
  deriving DecidableEq, Repr

/-- An uncorrectable error of a physical lane's SRAM, and the corrected errors of the run that it meets (R83). -/
structure LaneEcc where
  lane : Byte
  corrected : Nat := 0
  deriving DecidableEq, Repr

/-- What a calibration window measured beside its samples (R259): the mean frequency of the phase voltage, for which no method
is stated. -/
structure CalMeasure where
  freq : Dbl := 0
  deriving DecidableEq, Repr

/-- What a scrub pass over shared SRAM finds (R487): the addresses of 64-bit words with corrected and with uncorrectable
errors. -/
structure Findings where
  ce : List Nat
  ue : List Nat
  deriving DecidableEq, Repr

/-- The body of an AV_FRAG frame (R431): IMAGE_ID, BLOCK, FRAG, 1,024 data bytes and, in FRAG 3, the block CMAC. -/
structure FragBody where
  image : W32
  block : W16
  frag : BitVec 2
  data : Bytes
  cmac : Bytes := []
  deriving DecidableEq, Repr

/-- The header of a received Stoene field frame (R355), with the port on which it arrived, the bytes of its payload
after the header, and the arrival time. -/
structure FrameHeader where
  dst : W16
  src : W16
  sysid : W16
  version : Byte := 1
  len : Nat
  payload : Nat
  claim : W32 := 0
  port : Nat
  at_ : Nat
  /-- The frame passed MACsec. -/
  sec : Bool := true
  deriving DecidableEq, Repr

/-- The body of a HEARTBEAT frame (R373). -/
structure HeartbeatBody where
  state : Byte
  flags : Byte
  hbseq : W16
  pclaim : W32 := 0
  mseq : W32 := 0
  epoch : W32
  ns : W64 := 0
  deriving DecidableEq, Repr

/-- What the front end's filters deliver for a post of meter values (R265): the latest 800 aligned samples of each phase,
the frequency of each system over the last second, and the decimated samples of the auxiliary channels. -/
structure MeterWindow where
  phases : List (List (Dbl × Dbl × Dbl))
  freq : List Dbl
  aux : List Dbl
  deriving DecidableEq, Repr

/-- The body of a MIRROR_DATA frame: MSEQ, FLAGS ([0] carry, [1] resync) and the lines, each an offset and 64 bytes. -/
structure MirrorDataBody where
  mseq : W32
  flags : Byte
  lines : List (W32 × Bytes)
  deriving DecidableEq, Repr

/-- The body of a MIRROR_END frame. -/
structure MirrorEndBody where
  mseq : W32
  lines : W32
  flags : Byte
  deriving DecidableEq, Repr

/-- The body of a PLAN_COMMIT frame (05). -/
structure PlanBody where
  period : W32
  final : Byte
  npos : Byte
  chain : W16
  src : Bytes
  deriving DecidableEq, Repr

/-- The body of a PRICE frame (05). -/
structure PriceBody where
  period : W32
  round : Byte
  qk : Byte
  ps : Byte
  branch : W16
  crc : W32
  prices : List W64
  deriving DecidableEq, Repr

/-- One sample of the sixteen thermal sensors (R476), in units of 1/256 °C by sensor; a sensor that is not listed keeps
its reading. -/
structure Readings where
  temps : List W32
  deriving DecidableEq, Repr

/-- The body of a MIRROR_TABLE frame: BASE and LENGTH of the 80 regions in order. -/
structure Regions where
  entries : List (W32 × W32)
  deriving DecidableEq, Repr

/-- The body of a ROUND_START frame (05). -/
structure RoundStartBody where
  period : W32
  round : Byte
  nr : Byte
  stop : Bool
  pstart : W64
  periodS : W32
  solveUs : W32
  slotNs : W32
  bidwinUs : W32
  tr : W64
  deriving DecidableEq, Repr

/-- The MACsec tag of a received frame: AN, packet number, and whether its ICV verifies (R351). -/
structure SecTag where
  an : Nat
  pn : Nat
  icvOk : Bool
  deriving DecidableEq, Repr

/-- A frame as a port receives it: its bytes from destination address to payload end with SecTAG, ICV and FCS removed,
its length on the wire from destination address to FCS, whether its FCS is good, whether the elastic buffer failed
(R343), its SecTAG, and the instant at which its timestamp point is detected at ingress (R297). -/
structure RxFrame where
  bytes : Bytes
  wire : Nat
  fcsOk : Bool := true
  elastic : Bool := false
  sec : Option SecTag := none
  at_ : Nat
  /-- Partner clock offset in 0.01 ppm as measured (R343). -/
  ppm : Int := 0
  deriving DecidableEq, Repr

/-- What the decimation, delay and Hilbert filters deliver for an energy interval (R254, R255, R261): for each phase of
systems 0 and 1 in order, its aligned triples: voltage and current before gain and offset, and the shifted voltage. -/
structure Samples where
  phases : List (List (Dbl × Dbl × Dbl))
  deriving DecidableEq, Repr

/-- What a task's logic has stored in one cycle (R219, R226): runs of bytes at addresses of the memory map, in order. -/
structure Stores where
  writes : List (Nat × Bytes)
  deriving DecidableEq, Repr

/-- The body of a PUBLISH or COMMAND frame (07). -/
structure ValuesBody where
  group : Byte
  seq : W32
  values : List W64
  deriving DecidableEq, Repr

end Sys2Proof
end

