-- ==== Sys2Proof/Syntax.lean ====
section
/-! DEFINITION. The commands of the block: one constructor for each row of the opcode table, in the table's order. -/

namespace Sys2Proof

/-- A command that the outside world, a master or a block of the chip gives the STN-7240. Every command of the command
index (R76) comes first, with the issue that carries it; the events and accesses follow. -/
inductive Instr where
  /-- SYS_NOP (R76): Host command that echoes the first 12 parameter bytes in W0 to W2. -/
  | sysNop (i : Issue) (data : Bytes)
  /-- SYS_INFO (R512): Host command that returns the Firn version, the configuration format version, the device address and the LPDDR4X size code. -/
  | sysInfo (i : Issue)
  /-- SYS_WINDOW_SET (R72): Host command that moves the base of the BAR2 window in shared SRAM. -/
  | sysWindowSet (i : Issue) (base : W32)
  /-- SYS_ACCESS_GET (R448): Host command that reads one access-table entry of any master. -/
  | sysAccessGet (i : Issue) (target : Byte) (master : Byte) (region : Byte)
  /-- SYS_ACCESS_SET (R448): Host command that checks and writes one access-table entry of HOSTP or HOSTS. -/
  | sysAccessSet (i : Issue) (target : Byte) (master : Byte) (region : Byte) (rights : Byte) (start : W32) (stop : W32)
  /-- SYS_EVENT_ROUTE (R76): Host command that routes an event source to an MSI-X vector. -/
  | sysEventRoute (i : Issue) (source : Byte) (vector : Byte)
  /-- SYS_ROLE_MAP (R491): Host command that returns the tile-to-role map, the reserve tile, the retired tiles and the time to the next rotation instant. -/
  | sysRoleMap (i : Issue)
  /-- SYS_ROTATE (R491): Host command that sets the rotation interval and can request a rotation instant at once. -/
  | sysRotate (i : Issue) (interval : W32) (now : Byte)
  /-- SYS_CONFIG_READ (R76): Host command that reads a configuration record into a buffer. -/
  | sysConfigRead (i : Issue) (record : W16) (buf : Buf)
  /-- SYS_CONFIG_WRITE (R442): Host command that checks and stores a configuration record in the firmware's format. -/
  | sysConfigWrite (i : Issue) (record : W16) (buf : Buf)
  /-- SYS_RESTART (R478): Host command that restarts Firn or causes a system reset. -/
  | sysRestart (i : Issue) (kind : Byte)
  /-- SOLV_BATCH_SUBMIT (R115): Host command that checks a batch descriptor and queues the batch. -/
  | solvBatchSubmit (i : Issue) (desc : Buf) (notify : Byte)
  /-- SOLV_BATCH_STATUS (R123): Host command that returns the done count, the carried count and the state of a batch. -/
  | solvBatchStatus (i : Issue) (batch : W32)
  /-- SOLV_BATCH_WAIT (R123): Asynchronous host command that completes at batch completion or at its timeout. -/
  | solvBatchWait (i : Issue) (batch : W32) (timeout : W32)
  /-- SOLV_BATCH_CANCEL (R123): Host command that gives CANCELLED to every undispatched problem of a batch. -/
  | solvBatchCancel (i : Issue) (batch : W32)
  /-- SOLV_LANE_STATUS (R76): Host command that returns the logical lanes in service and the retired physical lanes. -/
  | solvLaneStatus (i : Issue)
  /-- SOLV_LANE_RETIRE (R84): Host command that retires a physical lane and remaps its logical lane to a spare. -/
  | solvLaneRetire (i : Issue) (lane : Byte)
  /-- SOLV_PARAM_SET (R110): Host command that sets PIVTOL and REGDELTA for later dispatches. -/
  | solvParamSet (i : Issue) (pivtol : Dbl) (regdelta : Dbl)
  /-- DRIFT_NET_CONFIG (R180): HEAD command that stores the network configuration from the next period start. -/
  | driftNetConfig (i : Issue) (buf : Buf)
  /-- DRIFT_PERIOD_SET (R180): Host command that sets the district period, the number of rounds and the start time. -/
  | driftPeriodSet (i : Issue) (period : W32) (rounds : Byte) (start : W64)
  /-- DRIFT_TEMPLATE_SET (R162): STATION command that checks and stores the local-problem template. -/
  | driftTemplateSet (i : Issue) (buf : Buf)
  /-- DRIFT_SLOT_SET (R180): STATION command that sets the chain position and the bid slot. -/
  | driftSlotSet (i : Issue) (position : Byte) (slot : W16)
  /-- DRIFT_FALLBACK_SET (R180): STATION command that stores the fallback plan values and HOLD_TIME. -/
  | driftFallbackSet (i : Issue) (buf : Buf) (hold : Byte)
  /-- DRIFT_START (R180): HEAD command that starts drift rounds at the first period start at least 1 s after completion. -/
  | driftStart (i : Issue)
  /-- DRIFT_STOP (R180): HEAD command that stops the launch of drift frames. -/
  | driftStop (i : Issue)
  /-- DRIFT_PRICES_READ (R181): HEAD command that writes the PRICE bodies of a round into a buffer. -/
  | driftPricesRead (i : Issue) (period : W32) (round : Byte) (buf : Buf)
  /-- DRIFT_PLAN_READ (R181): Host command that writes the plan of a period into a buffer. -/
  | driftPlanRead (i : Issue) (period : W32) (buf : Buf)
  /-- DRIFT_BID_READ (R181): STATION command that writes the BID body of a round into a buffer. -/
  | driftBidRead (i : Issue) (period : W32) (round : Byte) (buf : Buf)
  /-- LOOP_DESC_WRITE (R211): Host command that checks and writes a bank or the configuration of a loop. -/
  | loopDescWrite (i : Issue) (loop : W16) (bank : Byte) (buf : Buf)
  /-- LOOP_DESC_READ (R211): Host command that reads part 0 to 3 of a loop coherently. -/
  | loopDescRead (i : Issue) (loop : W16) (bank : Byte) (buf : Buf)
  /-- LOOP_BANK_SWAP (R206): Asynchronous host command that requests a bank swap at the loop's next sample boundary. -/
  | loopBankSwap (i : Issue) (loop : W16)
  /-- LOOP_MODE_SET (R213): Host command that requests a loop mode under the load rule and R201. -/
  | loopModeSet (i : Issue) (loop : W16) (mode : Byte) (manual : Dbl)
  /-- LOOP_TUNE_START (R207): Host command that arms a relay auto-tune of a loop from its next sample boundary. -/
  | loopTuneStart (i : Issue) (loop : W16) (cycles : Byte) (amplitude : Dbl) (hysteresis : Dbl)
  /-- LOOP_TUNE_RESULT (R213): Host command that returns the tune state and Tu. -/
  | loopTuneResult (i : Issue) (loop : W16)
  /-- LOOP_STATUS (R213): Host command that returns LOOP_STATk and LOOP_OUTk. -/
  | loopStatus (i : Issue) (loop : W16)
  /-- CYC_LOAD (R214): Host command that checks a CYC program container and stores it as the pending program. -/
  | cycLoad (i : Issue) (buf : Buf)
  /-- CYC_START (R231): Host command that starts the runtime cold, warm or hot. -/
  | cycStart (i : Issue) (mode : Byte)
  /-- CYC_STOP (R233): Asynchronous host command that stops every task after its current cycle. -/
  | cycStop (i : Issue)
  /-- CYC_ONLINE_CHANGE (R239): Asynchronous host command that switches the running tasks to the pending program at the switch instant. -/
  | cycOnlineChange (i : Issue)
  /-- CYC_FORCE_SET (R235): Host command that forces a symbol to a value. -/
  | cycForceSet (i : Issue) (symbol : W32) (type : Byte) (value : W64)
  /-- CYC_FORCE_CLEAR (R237): Host command that removes one force or all forces. -/
  | cycForceClear (i : Issue) (symbol : W32)
  /-- CYC_FORCE_LIST (R237): Host command that writes one entry per force into a buffer. -/
  | cycForceList (i : Issue) (buf : Buf)
  /-- CYC_TASK_STATUS (R250): Host command that returns the period, the last run and the longest run of a task. -/
  | cycTaskStatus (i : Issue) (task : Byte)
  /-- CYC_VAR_READ (R250): Host command that copies a program variable into a buffer. -/
  | cycVarRead (i : Issue) (symbol : W32) (buf : Buf)
  /-- CYC_VAR_WRITE (R250): Asynchronous host command that writes a variable after the next latch of its lowest task. -/
  | cycVarWrite (i : Issue) (symbol : W32) (buf : Buf)
  /-- MTR_CHAN_CONFIG (R256): Host command that sets the gain, offset and delay of a metering channel. -/
  | mtrChanConfig (i : Issue) (channel : Byte) (gain : Dbl) (offset : Dbl) (delay : W16)
  /-- MTR_ENERGY_READ (R283): Host command that returns an accumulator at the last interval commit. -/
  | mtrEnergyRead (i : Issue) (system : Byte) (phase : Byte) (quantity : Byte)
  /-- MTR_DELTA_READ (R267): Host command that returns the delta counter and WRAP_CNT of an accumulator. -/
  | mtrDeltaRead (i : Issue) (system : Byte) (phase : Byte) (quantity : Byte)
  /-- MTR_CAL_START (R259): Asynchronous host command that measures a channel against a reference and proposes a calibration value. -/
  | mtrCalStart (i : Issue) (channel : Byte) (buf : Buf)
  /-- MTR_PULSE_CONFIG (R270): Host command that sets the constant and width of a pulse output and rebases it. -/
  | mtrPulseConfig (i : Issue) (output : Byte) (constant : W32) (width : W16)
  /-- MTR_HEAT_CONFIG (R272): Host command that configures a thermal-energy calculator. -/
  | mtrHeatConfig (i : Issue) (calculator : Byte) (buf : Buf)
  /-- MTR_HEAT_READ (R283): Host command that writes the committed results of a calculator into a buffer. -/
  | mtrHeatRead (i : Issue) (calculator : Byte) (buf : Buf)
  /-- MTR_SAVE_NOW (R276): Asynchronous host command that requests a meter save at the next interval commit. -/
  | mtrSaveNow (i : Issue)
  /-- TIME_READ (R287): Host command that returns a capture of the time base. -/
  | timeRead (i : Issue)
  /-- TIME_SET (R293): Host command that takes the single step of the time base from UNSET. -/
  | timeSet (i : Issue) (ns : W64)
  /-- TIME_STATE (R314): Host command that returns the time-base state, the last SOFF and the rate. -/
  | timeState (i : Issue)
  /-- TIME_PORT_CORR (R298): Host command that sets the ingress, egress and asymmetry corrections of a stamped port. -/
  | timePortCorr (i : Issue) (port : Byte) (ingress : W32) (egress : W32) (asymmetry : W32)
  /-- TIME_PTP_CONFIG (R303): Host command that checks and applies the PTP configuration. -/
  | timePtpConfig (i : Issue) (buf : Buf)
  /-- TIME_EVENT_CONFIG (R312): Host command that sets the mode of a TEVT pin and flushes its FIFO. -/
  | timeEventConfig (i : Issue) (pin : Byte) (mode : Byte)
  /-- CAL_READ (R322): Host command that returns one coherent calendar reading. -/
  | calRead (i : Issue)
  /-- CAL_WRITE (R324): Host command that writes the calendar staging registers and can commit them. -/
  | calWrite (i : Issue) (values : W64) (commit : Byte)
  /-- CAL_DST_SHIFT (R325): Host command that shifts the calendar one hour forward or back for summer time. -/
  | calDstShift (i : Issue) (direction : Byte)
  /-- CAL_ALARM_SET (R331): Host command that sets an alarm's values, mask and enable. -/
  | calAlarmSet (i : Issue) (alarm : Byte) (values : W64) (mask : Byte)
  /-- CAL_TRIM_MEASURE (R332): Asynchronous host command that measures the calendar rate error against mains or the time base. -/
  | calTrimMeasure (i : Issue) (source : Byte) (seconds : W16)
  /-- CAL_TRIM_SET (R333): Host command that sets the calendar trim. -/
  | calTrimSet (i : Issue) (trim : W16)
  /-- NET_PORT_CONFIG (R359): Host command that configures a switch port or the CPU port's value groups. -/
  | netPortConfig (i : Issue) (port : Byte) (buf : Buf)
  /-- NET_PORT_STATUS (R362): Host command that returns the link state and the frame counts of a port. -/
  | netPortStatus (i : Issue) (port : Byte)
  /-- NET_ADDR_SET (R357): Host command that sets and stores the unit's field address. -/
  | netAddrSet (i : Issue) (address : W16)
  /-- NET_VLAN_SET (R350): Host command that sets the VLAN membership list of a port. -/
  | netVlanSet (i : Issue) (port : Byte) (buf : Buf)
  /-- NET_MACSEC_SA (R352): Host command that installs a MACsec secure association keyed from a key slot. -/
  | netMacsecSa (i : Issue) (port : Byte) (direction : Byte) (an : Byte) (slot : Byte) (pn : W64)
  /-- NET_QUEUE_CONFIG (R348): Host command that sets the gating and late mode of an egress queue. -/
  | netQueueConfig (i : Issue) (port : Byte) (queue : Byte) (buf : Buf)
  /-- NET_UART_CONFIG (R360): Host command that sets the mode, format, rate and timeout of a UART. -/
  | netUartConfig (i : Issue) (uart : Byte) (buf : Buf)
  /-- NET_FRAME_SEND (R362): Asynchronous host command that queues a frame on a port, or runs a UART transaction. -/
  | netFrameSend (i : Issue) (port : Byte) (queue : Byte) (launch : W64) (buf : Buf)
  /-- PAIR_CONFIG (R387): Host command that stores the pair configuration, which can clear the highest claims. -/
  | pairConfig (i : Issue) (buf : Buf)
  /-- PAIR_STATUS (R387): Host command that returns the pair state, the own claim and the partner's claim. -/
  | pairStatus (i : Issue)
  /-- PAIR_MIRROR_SET (R377): Host command that sets or deletes a mirror region or a carry range. -/
  | pairMirrorSet (i : Issue) (region : Byte) (base : W32) (length : W32)
  /-- PAIR_SWAP (R383): Asynchronous host command that starts a swap of the active and standby units. -/
  | pairSwap (i : Issue)
  /-- PAIR_RESYNC (R384): Asynchronous standby command that requests a resynchronisation. -/
  | pairResync (i : Issue)
  /-- FAULT_STATUS (R403): Host command that returns FIRST_SRC, OVERFLOW and the count of sources asserted. -/
  | faultStatus (i : Issue)
  /-- FAULT_READ_ALL (R403): Host command that writes the 72-byte fault record taken on one edge. -/
  | faultReadAll (i : Issue) (buf : Buf)
  /-- FAULT_CLEAR (R401): Host command that makes a clear request, which ends FREEZE if no source is asserted. -/
  | faultClear (i : Issue)
  /-- FAULT_SAFE_SET (R398): Host command that sets the safe value of an output. -/
  | faultSafeSet (i : Issue) (output : W16) (value : W64)
  /-- FAULT_TEST (R402): Host command that sets one source's condition for one edge. -/
  | faultTest (i : Issue) (source : Byte)
  /-- LOG_READ (R416): Host command that copies filtered log records into a buffer. -/
  | logRead (i : Issue) (first : W64) (count : W32) (filter : W16) (buf : Buf)
  /-- LOG_STATUS (R418): Host command that returns the newest and oldest sequence numbers and LOG_LOST_CNT. -/
  | logStatus (i : Issue)
  /-- LOG_FLUSH (R413): Asynchronous host command that completes when a flush started after it has ended. -/
  | logFlush (i : Issue)
  /-- LOG_RATE_SET (R411): Host command that sets the rate and burst of a code's rate entry. -/
  | logRateSet (i : Issue) (code : W16) (rate : W16) (burst : W16)
  /-- LOG_SEAL (R417): Asynchronous host command that HMAC-seals a range of flushed records. -/
  | logSeal (i : Issue) (slot : Byte) (first : W64) (last : W64)
  /-- LOG_WRITE (R418): Host command that posts a user log code. -/
  | logWrite (i : Issue) (code : W16) (p0 : W32) (p1 : W32) (p2 : W32)
  /-- IMG_OPEN (R428): Host command that opens a slot for writing an image. -/
  | imgOpen (i : Issue) (slot : Byte) (size : W32)
  /-- IMG_WRITE (R429): Host command that writes up to 64 KB into the open slot. -/
  | imgWrite (i : Issue) (offset : W32) (buf : Buf)
  /-- IMG_CLOSE (R430): Host command that checks the written container and makes the slot STAGED. -/
  | imgClose (i : Issue)
  /-- IMG_ACTIVATE (R439): Asynchronous host command that activates a component of an image. -/
  | imgActivate (i : Issue) (component : Byte)
  /-- IMG_STATUS (R446): Host command that returns the slot states, the boot counters and the running version. -/
  | imgStatus (i : Issue)
  /-- IMG_AVALANCHE_START (R437): HEAD command that starts Avalanche distribution of a slot image on a port. -/
  | imgAvalancheStart (i : Issue) (port : Byte) (slot : Byte)
  /-- KEY_DERIVE (R455): Host command that derives a key slot from its parent, or installs a root with parent 0xFF. -/
  | keyDerive (i : Issue) (parent : Byte) (target : Byte) (usage : Byte) (label : Buf)
  /-- KEY_INVALIDATE (R458): Host command that invalidates a key slot and its descendants. -/
  | keyInvalidate (i : Issue) (slot : Byte)
  /-- KEY_SLOT_INFO (R467): Host command that returns the metadata of a key slot. -/
  | keySlotInfo (i : Issue) (slot : Byte)
  /-- KEY_TAMPER_STATUS (R467): Host command that returns the latched and live tamper inputs and the root state. -/
  | keyTamperStatus (i : Issue)
  /-- KEY_TAMPER_CONFIG (R461): Host command that sets the mode of a tamper input. -/
  | keyTamperConfig (i : Issue) (input : Byte) (mode : Byte)
  /-- KEY_DEBUG_UNLOCK (R465): Host command that presents a signed debug response to the Guard. -/
  | keyDebugUnlock (i : Issue) (buf : Buf)
  /-- PWR_DOMAIN_SET (R468): Asynchronous host command that switches a power domain or sub-block on or off. -/
  | pwrDomainSet (i : Issue) (domain : Byte) (onFlag : Byte)
  /-- PWR_STATUS (R491): Host command that returns the domains on, the feed state and the hottest sensor. -/
  | pwrStatus (i : Issue)
  /-- PWR_THERMAL_READ (R491): Host command that returns one thermal sensor reading. -/
  | pwrThermalRead (i : Issue) (sensor : Byte)
  /-- PWR_REPAIR_STATUS (R491): Host command that returns the SRAM spare rows used, the MRAM sectors remapped and the PLL state. -/
  | pwrRepairStatus (i : Issue)
  /-- UNKNOWN_OPCODE (R78): A command whose opcode is not in the index completes with E_OPCODE. -/
  | unknownOpcode (i : Issue) (opcode : W16)
  /-- DOORBELL_WRITE (R51): A host write of MB_DBk sets the SQ tail and CQ head of a queue pair, or is handled as a doorbell error. -/
  | doorbellWrite (host : HostId) (pair : Byte) (value : W32)
  /-- QUEUE_ENABLE (R43): A host write that sets MB_QP_CTRL.ENABLE makes Firn check the descriptor and activate the pair. -/
  | queueEnable (host : HostId) (pair : Byte) (value : W32)
  /-- QUEUE_DISABLE (R45): A host write that clears MB_QP_CTRL.ENABLE makes Firn drain and deactivate the pair. -/
  | queueDisable (host : HostId) (pair : Byte) (value : W32)
  /-- IMMEDIATE_GO (R62): A write of MB_IMM_CTRL.GO submits the immediate mailbox entry. -/
  | immediateGo (host : HostId)
  /-- COMMAND_FETCH (R54): Firn takes the next command from an active pair or the immediate mailbox by priority and round robin. -/
  | commandFetch (env : CmdEnv)
  /-- MB_ERR_READ (R10): A read of MB_ERR returns the last mailbox error and clears it. -/
  | mbErrRead (host : ErrRead)
  /-- MB_EVENT_CLEAR (R61): A W1C write of MB_EVENT clears event bits, subject to the set-wins rule. -/
  | mbEventClear (host : HostId) (value : W32) (rising : W16)
  /-- PCIE_LINK_RESET (R37): PERST_N, Function Level Reset, D3hot entry or link loss resets the endpoint, MSI-X, events and the HOSTP queue pairs. -/
  | pcieLinkReset (cause : LinkReset)
  /-- BAR0_BAD_ACCESS (R35): A BAR0 access that is not a single aligned 32-bit access completes with Unsupported Request and is discarded. -/
  | bar0BadAccess (write : Bool) (offset : Nat) (length : Nat)
  /-- BAR2_ERROR_ACCESS (R38): A BAR2 access that receives the fabric error response completes normally and sets MB_ERR code 5. -/
  | bar2ErrorAccess (host : HostId) (write : Bool) (offset : W32) (length : Nat)
  /-- UNSUPPORTED_REQUEST (R33): A PCIe request that needs an unlisted feature completes with Unsupported Request. -/
  | unsupportedRequest
  /-- WRITE_ENABLE (R39): Octal SPI command 0x06 sets WEL. -/
  | writeEnable
  /-- WRITE_DISABLE (R39): Octal SPI command 0x04 clears WEL. -/
  | writeDisable
  /-- READ_STATUS (R39): Octal SPI command 0x05 returns WIP and WEL. -/
  | readStatus
  /-- READ_ID (R39): Octal SPI command 0x9F returns the 4 bytes of MB_ID. -/
  | readId
  /-- FAST_READ (R40): Octal SPI command 0x0C reads from the SPI address map. -/
  | fastRead (address : W32) (length : Nat)
  /-- PAGE_PROGRAM (R40): Octal SPI command 0x12 writes 1 to 256 bytes to the SPI address map and clears WEL. -/
  | pageProgram (address : W32) (data : Bytes)
  /-- ENTER_OCTAL_SDR (R39): Octal SPI command 0xE8 switches the target to 8S-8S-8S mode. -/
  | enterOctalSdr
  /-- EXIT_OCTAL (R39): Octal SPI command 0xFF returns the target to 1S-1S-1S mode. -/
  | exitOctal
  /-- SPI_RESET (R41): The SPI Reset sequence resets the SPI target, its frame mode, WEL and the HOSTS queue pairs. -/
  | spiReset
  /-- SPI_IGNORED_COMMAND (R39): An unsupported Octal SPI command, mode or erase has no effect. -/
  | spiIgnoredCommand (code : Byte)
  /-- POWER_ON_RESET (R1): The rising edge of PORST_N samples the straps and starts the chip. -/
  | powerOnReset (straps : Straps) (env : BootEnv)
  /-- SYSTEM_RESET (R478): A system reset restarts everything except PD0 AON and MRAM. -/
  | systemReset (cause : Byte) (env : BootEnv)
  /-- BOOT_GOOD (R426): Firn declares the boot good by setting BOOT_CTRL.GOOD once roles run, the configuration has loaded and 60 s have passed. -/
  | bootGood (at_ : Nat)
  /-- BOOT_TIMEOUT (R426): 120 s without a good declaration fails the boot and causes a system reset. -/
  | bootTimeout (env : BootEnv)
  /-- FIRN_RESTART_UNPLANNED (R69): An unplanned Firn restart completes each started command with E_HANDOVER. -/
  | firnRestartUnplanned (at_ : Nat) (env : BootEnv)
  /-- FIRN_WDOG (R388): Firn fails to refresh its watchdog within 500 ms, latching source 1 and restarting Firn unplanned. -/
  | firnWdog (at_ : Nat) (env : BootEnv)
  /-- FIRN_LOCKSTEP (R388): T0 and T1 disagree at a compare point. -/
  | firnLockstep (env : BootEnv)
  /-- BATCH_TILE_SUBMIT (R116): A tile's write of SOLV_TSUB_CTRL.GO submits a batch from its banked descriptor offset. -/
  | batchTileSubmit (master : Master) (value : W32)
  /-- PROBLEM_DISPATCH (R119): SEQ gives a free logical lane the next admitted problem in queue order. -/
  | problemDispatch (at_ : Nat)
  /-- PROBLEM_END (R106): A lane ends a problem run and writes its result record. -/
  | problemEnd (lane : Byte) (spread : RunMeets)
  /-- LANE_ECC_UNCORRECTABLE (R107): An uncorrectable ECC error in lane SRAM stops the run, re-dispatches the problem and retires the lane. -/
  | laneEccUncorrectable (lane : LaneEcc)
  /-- DEADLINE_WITHOUT_LANE (R514): SEQ ends, without a lane, an undispatched problem whose mask admits no lane once its deadline is reached. -/
  | deadlineWithoutLane (at_ : Nat)
  /-- ROUND_START_INSTANT (R152): At t_r the HEAD launches ROUND_START and PRICE frames and submits its supply problems. -/
  | roundStartInstant (at_ : Nat)
  /-- ROUND_START (R176): A STATION receives a ROUND_START frame and accepts it under the claim check. -/
  | roundStart (header : FrameHeader) (body : RoundStartBody)
  /-- PRICE (R163): A STATION receives a PRICE frame of its branch and assembles and submits its local problem. -/
  | price (header : FrameHeader) (body : PriceBody)
  /-- BID_QUEUE (R164): At the result header write, SEQ computes draws and queues the bid for launch at L. -/
  | bidQueue (at_ : Nat)
  /-- BID (R167): The HEAD receives a BID frame and accepts or discards it. -/
  | bid (header : FrameHeader) (body : BidBody)
  /-- BID_CLOSE (R168): At C_r the HEAD assigns each station a source code and draws. -/
  | bidClose (at_ : Nat)
  /-- PLAN_COMMIT_INSTANT (R173): At t_c the HEAD launches one PLAN_COMMIT frame per chain. -/
  | planCommitInstant (at_ : Nat)
  /-- PLAN_COMMIT (R174): A STATION receives a PLAN_COMMIT frame and stages its plan values. -/
  | planCommit (header : FrameHeader) (body : PlanBody)
  /-- PLAN_HOLD_EXPIRY (R175): With no accepted plan by T_(j+1+HOLD_TIME), a STATION stages its fallback values. -/
  | planHoldExpiry (at_ : Nat)
  /-- PLAN_APPLY (R192): At the first tick at or after LOOP_PLAN_EFF, the engine copies the staged plan to the applied plan. -/
  | planApply (at_ : Nat)
  /-- PLAN_ARM (R192): A write of LOOP_PLAN_CTRL.ARM arms the staged plan. -/
  | planArm (master : Master)
  /-- LOOP_TICK (R184): At each 10 µs tick the engine determines the due loops and evaluates them in order. -/
  | loopTick (at_ : Nat)
  /-- TUNE_PROPOSED (R210): After DONE, Firn computes the Tyreus–Luyben coefficients and writes them into the inactive bank. -/
  | tuneProposed
  /-- LOOP_SETMODE (R201): A write of LOOP_CMDk with SETMODE requests a mode change. -/
  | loopSetmode (master : Master) (loop : Byte) (mode : Byte) (bumpless : Bool)
  /-- LOOP_SWAP (R206): A write of LOOP_CMDk with SWAP requests a bank swap. -/
  | loopSwap (master : Master) (loop : Byte)
  /-- TUNE_ABORT (R209): A write of LOOP_CMDk with TUNE_ABORT ends a tune with ABORTED. -/
  | tuneAbort (master : Master) (loop : Byte)
  /-- PAIR_HI_WRITE (R212): A write to the _HI half of a 64-bit register pair commits both halves. -/
  | pairHiWrite (master : Master) (address : Nat) (value : W32)
  /-- PAIR_LO_READ (R212): A read of the _LO half of a 64-bit register pair captures _HI into a shadow. -/
  | pairLoRead (master : Master) (address : Nat)
  /-- LOOP_DDATA_ACCESS (R211): A Firn access of LOOP_DDATA moves a descriptor word and advances the word index. -/
  | loopDdataAccess (master : Master) (write : Bool) (value : W32)
  /-- TASK_RELEASE (R218): At a task's release tick, a latch request is made to the image engine. -/
  | taskRelease (task : Byte) (at_ : Nat)
  /-- LATCH_COMPLETE (R222): The image engine completes a latch and the task's tile is interrupted. -/
  | latchComplete (at_ : Nat)
  /-- TASK_END (R222): A write of CYC_TEND ends a task's logic and requests its commit. -/
  | taskEnd (master : Master) (task : Byte) (stores : Stores)
  /-- COMMIT_COMPLETE (R222): The image engine completes a commit, driving outputs, queueing commands and snapshotting retentive lines. -/
  | commitComplete (at_ : Nat)
  /-- OVERRUN (R224): A commit not complete by release tick plus PERIOD × OVF / 16 halts the runtime and asserts the overrun source. -/
  | overrun (task : Byte) (at_ : Nat)
  /-- RET_BUDGET (R227): The 1,025th dirty retentive line of a cycle halts the runtime. -/
  | retBudget (task : Byte)
  /-- RETENTIVE_DRAIN (R228): The engine drains a commit buffer to MRAM under the task's commit marker. -/
  | retentiveDrain
  /-- SWITCH_INSTANT (R239): At S, releases start running the pending program and forces are filtered. -/
  | switchInstant (at_ : Nat)
  /-- PUBLISH_LAUNCH (R245): A publication is launched at its interval tick with its task's latest values. -/
  | publishLaunch (group : Byte) (at_ : Nat)
  /-- PUBLISH (R246): A received PUBLISH frame valid for a subscription writes values with quality GOOD. -/
  | publish (header : FrameHeader) (body : ValuesBody)
  /-- CHECK_INSTANT (R246): At a subscription's check instant, missing frames raise the miss count and quality. -/
  | checkInstant (at_ : Nat)
  /-- COMMAND (R247): A received COMMAND frame is accepted into a subscription and acknowledged. -/
  | command (header : FrameHeader) (body : ValuesBody)
  /-- COMMAND_ACK (R248): A received COMMAND_ACK updates the sender's station status word. -/
  | commandAck (header : FrameHeader) (body : AckBody)
  /-- COMMAND_HOLD_EXPIRY (R249): When a command subscription's hold expires, it writes its fallback values. -/
  | commandHoldExpiry (at_ : Nat)
  /-- VALUE_GROUP_LAUNCH (R358): A loop value group is launched as a PUBLISH at its interval tick. -/
  | valueGroupLaunch (group : Byte) (at_ : Nat)
  /-- INTERVAL_COMMIT (R263): At the end of each 100 ms energy interval, all accumulators are updated on one edge. -/
  | intervalCommit (at_ : Nat) (samples : Samples)
  /-- SAVE_WRITE_COMPLETE (R276): The save engine completes writing a slot with its CRC. -/
  | saveWriteComplete
  /-- METER_VALUE_POST (R265): The front end posts meter values 64 MTRCLK after each aligned sample. -/
  | meterValuePost (window : MeterWindow)
  /-- CH_FAULT (R260): A channel becomes faulted on a stuck stream or full scale. -/
  | chFault (channel : Byte) (cause : Byte)
  /-- CH_RECOVER (R260): A faulted channel recovers after 800 clean samples. -/
  | chRecover (channel : Byte)
  /-- PULSE_EMITTER_TICK (R271): At each millisecond tick, the pulse emitter starts a pending pulse when allowed. -/
  | pulseEmitterTick (at_ : Nat)
  /-- PULSE_INPUT_EDGE (R269): A filtered rising edge on PINk increments its counter. -/
  | pulseInputEdge (pin : Byte)
  /-- CALCULATOR_STEP (R273): Every 10 interval commits, the MTR role computes a thermal step. -/
  | calculatorStep (calculator : Byte) (at_ : Nat)
  /-- HEAT_COMMIT (R275): A write of MTR_HEATc_CTRL.COMMIT copies a calculator's staging registers on one edge. -/
  | heatCommit (master : Master) (calculator : Byte)
  /-- SAVE_REQUEST (R276): A Firn write of MTR_SAVE_CTRL.NOW requests a command save at the next interval commit. -/
  | saveRequest (master : Master)
  /-- CALIBRATION_WINDOW_END (R259): A calibration measurement window ends and its proposal is returned. -/
  | calibrationWindowEnd (measured : CalMeasure)
  /-- POWER_FAIL_WARNING (R277): Both feeds below 3.0 V take a power-fail save, a retentive drain and a log flush. -/
  | powerFailWarning
  /-- FEED_LOST (R386): A feed falls below 3.00 V; the selector changes over and the loss is logged. -/
  | feedLost (feed : Byte)
  /-- FEED_OK (R386): A feed rises above 3.05 V and becomes OK. -/
  | feedOk (feed : Byte)
  /-- SERVO_UPDATE (R292): A write of TIME_SERVO_CTRL.UPDATE submits SOFF to the state machine. -/
  | servoUpdate (master : Master)
  /-- SERVO_STEP (R293): A write of TIME_SERVO_CTRL.STEP requests the time-base step. -/
  | servoStep (master : Master)
  /-- STEP_CANCEL (R293): A write of TIME_SERVO_CTRL.STEP_CANCEL removes a pending step. -/
  | stepCancel (master : Master)
  /-- STEP_TAKEN (R294): At STEP_AT the time base loads STEP_VAL and drops launch-timed frames. -/
  | stepTaken
  /-- ADJ_WRITE (R286): A write of TIME_ADJ sets the rate correction, clamping it if needed. -/
  | adjWrite (master : Master) (value : W32)
  /-- TIME_NOW_CAPTURE (R287): A read of TIME_NOW_LO captures all 96 bits of the time base. -/
  | timeNowCapture (master : Master)
  /-- LOCK_LOST (R288): No update for HOLD_LIMIT seconds moves LOCKED to STEPPED. -/
  | lockLost
  /-- HOLDOVER (R289): One second without an update while LOCKED sets HOLDOVER. -/
  | holdover
  /-- PPS_IN_EDGE (R311): A filtered rising edge on PPS_IN is stamped. -/
  | ppsInEdge (at_ : Nat)
  /-- PPS_IN_LOSS (R311): No PPS_IN edge for 2 s sets PPSIN_LOSS. -/
  | ppsInLoss
  /-- PPS_OUT_PULSE (R310): PPS_OUT rises at each whole second plus PPS_CORR. -/
  | ppsOutPulse (at_ : Nat)
  /-- TEVT_CAPTURE (R312): An edge on a capture-mode TEVT pin pushes a stamp into its FIFO. -/
  | tevtCapture (pin : Byte) (rising : Bool) (at_ : Nat)
  /-- TEVT_COMPARE (R312): A compare or periodic TEVT pin fires when the time base reaches CMP. -/
  | tevtCompare (pin : Byte) (at_ : Nat)
  /-- TEVT_ARM (R312): A write of TIME_EVk_CMP_HI arms a compare. -/
  | tevtArm (master : Master) (pin : Byte) (value : W32)
  /-- TEVT_FIFO_READ (R313): A read of TIME_EVk_FIFO_LO removes the oldest capture stamp. -/
  | tevtFifoRead (master : Master) (pin : Byte)
  /-- FRAME_LAUNCH (R304): At a symbol boundary an idle port starts the eligible head frame. -/
  | frameLaunch (port : Byte) (boundary : Nat) (interval : Nat) (stamp : Nat) (frac : Nat)
  /-- CUT_THROUGH (R340): A frame arriving on a T1L port is forwarded to the other T1L port 13.6 µs later. -/
  | cutThrough (port : Byte) (frame : RxFrame)
  /-- FRAME_RECEIVE (R339): A received frame is checked, stamped and sent to its egress ports or the CPU port. -/
  | frameReceive (port : Byte) (frame : RxFrame)
  /-- TX_TAIL_WRITE (R342): A write of PORT_TXTAIL hands CPU frames to the switch. -/
  | txTailWrite (master : Master) (value : W32)
  /-- LINK_UP (R335): A port's link comes up. -/
  | linkUp (port : Byte) (speed : Byte)
  /-- LINK_DOWN (R340): A port's link goes down. -/
  | linkDown (port : Byte)
  /-- UART_GO (R361): A write of PORT_Uk_CTRL.GO starts a UART transaction. -/
  | uartGo (master : Master) (uart : Byte)
  /-- UART_RESPONSE (R361): A UART transaction ends with a response, a bad frame or a timeout. -/
  | uartResponse (uart : Byte) (result : Byte) (data : Bytes) (stamp : Nat)
  /-- CALENDAR_ROLLOVER (R316): The prescaler reaches the second's length and the calendar advances one second. -/
  | calendarRollover
  /-- CAL_COMMIT (R323): A write of CAL_CTRL.COMMIT loads the staged calendar values. -/
  | calCommit (master : Master) (roll : Bool)
  /-- CAL_CAPTURE (R321): In HEAD, a write of CAL_CTRL.CAPTURE latches the calendar and the time base. -/
  | calCapture (master : Master) (roll : Bool)
  /-- DST_FWD (R325): A write of CAL_CTRL.DST_FWD shifts the calendar one hour forward. -/
  | dstFwd (master : Master) (roll : Bool)
  /-- DST_BACK (R325): A write of CAL_CTRL.DST_BACK shifts the calendar one hour back. -/
  | dstBack (master : Master) (roll : Bool)
  /-- CAL_GROUP_READ (R320): In STATION, a read of a calendar group register freezes or uses the master's shadow. -/
  | calGroupRead (master : Master) (field : Byte)
  /-- SHADOW_RELEASE (R320): A frozen calendar shadow is freed 600,000 FABCLK after its freeze. -/
  | shadowRelease (master : Master)
  /-- TRIM_WINDOW_CLOSE (R332): The trim measurement window closes and the error is computed. -/
  | trimWindowClose
  /-- OSCSTOP (R318): No AONCLK edge within 1 ms clears VALID. -/
  | oscstop
  /-- VBAT_MEASURE (R319): The per-minute VBAT measurement sets or clears BATLOW. -/
  | vbatMeasure (low : Bool)
  /-- HEARTBEAT_LAUNCH (R373): The pair unit launches a HEARTBEAT at each whole millisecond. -/
  | heartbeatLaunch (at_ : Nat)
  /-- HEARTBEAT (R373): A received HEARTBEAT frame is judged valid and updates the partner state. -/
  | heartbeat (header : FrameHeader) (body : HeartbeatBody)
  /-- HEARTBEAT_CHECK (R374): A standby checks for heartbeats at each half millisecond and applies the loss condition. -/
  | heartbeatCheck (at_ : Nat)
  /-- PAIR_IL_CHANGE (R370): PAIR_IL_IN becomes valid at a new level after 100 µs. -/
  | pairIlChange (level : Bool)
  /-- START_WAIT_EXPIRY (R371): START_WAIT elapses with PAIR_IL_IN low and the unit enters ACTIVE. -/
  | startWaitExpiry (elapsed : Nat)
  /-- IL_FAULT (R372): Both lines high with the link down for 10 ms sets IL_FAULT. -/
  | ilFault
  /-- ALIVE (R364): A Firn write of PAIR_CTRL.ALIVE refreshes the pair watchdog. -/
  | alive (master : Master)
  /-- ALIVE_EXPIRY (R364): 250 ms without ALIVE makes the pair unit treat its unit as failed. -/
  | aliveExpiry
  /-- MIRROR_POINT (R378): The active sends all dirty mirror lines and a MIRROR_END. -/
  | mirrorPoint (at_ : Nat)
  /-- MIRROR_POINT_REQUEST (R378): A write of PAIR_MPT.GO takes a mirror point. -/
  | mirrorPointRequest (master : Master)
  /-- MIRROR_DATA (R381): The standby stages received mirror lines. -/
  | mirrorData (header : FrameHeader) (body : MirrorDataBody)
  /-- MIRROR_END (R381): The standby checks and applies a mirror point. -/
  | mirrorEnd (header : FrameHeader) (body : MirrorEndBody)
  /-- MIRROR_TABLE (R377): The standby receives the active's mirror table. -/
  | mirrorTable (header : FrameHeader) (table : Regions)
  /-- SWAP_DUE (R382): At a swap instant after SWAP_H hours, the active starts or defers a swap. -/
  | swapDue (at_ : Nat)
  /-- SWAP_OFFER (R383): A standby receives SWAP_OFFER and becomes active once the point is applied. -/
  | swapOffer (header : FrameHeader) (mseq : W32) (claim : W32)
  /-- SWAP_ACCEPT (R383): The old active receives SWAP_ACCEPT and enters STANDBY. -/
  | swapAccept (header : FrameHeader) (claim : W32)
  /-- SWAP_TIMEOUT (R383): No accept within 50 ms returns the old active to ACTIVE. -/
  | swapTimeout
  /-- RESYNC_REQ (R384): The active receives RESYNC_REQ and sends the full mirror. -/
  | resyncReq (header : FrameHeader) (epoch : W32)
  /-- RESYNC_END (R384): The standby receives RESYNC_END and becomes STANDBY when complete. -/
  | resyncEnd (header : FrameHeader) (mseq : W32)
  /-- RESYNC_TIMEOUT (R384): A resync not done within two periods returns the standby to UNSYNCED. -/
  | resyncTimeout
  /-- FAULT_CONDITION (R391): An enabled source's condition sets its STATUS, FIRST_SRC or OVERFLOW, and asserts FREEZE. -/
  | faultCondition (conditions : Sources)
  /-- FAULT_USER_WRITE (R390): A write of FAULT_USER0 or FAULT_USER1 asserts or withdraws user sources. -/
  | faultUserWrite (master : Master) (index : Byte) (value : W32)
  /-- FAULT_CTRL_CLEAR (R401): A Firn write of FAULT_CTRL.CLEAR makes a clear request. -/
  | faultCtrlClear (master : Master) (rising : Sources)
  /-- FAULT_TESTREQ_GO (R402): A Firn write of FAULT_TESTREQ.GO tests a source. -/
  | faultTestreqGo (master : Master) (source : Byte)
  /-- FAULT_INPUT (R389): A fault-input GPIO reaches its active level. -/
  | faultInput (gpio : Byte) (level : Bool)
  /-- PLL_SWITCH (R471): A PLL loses lock for 1 µs and its clock moves to the other PLL. -/
  | pllSwitch (pll : Byte)
  /-- THERMAL_SAMPLE (R476): Each thermal sensor is sampled every 1 ms. -/
  | thermalSample (readings : Readings)
  /-- THERM_SKEW (R477): A tile 20 °C hotter than a neighbour for 100 samples is logged and may migrate its role. -/
  | thermSkew (hot : Byte) (cool : Byte) (difference : Nat)
  /-- AVS_ADJUST (R475): Every 10 ms Firn measures the monitors and steps the VDD_CORE target. -/
  | avsAdjust (step : AvsStep)
  /-- LOG_POST (R406): A write of LOG_TPOST_CODE posts a record into the intake FIFO. -/
  | logPost (master : Master) (code : W16)
  /-- LOG_INTAKE_ENTRY (R407): The intake engine writes, folds or suppresses one FIFO entry in 24 FABCLK. -/
  | logIntakeEntry
  /-- RATE_REFILL (R409): At each millisecond instant every rate entry gains its RATE in tokens. -/
  | rateRefill (at_ : Nat)
  /-- FLUSH_START (R413): A flush starts on a trigger such as 60 s, 3,072 unflushed records or a fault. -/
  | flushStart
  /-- FLUSH_COMPLETE (R413): A flush ends, updating LOG_FLUSHSEQ and setting MB_EVENT bit 11. -/
  | flushComplete
  /-- AV_ANNOUNCE (R433): A unit receives an Avalanche announce and accepts, resumes or refuses it. -/
  | avAnnounce (header : FrameHeader) (body : AnnounceBody)
  /-- AV_FRAG (R434): A unit receives an Avalanche fragment and stores a block whose CMAC passes. -/
  | avFrag (header : FrameHeader) (body : FragBody)
  /-- AV_ACK (R434): A sender receives an Avalanche acknowledgement and advances its window. -/
  | avAck (header : FrameHeader) (body : AvAckBody)
  /-- AV_ABORT (R431): A unit receives an Avalanche abort. -/
  | avAbort (header : FrameHeader) (image : W32) (cause : Byte)
  /-- AV_RESEND (R434): When NEXT has not advanced for 500 ms, the sender resends from NEXT. -/
  | avResend (port : Byte)
  /-- AV_ANNOUNCE_REPEAT (R434): A suspended transfer repeats its announce every 30 s. -/
  | avAnnounceRepeat (port : Byte)
  /-- ACTIVATE_AT (R438): At ACTIVATE_AT a STATION starts live activation or skips it. -/
  | activateAt (at_ : Nat) (env : BootEnv)
  /-- ROTATION_INSTANT (R481): At a rotation instant Firn starts moving the next role to the reserve. -/
  | rotationInstant (at_ : Nat) (failing : LaneList)
  /-- ROTATION_NOW (R481): A Firn write of PCR_ROT_CTRL.NOW makes a rotation instant at once. -/
  | rotationNow (master : Master) (failing : LaneList)
  /-- BIST_DONE (R482): The reserve tile's self-test completes and the handover continues or is abandoned. -/
  | bistDone (passed : Bool)
  /-- ROTATE (R482): When a cut window opens, the role is cut over to the reserve tile. -/
  | rotate (dirty : Nat) (window : Bool)
  /-- ROTATE_ABANDON (R484): No cut window within 10 s abandons the rotation. -/
  | rotateAbandon
  /-- ROLE_LOST (R485): A tile carrying a role fails outside a handover. -/
  | roleLost (tile : Byte) (env : BootEnv)
  /-- SCRUB_PASS (R487): The scrubber reads shared SRAM words and repairs weak rows. -/
  | scrubPass (findings : Findings)
  /-- SRAM_UE (R488): An uncorrectable shared SRAM error poisons the word and raises source 16. -/
  | sramUe (address : Nat)
  /-- MRAM_REMAP (R489): A weak MRAM sector is copied to the remap pool and redirected. -/
  | mramRemap (sector : Nat)
  /-- ACCESS_VIOL (R450): A transaction not admitted receives the error response and is logged. -/
  | accessViol (master : Master) (kind : Byte) (address : Nat)
  /-- FABRIC_AT_LOAD (R449): A Firn write of FABRIC_AT_CTRL.LOAD copies an access-table entry into staging. -/
  | fabricAtLoad (master : Master)
  /-- FABRIC_AT_COMMIT (R449): A Firn write of FABRIC_AT_CTRL.COMMIT writes the staged entry on one edge. -/
  | fabricAtCommit (master : Master)
  /-- TAMPER (R463): A tamper input detects a tamper and ZEROIZE destroys the keys. -/
  | tamper (input : Byte) (pin : TamperPin)
  /-- KEY_BAD (R454): A key slot failing its ICV check is marked BAD. -/
  | keyBad (slot : Byte)
  /-- DBG_CHAL (R465): JTAG instruction that reads the 128-bit debug challenge. -/
  | dbgChal
  /-- DBG_RESP (R466): JTAG instruction that writes a debug response, which opens debug when accepted. -/
  | dbgResp (head : Bytes) (sig : Bytes)
  /-- DBG_ACCESS (R20): JTAG instruction that reaches the debug module of the cores in scope. -/
  | dbgAccess (core : Master) (address : Nat) (write : Bool) (data : Bytes)
  /-- BYPASS (R465): JTAG BYPASS instruction. -/
  | bypass
  /-- IDCODE (R465): JTAG instruction that returns the device identification. -/
  | idcode
  /-- SAMPLE_PRELOAD (R465): JTAG boundary-scan SAMPLE/PRELOAD instruction. -/
  | samplePreload
  /-- EXTEST (R465): JTAG boundary-scan EXTEST, CLAMP or HIGHZ, allowed in test or debug scope. -/
  | extest (instr : Byte)
  /-- TAP_RESET (R478): TRST_N low resets the JTAG TAP only. -/
  | tapReset
  /-- RC_READ (R10): A read of an RC field returns its value and clears it. -/
  | rcRead (master : Master) (address : Nat) (rising : W32)
  /-- REGISTER_WRITE (R10): A write to a register without a row of its own acts under its access type. -/
  | registerWrite (master : Master) (address : Nat) (value : WriteData)
  /-- DOMAIN_SWITCH (R469): A power domain or sub-block completes its switch-on or switch-off sequence, its lanes are tested and mapped, and PCR_DOM_BUSY clears. -/
  | domainSwitch (domain : Byte) (failing : LaneList)
  /-- BATCH_WAIT_TIMEOUT (R123): The timeout of an outstanding SOLV_BATCH_WAIT expires and the command completes with E_TIMEOUT. -/
  | batchWaitTimeout (batch : W32)
  /-- SEAL_TAG (R417): The Guard finishes the HMAC of a LOG_SEAL range and the engine writes SEAL_RANGE and SEAL_TAG. -/
  | sealTag
  /-- READY (R67): A restarted Firn sets MB_STATUS.READY again, clears RESTART, raises vector 0 and resumes fetching at each SQ head. -/
  | ready
  /-- DEMOTED (R372): PAIR_IL_IN stays valid high for 1 ms while the last heartbeat carries a higher claim, and the ACTIVE unit demotes itself to UNSYNCED. -/
  | demoted
  /-- ADDRESS_TABLE_AGE_OUT (R339): An address-table entry with no frame for 300 s ages out, changing unicast forwarding. -/
  | addressTableAgeOut (at_ : Nat)
  /-- SOURCE_RELEASED (R399): The condition of a level fault source ends, its ASSERTED bit falls and FAULT_N may rise. -/
  | sourceReleased (source : Byte)
  /-- PWM_PERIOD_START (R508): A PWM counter reaches its period, starts a new period and takes the pending duty and period. -/
  | pwmPeriodStart (channel : Byte)
  /-- PORST_N_LOW (R479): PORST_N falls, RESET_OUT_N goes low and the process balls go to high impedance until the next rising edge. -/
  | porstNLow
  /-- BAR2_WRITE (R72): A host write through the BAR2 window reaches shared SRAM under the access tables, marks mirror lines dirty and can end an SRAM poison. -/
  | bar2Write (host : HostId) (offset : W32) (data : Bytes)
  deriving DecidableEq, Repr

end Sys2Proof
end

