-- ==== Sys2Proof/Machine/Bits.lean ====
section
/-! DEFINITION. Bit fields, byte order and the sparse maps that hold memory and registers. -/

namespace Sys2Proof.Machine

/-- The field [hi:lo] of a word, as a number (R7). -/
def fldOf (v : W32) (hi lo : Nat) : Nat := (v.toNat / 2 ^ lo) % 2 ^ (hi - lo + 1)

/-- The word with field [hi:lo] replaced by `x`, cut to the field's width (R7). -/
def putFld (v : W32) (hi lo x : Nat) : W32 :=
  let w := 2 ^ (hi - lo + 1)
  let n := v.toNat
  BitVec.ofNat 32 (n / 2 ^ (hi + 1) * 2 ^ (hi + 1) + (x % w) * 2 ^ lo + n % 2 ^ lo)

/-- A flag as a number. -/
def b2n (b : Bool) : Nat := if b then 1 else 0

/-- The number that a run of bytes spells, least significant byte first (R8). -/
def leNat : Bytes → Nat
  | [] => 0
  | b :: bs => b.toNat + 256 * leNat bs

/-- `n` bytes of a number, least significant byte first (R8). -/
def leBytes : Nat → Nat → Bytes
  | 0, _ => []
  | n + 1, x => BitVec.ofNat 8 x :: leBytes n (x / 256)

/-- `n` bytes of a number, most significant byte first (R9). -/
def beBytes (n x : Nat) : Bytes := (leBytes n x).reverse

/-- The number that a run of bytes spells, most significant byte first (R9). -/
def beNat (bs : Bytes) : Nat := leNat bs.reverse

/-- The bytes of a run from offset `o`, `n` of them; bytes that are not there read 0 (R76, SYS_NOP). -/
def sliceB (bs : Bytes) (o n : Nat) : Bytes := (List.range n).map fun i => bs.getD (o + i) 0

/-- The little-endian number at offset `o` of `n` bytes. -/
def leAt (bs : Bytes) (o n : Nat) : Nat := leNat (sliceB bs o n)

/-- A word from a number. -/
def w32 (n : Nat) : W32 := BitVec.ofNat 32 n
/-- A double word from a number. -/
def w64 (n : Nat) : W64 := BitVec.ofNat 64 n
/-- The low half of a double word. -/
def lo32 (v : W64) : W32 := BitVec.ofNat 32 v.toNat
/-- The high half of a double word. -/
def hi32 (v : W64) : W32 := BitVec.ofNat 32 (v.toNat / 2 ^ 32)
/-- A double word from its halves. -/
def join64 (lo hi : W32) : W64 := BitVec.ofNat 64 (lo.toNat + hi.toNat * 2 ^ 32)
/-- The low word of an integer, two's complement. -/
def i32 (x : Int) : W32 := BitVec.ofInt 32 x

/-- A sum that stops at `top`. -/
def satAdd (top a b : Nat) : Nat := min top (a + b)

/-- The numbers below `n` whose bit of `v` is 1, ascending. -/
def bitsOf (n v : Nat) : List Nat := (List.range n).filter fun i => v.testBit i

/-- How many bits of `v` below bit `n` are 1. -/
def popCount (n v : Nat) : Nat := (bitsOf n v).length

/-- The entry of a sparse map, with what an unlisted key reads as. -/
def kget {α : Type} (d : α) : KMap α → Nat → α
  | [], _ => d
  | (j, w) :: t, k => if j = k then w else kget d t k

/-- The entry of a map without a default. -/
def kfind {α : Type} : KMap α → Nat → Option α
  | [], _ => none
  | (j, w) :: t, k => if j = k then some w else kfind t k

/-- Set an entry of a map without a default, kept sorted. -/
def kset {α : Type} : KMap α → Nat → α → KMap α
  | [], k, v => [(k, v)]
  | (j, w) :: t, k, v =>
    if j < k then (j, w) :: kset t k v
    else if j = k then (k, v) :: t
    else (k, v) :: (j, w) :: t

/-- Remove an entry of a map. -/
def kdel {α : Type} (m : KMap α) (k : Nat) : KMap α := m.filter fun p => p.1 ≠ k

/-- Write `v` at `k` in a sparse map kept sorted; writing the value that an unlisted key reads as removes the entry. -/
def kput {α : Type} [DecidableEq α] (d : α) (m : KMap α) (k : Nat) (v : α) : KMap α :=
  if v = d then kdel m k else kset m k v

/-- Strictly rising keys. -/
def sortedKeys {α : Type} : KMap α → Bool
  | [] => true
  | (_, _) :: [] => true
  | (j, _) :: (k, w) :: t => decide (j < k) && sortedKeys ((k, w) :: t)

/-- The canonical form of a sparse map whose unlisted key `k` reads as `d k`: strictly rising keys, and no entry equal
to what its key would read as unlisted. -/
def canonical {α : Type} [DecidableEq α] (d : Nat → α) (m : KMap α) : Bool :=
  sortedKeys m && m.all fun p => decide (p.2 ≠ d p.1)

/-- Insert into a sorted list without repeats. -/
def insNat : List Nat → Nat → List Nat
  | [], k => [k]
  | j :: t, k => if j < k then j :: insNat t k else if j = k then j :: t else k :: j :: t

/-- The smallest multiple of `m` that is at least `x`. -/
def roundUp (x m : Nat) : Nat := (x + m - 1) / m * m

end Sys2Proof.Machine
end

