-- ==== Sys2Proof/Machine/Float64.lean ====
section
/-! DEFINITION. IEEE 754-2019 binary64 on its bits, rounding ties to even, as the lanes, the loop engine and the meters
compute (R125 to R128). -/

namespace Sys2Proof.Machine

/-- The NaN that every unit produces (R128). -/
def dNaN : Dbl := 0x7FF8000000000000
def dInf : Dbl := 0x7FF0000000000000
def dZero : Dbl := 0
def dNegZero : Dbl := 0x8000000000000000
def dOne : Dbl := 0x3FF0000000000000

/-- The sign bit. -/
def dSign (a : Dbl) : Bool := a.getLsbD 63
/-- The bits below the sign. -/
def dMag (a : Dbl) : Nat := a.toNat % 2 ^ 63
/-- NaN, infinity, finite. -/
def dIsNaN (a : Dbl) : Bool := decide (dMag a > 0x7FF0000000000000)
def dIsInf (a : Dbl) : Bool := decide (dMag a = 0x7FF0000000000000)
def dFinite (a : Dbl) : Bool := decide (dMag a < 0x7FF0000000000000)
/-- Negation and absolute value change the sign bit alone (R126). -/
def dNeg (a : Dbl) : Dbl := a ^^^ 0x8000000000000000
def dAbs (a : Dbl) : Dbl := a &&& 0x7FFFFFFFFFFFFFFF

/-- The significand of a finite value as an integer, and its exponent: the value is m × 2^e. -/
def dMant (a : Dbl) : Nat := if dMag a / 2 ^ 52 = 0 then dMag a else dMag a % 2 ^ 52 + 2 ^ 52
def dExp (a : Dbl) : Int := if dMag a / 2 ^ 52 = 0 then -1074 else (dMag a / 2 ^ 52 : Nat) - 1075

/-- m / 2^k rounded to an integer, ties to even. -/
def divEven (m k : Nat) : Nat :=
  let q := m / 2 ^ k
  let r := m % 2 ^ k
  if 2 * r > 2 ^ k ∨ (2 * r = 2 ^ k ∧ q % 2 = 1) then q + 1 else q

/-- m × 2^e rounded to binary64 (R125). -/
def dRound (neg : Bool) (m : Nat) (e : Int) : Dbl :=
  let sg := b2n neg * 2 ^ 63
  if m = 0 then BitVec.ofNat 64 sg
  else
    let top : Int := (Nat.log2 m : Int) + e
    let q : Int := if top < -1022 then -1074 else top - 52
    let n := if q ≤ e then m * 2 ^ (e - q).toNat else divEven m (q - e).toNat
    let bits := if top < -1022 then n else ((top + 1022).toNat * 2 ^ 52 + n)
    BitVec.ofNat 64 (sg + min bits 0x7FF0000000000000)

/-- fma(a, b, c) = a × b + c, rounded once (R126). -/
def dFma (a b c : Dbl) : Dbl :=
  let sp := dSign a != dSign b
  if dIsNaN a || dIsNaN b || dIsNaN c then dNaN
  else if dIsInf a || dIsInf b then
    if dMag a = 0 ∨ dMag b = 0 then dNaN
    else if dIsInf c && dSign c != sp then dNaN
    else BitVec.ofNat 64 (b2n sp * 2 ^ 63 + 0x7FF0000000000000)
  else if dIsInf c then c
  else
    let ep := dExp a + dExp b
    let ec := dExp c
    let e := if ep ≤ ec then ep else ec
    let mp : Int := (dMant a * dMant b * 2 ^ (ep - e).toNat : Nat)
    let mc : Int := (dMant c * 2 ^ (ec - e).toNat : Nat)
    let v := (if sp then -mp else mp) + (if dSign c then -mc else mc)
    if v = 0 then (if sp && dSign c then dNegZero else dZero) else dRound (decide (v < 0)) v.natAbs e

/-- Addition, subtraction, multiplication, each rounded once. -/
def dAdd (a b : Dbl) : Dbl := dFma a dOne b
def dSub (a b : Dbl) : Dbl := if dIsNaN b then dNaN else dAdd a (dNeg b)
def dMul (a b : Dbl) : Dbl := dFma a b dNegZero

/-- Division, rounded once. -/
def dDiv (a b : Dbl) : Dbl :=
  let sg := dSign a != dSign b
  if dIsNaN a || dIsNaN b then dNaN
  else if dIsInf a then (if dIsInf b then dNaN else BitVec.ofNat 64 (b2n sg * 2 ^ 63 + 0x7FF0000000000000))
  else if dIsInf b then BitVec.ofNat 64 (b2n sg * 2 ^ 63)
  else if dMag b = 0 then
    (if dMag a = 0 then dNaN else BitVec.ofNat 64 (b2n sg * 2 ^ 63 + 0x7FF0000000000000))
  else
    -- 120 more bits than the divisor's leave a quotient of at least 67 bits; a remainder shows in the bit below it.
    let n := dMant a * 2 ^ 120
    let q := 2 * (n / dMant b) + (if n % dMant b = 0 then 0 else 1)
    dRound sg q (dExp a - dExp b - 121)

/-- The number that orders finite and infinite values: the two zeros are equal. -/
def dKey (a : Dbl) : Int := if dSign a then -(dMag a : Int) else dMag a
/-- Comparisons, false with a NaN (R126). -/
def dLt (a b : Dbl) : Bool := !dIsNaN a && !dIsNaN b && decide (dKey a < dKey b)
def dLe (a b : Dbl) : Bool := !dIsNaN a && !dIsNaN b && decide (dKey a ≤ dKey b)
def dEq (a b : Dbl) : Bool := !dIsNaN a && !dIsNaN b && decide (dKey a = dKey b)

/-- IEEE 754-2019 maximum and minimum: NaN with a NaN, and −0.0 below +0.0 (R126). -/
def dMax (a b : Dbl) : Dbl :=
  if dIsNaN a || dIsNaN b then dNaN
  else if dKey a = dKey b then (if dSign a then b else a) else if dKey a < dKey b then b else a
def dMin (a b : Dbl) : Dbl :=
  if dIsNaN a || dIsNaN b then dNaN
  else if dKey a = dKey b then (if dSign a then a else b) else if dKey a < dKey b then a else b

/-- An integer × 2^e as binary64. -/
def dOfInt (v : Int) (e : Int := 0) : Dbl := dRound (decide (v < 0)) v.natAbs e

/-- A quotient of integers as binary64, rounded once; the divisor is positive. -/
def dOfRat (v : Int) (d : Nat) : Dbl :=
  let k := 120 + Nat.log2 d
  let n := v.natAbs * 2 ^ k
  dRound (decide (v < 0)) (2 * (n / d) + (if n % d = 0 then 0 else 1)) (-(k : Int) - 1)

/-- A finite value × 2^k rounded to an integer, ties to even. -/
def dToInt (a : Dbl) (k : Int := 0) : Int :=
  let e := dExp a + k
  let m : Int := if 0 ≤ e then (dMant a * 2 ^ e.toNat : Nat) else (divEven (dMant a) (-e).toNat : Nat)
  if dSign a then -m else m

/-- A finite value × 2^k rounded towards minus infinity to an integer. -/
def dFloor (a : Dbl) (k : Int := 0) : Int :=
  let e := dExp a + k
  let m : Int := if dSign a then -(dMant a : Int) else dMant a
  if 0 ≤ e then m * 2 ^ e.toNat else m.fdiv (2 ^ (-e).toNat)

/-- A finite value rounded to an integer, half away from zero (R259). -/
def dRoundAway (a : Dbl) : Int :=
  let e := dExp a
  let m : Int := if 0 ≤ e then (dMant a * 2 ^ e.toNat : Nat) else ((2 * dMant a + 2 ^ (-e).toNat) / (2 * 2 ^ (-e).toNat) : Nat)
  if dSign a then -m else m

/-- The integer part of a square root, bit by bit from bit `k` − 1 down. -/
def isqrtFrom (n : Nat) : Nat → Nat → Nat
  | 0, r => r
  | k + 1, r => isqrtFrom n k (if (r + 2 ^ k) * (r + 2 ^ k) ≤ n then r + 2 ^ k else r)

/-- The correctly rounded square root (R210). -/
def dSqrt (a : Dbl) : Dbl :=
  if dMag a = 0 then a
  else if dIsNaN a || dSign a then dNaN
  else if dIsInf a then dInf
  else
    let odd := (dExp a % 2).toNat
    let n := dMant a * 2 ^ (120 + odd)
    let r := isqrtFrom n 90 0
    dRound false (2 * r + (if r * r = n then 0 else 1)) ((dExp a - odd - 120) / 2 - 1)

/-- π × 2^200, floor. -/
def pi200 : Nat := 0x3243f6a8885a308d313198a2e03707344a4093822299f31d008

/-- The angle whose tangent is a / b, for a ≤ b and not both 0, × 2^200: Euler's series, each term less than half of the one
before; `n` counts them, `y` is a² / (a² + b²) × 2^200. -/
def atanFrom (y : Nat) : Nat → Nat → Nat → Nat
  | 0, _, _ => 0
  | n + 1, k, term => term + atanFrom y n (k + 1) (term * y / 2 ^ 200 * (2 * k) / (2 * k + 1))

/-- The integers in the ratio of the magnitudes of two finite values. -/
def ratioOf (a b : Dbl) : Nat × Nat :=
  let e := dExp a - dExp b
  (dMant a * 2 ^ e.toNat, dMant b * 2 ^ (-e).toNat)

/-- atan2(q, p) in degrees (R259), correctly rounded but for an angle within 2^-180 of the middle of two values. -/
def dAtan2Deg (q p : Dbl) : Dbl :=
  if !dFinite q || !dFinite p then dNaN
  else
    let (x, y) := ratioOf p q
    let (a, b) := (min x y, max x y)
    let h := a * a + b * b
    let t := if a = 0 then 0 else atanFrom (a * a * 2 ^ 200 / h) 220 1 (a * b * 2 ^ 200 / h)
    let u := if x < y then pi200 / 2 - t else t
    let w := if dSign p then pi200 - u else u
    dOfRat ((if dSign q then -180 else 180) * (w : Int)) pi200

end Sys2Proof.Machine
end

