-- ==== Sys2Proof/Machine/Crypto.lean ====
section
/-! DEFINITION. CRC-32C (R93), SHA-256 (FIPS 180-4), HMAC-SHA-256, the key derivation of R451,
and AES-256 (FIPS 197) with the CMAC of R432 (SP 800-38B) and the GCM of R422 (SP 800-38D). -/

namespace Sys2Proof.Machine

/-- One bit of a reflected CRC with the reflected polynomial `poly`. -/
def crcBit (poly c : Nat) : Nat := if c % 2 = 1 then Nat.xor (c / 2) poly else c / 2

/-- One byte of a reflected CRC. -/
def crcByte (poly c : Nat) (b : Byte) : Nat :=
  let t := crcBit poly
  t (t (t (t (t (t (t (t (Nat.xor c b.toNat))))))))

/-- A reflected CRC of 32 bits with initial value and final XOR 0xFFFF_FFFF. -/
def crc32 (poly : Nat) (bs : Bytes) : Nat := Nat.xor (bs.foldl (crcByte poly) 0xFFFFFFFF) 0xFFFFFFFF

/-- CRC-32C (R93): polynomial 0x1EDC_6F41, reflected 0x82F6_3B78. -/
def crc32c (bs : Bytes) : Nat := crc32 0x82F63B78 bs

/-- The frame check sequence of IEEE 802.3 (R337): polynomial 0x04C1_1DB7, reflected 0xEDB8_8320. -/
def fcs (bs : Bytes) : Bytes := leBytes 4 (crc32 0xEDB88320 bs)

/-- A number's `n` words of 32 bits, the highest first. -/
def wordsOf (v n : Nat) : List W32 := (List.range n).map fun i => BitVec.ofNat 32 (v >>> (32 * (n - 1 - i)))

/-- The round constants of SHA-256, eight words in each number. -/
def shaK : List W32 := [
  0x428a2f9871374491b5c0fbcfe9b5dba53956c25b59f111f1923f82a4ab1c5ed5,
  0xd807aa9812835b01243185be550c7dc372be5d7480deb1fe9bdc06a7c19bf174,
  0xe49b69c1efbe47860fc19dc6240ca1cc2de92c6f4a7484aa5cb0a9dc76f988da,
  0x983e5152a831c66db00327c8bf597fc7c6e00bf3d5a7914706ca635114292967,
  0x27b70a852e1b21384d2c6dfc53380d13650a7354766a0abb81c2c92e92722c85,
  0xa2bfe8a1a81a664bc24b8b70c76c51a3d192e819d6990624f40e3585106aa070,
  0x19a4c1161e376c082748774c34b0bcb5391c0cb34ed8aa4a5b9cca4f682e6ff3,
  0x748f82ee78a5636f84c878148cc7020890befffaa4506cebbef9a3f7c67178f2].flatMap fun v => wordsOf v 8

/-- The initial hash value of SHA-256. -/
def shaInit : List W32 := wordsOf
  0x6a09e667bb67ae853c6ef372a54ff53a510e527f9b05688c1f83d9ab5be0cd19 8

/-- The functions of SHA-256 that turn a word: the exclusive or of three turns to the right, the third a shift where `cut`. -/
def shaTurn (cut : Bool) (i j k : Nat) (x : W32) : W32 :=
  (if cut then x >>> k else x.rotateRight k) ^^^ (x.rotateRight j ^^^ x.rotateRight i)

/-- The message schedule, newest word in front: `n` more words. -/
def shaSchedule : Nat → List W32 → List W32
  | 0, l => l
  | n + 1, l =>
    shaSchedule n ((shaTurn true 17 19 10 (l.getD 1 0) + l.getD 6 0 + shaTurn true 7 18 3 (l.getD 14 0) + l.getD 15 0) :: l)

/-- One round of the compression on the eight working words, with the sum of its constant and its word. -/
def shaRound (l : List W32) (k : W32) : List W32 :=
  let v := fun (i : Nat) => l.getD i 0
  let t := k + v 7 + (v 6 ^^^ (v 4 &&& (v 5 ^^^ v 6))) + shaTurn false 6 11 25 (v 4)
  (t + ((v 0 &&& v 1) ||| (v 2 &&& (v 0 ||| v 1))) + shaTurn false 2 13 22 (v 0)) :: l.take 3 ++ (v 3 + t) :: (l.drop 4).take 3

/-- Fold one 64-byte block into the hash. -/
def shaBlock (h : List W32) (blk : Bytes) : List W32 :=
  let l := (shaSchedule 48 (wordsOf (beNat blk) 16).reverse).reverse
  ((List.zipWith (fun k w => k + w) shaK l).foldl shaRound h).zipWith (fun x y => x + y) h

/-- SHA-256 of a run of bytes. -/
def sha256 (m : Bytes) : Bytes :=
  let pad := (119 - m.length % 64) % 64
  let p := m ++ [0x80] ++ List.replicate pad 0 ++ beBytes 8 (m.length * 8)
  ((List.range (p.length / 64)).foldl (fun h i => shaBlock h ((p.drop (64 * i)).take 64)) shaInit).flatMap
    fun w => beBytes 4 w.toNat

/-- HMAC-SHA-256 under a key of at most 64 bytes. -/
def hmac256 (key m : Bytes) : Bytes :=
  let k := (List.range 64).map fun i => key.getD i 0
  sha256 (k.map (· ^^^ 0x5C) ++ sha256 (k.map (· ^^^ 0x36) ++ m))

/-- The key derived from a parent's key (R451). -/
def deriveKey (parent label : Bytes) (usage : Byte) (depth : Nat) : Bytes :=
  hmac256 parent ([0, 0, 0, 1] ++ label ++ [0] ++ [usage] ++ [BitVec.ofNat 8 depth] ++ [0, 0, 1, 0])

/-! ### AES-256 and its CMAC (R432) -/

/-- Multiplication by x in the field of AES. -/
def xtime (a : Byte) : Byte := (a <<< 1) ^^^ (if a.getLsbD 7 then 0x1B else 0)

/-- The substitution of AES as FIPS 197 tabulates it: sixteen rows of sixteen bytes. -/
def sboxRows : List Nat :=
  [0x637C777BF26B6FC53001672BFED7AB76, 0xCA82C97DFA5947F0ADD4A2AF9CA472C0, 0xB7FD9326363FF7CC34A5E5F171D83115,
   0x04C723C31896059A071280E2EB27B275, 0x09832C1A1B6E5AA0523BD6B329E32F84, 0x53D100ED20FCB15B6ACBBE394A4C58CF,
   0xD0EFAAFB434D338545F9027F503C9FA8, 0x51A3408F929D38F5BCB6DA2110FFF3D2, 0xCD0C13EC5F974417C4A77E3D645D1973,
   0x60814FDC222A908846EEB814DE5E0BDB, 0xE0323A0A4906245CC2D3AC629195E479, 0xE7C8376D8DD54EA96C56F4EA657AAE08,
   0xBA78252E1CA6B4C6E8DD741F4BBD8B8A, 0x703EB5664803F60E613557B986C11D9E, 0xE1F8981169D98E949B1E87E9CE5528DF,
   0x8CA1890DBFE6426841992D0FB054BB16]

/-- The substitution of AES. -/
def sbox (a : Byte) : Byte := BitVec.ofNat 8 (sboxRows.getD (a.toNat / 16) 0 / 256 ^ (15 - a.toNat % 16))

/-- The word-wise exclusive or of two runs. -/
def xorB (a b : Bytes) : Bytes := List.zipWith (· ^^^ ·) a b

/-- The key schedule of AES-256: words are added at the end until there are 60. -/
def aesSchedule : Nat → Byte → List Bytes → List Bytes
  | 0, _, w => w
  | n + 1, rcon, w =>
    let k := w.length
    let t := w.getD (k - 1) []
    let (t, rc) :=
      if k % 8 = 0 then
        let r := (t.drop 1 ++ t.take 1).map sbox
        (xorB r [rcon, 0, 0, 0], xtime rcon)
      else if k % 8 = 4 then (t.map sbox, rcon)
      else (t, rcon)
    aesSchedule n rc (w ++ [xorB (w.getD (k - 8) []) t])

/-- The 15 round keys of a 32-byte key. -/
def aesKeys (key : Bytes) : List Bytes :=
  let w := aesSchedule 52 1 ((List.range 8).map fun i => (key.drop (4 * i)).take 4)
  (List.range 15).map fun r => ((w.drop (4 * r)).take 4).flatten

/-- The row shift of AES on the 16 state bytes in column order. -/
def shiftRows (s : Bytes) : Bytes := (List.range 16).map fun i => s.getD ((i + 4 * (i % 4)) % 16) 0

/-- The column mix of AES. -/
def mixColumns (s : Bytes) : Bytes :=
  (List.range 4).flatMap fun c =>
    let g := fun r => s.getD (4 * c + r % 4) 0
    (List.range 4).map fun r => xtime (g r) ^^^ xtime (g (r + 1)) ^^^ g (r + 1) ^^^ g (r + 2) ^^^ g (r + 3)

/-- AES-256 encryption of one 16-byte block. -/
def aes256 (keys : List Bytes) (blk : Bytes) : Bytes :=
  let s := xorB blk (keys.getD 0 [])
  let s := (List.range 13).foldl (fun s r => xorB (mixColumns (shiftRows (s.map sbox))) (keys.getD (r + 1) [])) s
  xorB (shiftRows (s.map sbox)) (keys.getD 14 [])

/-- A subkey of CMAC: the block doubled. -/
def cmacDouble (b : Bytes) : Bytes :=
  let n := beNat b
  beBytes 16 (if n ≥ 2 ^ 127 then Nat.xor (2 * n % 2 ^ 128) 0x87 else 2 * n)

/-- AES-256 CMAC of a run of bytes (R432). -/
def cmac256 (key m : Bytes) : Bytes :=
  let ks := aesKeys key
  let k1 := cmacDouble (aes256 ks (List.replicate 16 0))
  let n := (m.length + 15) / 16
  let blk := fun i => (m.drop (16 * i)).take 16
  let last :=
    if m.length = 0 ∨ m.length % 16 ≠ 0 then
      xorB ((blk (n - 1) ++ [0x80] ++ List.replicate 16 0).take 16) (cmacDouble k1)
    else xorB (blk (n - 1)) k1
  let c := (List.range (n - 1)).foldl (fun c i => aes256 ks (xorB c (blk i))) (List.replicate 16 0)
  aes256 ks (xorB c last)

/-! ### AES-256-GCM (R422) -/

/-- The product of GCM (SP 800-38D) over the bits of `x` from the most significant on: `z` and `v` as it defines them. -/
def ghashMul (x : Nat) : Nat → Nat → Nat → Nat
  | 0, z, _ => z
  | n + 1, z, v =>
    ghashMul x n (if x.testBit n then Nat.xor z v else z)
      (if v % 2 = 1 then Nat.xor (v / 2) (0xE1 * 2 ^ 120) else v / 2)

/-- GHASH of 16-byte blocks under the hash key `h`. -/
def ghash (h : Nat) (m : Bytes) : Nat :=
  (List.range ((m.length + 15) / 16)).foldl (fun y i => ghashMul (Nat.xor y (beNat (sliceB m (16 * i) 16))) 128 0 h) 0

/-- A run of bytes filled with zeros to whole blocks. -/
def padBlock (m : Bytes) : Bytes := m ++ List.replicate ((16 - m.length % 16) % 16) 0

/-- The key stream of GCM for a run of bytes, in whole blocks from counter 2 on. -/
def gcmStream (ks : List Bytes) (iv m : Bytes) : Bytes :=
  (List.range ((m.length + 15) / 16)).flatMap fun i => aes256 ks (iv ++ beBytes 4 (i + 2))

/-- The tag of a ciphertext with a 12-byte IV. -/
def gcmTag (ks : List Bytes) (iv aad ct : Bytes) : Bytes :=
  let h := beNat (aes256 ks (List.replicate 16 0))
  let s := ghash h (padBlock aad ++ padBlock ct ++ beBytes 8 (8 * aad.length) ++ beBytes 8 (8 * ct.length))
  xorB (beBytes 16 s) (aes256 ks (iv ++ [0, 0, 0, 1]))

/-- Decryption of 12 bytes of IV, a ciphertext and its tag under a key: the plaintext, where the tag holds (R457). -/
def gcmOpen (key iv aad ct tag : Bytes) : Option Bytes :=
  let ks := aesKeys key
  if gcmTag ks iv aad ct == tag then some (xorB ct (gcmStream ks iv ct)) else none

end Sys2Proof.Machine
end

