-- ==== Sys2Proof/Machine/Lane.lean ====
section
/-! DEFINITION. What a solver lane computes, operation by operation in the order of chapter 04's pseudocode, and the
SOLVCLK cycles that it spends (03, R87 to R106; 04). -/

namespace Sys2Proof.Machine

/-! ### The problem record (R87 to R93) -/

/-- A problem header (R89). -/
structure Prob where
  kind : Nat
  wspol : Nat
  n : Nat
  m : Nat
  sw : Nat
  sc : Nat
  itermax : Nat
  sigExp : Nat
  maskOff : Nat
  deadline : Nat
  rho : Dbl
  sigma : Dbl
  epsAbs : Dbl
  epsRel : Dbl
  resOff : Nat
  wsOff : Nat
  deriving DecidableEq, Repr

/-- The header that 64 bytes spell. -/
def probOf (b : Bytes) : Prob :=
  { kind := leAt b 0 1, wspol := leAt b 1 1, n := leAt b 2 1, m := leAt b 3 1, sw := leAt b 4 1, sc := leAt b 5 1,
    itermax := leAt b 6 2, sigExp := leAt b 8 4, maskOff := leAt b 12 4, deadline := leAt b 16 8,
    rho := w64 (leAt b 24 8), sigma := w64 (leAt b 32 8), epsAbs := w64 (leAt b 40 8), epsRel := w64 (leAt b 48 8),
    resOff := leAt b 56 4, wsOff := leAt b 60 4 }

/-- DEADLINE none (R89). -/
def noDeadline : Nat := 0xFFFFFFFFFFFFFFFF

/-- The blocks that a kind uses (R87). -/
def Prob.usesP (p : Prob) : Bool := p.kind != 3
def Prob.usesA (p : Prob) : Bool := p.kind != 4
def Prob.usesLU (p : Prob) : Bool := p.kind == 1 || p.kind == 2
/-- Elements of P, of A, and in all (R90). -/
def Prob.pLen (p : Prob) : Nat := if p.usesP then p.n * (p.n + 1) / 2 else 0
def Prob.aLen (p : Prob) : Nat := if p.usesA then p.m * p.n else 0
def Prob.entries (p : Prob) : Nat := p.pLen + p.n + p.aLen + (if p.usesLU then 2 * p.m else 0)
/-- Stored y entries (R95). -/
def Prob.yLen (p : Prob) : Nat := if p.usesLU then p.m else 0
/-- Lengths of the record, the mask (R91) and the result record (R95). -/
def Prob.recLen (p : Prob) : Nat := 64 + 8 * p.entries
def Prob.maskBytes (p : Prob) : Nat := (p.pLen + 7) / 8 + (p.aLen + 7) / 8
def Prob.maskLen (p : Prob) : Nat := roundUp p.maskBytes 8
def Prob.resLen (p : Prob) : Nat := 64 + 8 * (p.n + p.yLen)

/-- A structure of `n` bytes lies in shared SRAM at an offset that R88 allows. -/
def placed (off n : Nat) : Bool := off % 8 == 0 && decide (off + n ≤ 0x02000000)
/-- Two runs overlap. -/
def overlap (a n b m : Nat) : Bool := decide (a < b + m ∧ b < a + n)

/-- KIND, N and M are those of a problem (R87): the lengths of its structures follow from them. -/
def Prob.sizesOk (p : Prob) : Bool :=
  decide (1 ≤ p.kind ∧ p.kind ≤ 4) && decide (1 ≤ p.n ∧ p.n ≤ 64) &&
  (match p.kind with
    | 1 => decide (p.m ≤ 128)
    | 2 => decide (1 ≤ p.m ∧ p.m ≤ 128)
    | 3 => p.m == p.n
    | _ => p.m == 0)

/-- KIND, WSPOL and the size limits hold (R87, R92). -/
def Prob.limitsOk (p : Prob) : Bool := p.sizesOk && decide (p.wspol ≤ 3) && decide (p.sw * p.sc ≤ p.n)

/-- The result record's placement (R97): offset, extent, and no overlap with the problem record or the mask. Where KIND, N or M
are invalid the lengths have no meaning: the 64-byte header is placed and no overlap is tested (DESIGN CHOICE, log 76). -/
def Prob.resOk (p : Prob) (off : Nat) : Bool :=
  let n := if p.sizesOk then p.resLen else 64
  placed p.resOff n &&
  (!p.sizesOk || (!overlap p.resOff n off p.recLen && (p.maskOff == 0 || !overlap p.resOff n p.maskOff p.maskLen)))

/-- The scalar parameters of a QP (R92). -/
def Prob.qpOk (p : Prob) : Bool :=
  p.kind != 1 ||
  (dFinite p.rho && dLt dZero p.rho && dFinite p.sigma && dLt dZero p.sigma && dFinite p.epsAbs && dLe dZero p.epsAbs &&
    dFinite p.epsRel && dLe dZero p.epsRel && decide (1 ≤ p.itermax))

/-- The header checks of R92, the result record's apart. -/
def Prob.headerOk (p : Prob) (off : Nat) : Bool :=
  p.limitsOk && placed off p.recLen && (p.maskOff == 0 || placed p.maskOff p.maskLen) &&
  (p.wspol != 3 || placed p.wsOff p.resLen) && p.qpOk

/-- `n` bits set in whole bytes (R93). -/
def onesBits (n : Nat) : Bytes := leBytes ((n + 7) / 8) (2 ^ n - 1)

/-- The mask bytes of a problem: those read, or all ones (R91, R93). -/
def Prob.maskOf (p : Prob) (mask : Bytes) : Bytes :=
  if p.maskOff = 0 then onesBits p.pLen ++ onesBits p.aLen else sliceB mask 0 p.maskBytes

/-- The structure signature (R93). -/
def Prob.signature (p : Prob) (mask : Bytes) : Nat :=
  crc32c ([BitVec.ofNat 8 p.kind, BitVec.ofNat 8 p.n, BitVec.ofNat 8 p.m, BitVec.ofNat 8 p.sw, BitVec.ofNat 8 p.sc,
    0, 0, 0] ++ p.maskOf mask)

/-- A run of binary64 values, `n` of them. -/
def dblsOf : Nat → Bytes → List Dbl
  | 0, _ => []
  | n + 1, b => w64 (leNat (b.take 8)) :: dblsOf n (b.drop 8)

/-- The bytes of a run of binary64 values. -/
def bytesOfDbls (l : List Dbl) : Bytes := l.flatMap fun v => leBytes 8 v.toNat

/-- Element `e` of a part whose mask bytes are given. -/
def maskBit (m : Bytes) (e : Nat) : Bool := (m.getD (e / 8) 0).getLsbD (e % 8)

/-- A block with its masked elements as +0.0 (R91). -/
def masked (m : Bytes) (l : List Dbl) : Array Dbl :=
  (((List.range l.length).zip l).map fun p => if maskBit m p.1 then p.2 else dZero).toArray

/-- What a lane reads at problem start: the record, its mask, the warm-start record, the own result record (R100, R101). -/
structure LaneIn where
  off : Nat
  rec_ : Bytes
  mask : Bytes
  ws : Bytes
  own : Bytes
  pivtol : Dbl
  regdelta : Dbl
  deriving DecidableEq, Repr

/-- The blocks of a problem as the lane takes them. -/
structure Blocks where
  p : Array Dbl
  q : Array Dbl
  a : Array Dbl
  l : Array Dbl
  u : Array Dbl

/-- The blocks of a record (R90, R91). -/
def blocksOf (p : Prob) (i : LaneIn) : Blocks :=
  let b := i.rec_.drop 64
  let mk := p.maskOf i.mask
  let pm := (p.pLen + 7) / 8
  let m := if p.usesLU then p.m else 0
  let at_ := fun o n => dblsOf n (b.drop (8 * o))
  { p := masked mk (at_ 0 p.pLen), q := (at_ p.pLen p.n).toArray,
    a := masked (mk.drop pm) (at_ (p.pLen + p.n) p.aLen),
    l := (at_ (p.pLen + p.n + p.aLen) m).toArray, u := (at_ (p.pLen + p.n + p.aLen + m) m).toArray }

/-- The data checks of R92: the mask's padding, finite elements (a QP's bounds apart), l ≤ u, weights ≥ 0. -/
def dataOk (p : Prob) (i : LaneIn) (b : Blocks) : Bool :=
  let mk := p.maskOf i.mask
  let pad := fun (o n : Nat) => (List.range ((n + 7) / 8 * 8 - n)).all fun k => !maskBit (mk.drop o) (n + k)
  let fin := fun (v : Array Dbl) => v.toList.all dFinite
  pad 0 p.pLen && pad ((p.pLen + 7) / 8) p.aLen && fin b.p && fin b.q && fin b.a &&
  (if p.kind = 1 then
    b.l.toList.all (fun v => dFinite v || v == dNeg dInf) && b.u.toList.all (fun v => dFinite v || v == dInf) &&
      (b.l.toList.zip b.u.toList).all fun v => dLe v.1 v.2
   else fin b.l && fin b.u && (p.kind != 2 || b.u.toList.all fun v => dLe dZero v))

/-! ### Arithmetic with the exception flag (R126, R127) -/

/-- A run in progress: EXC, the cycles spent, the counts and residuals that the result shows, and the iterate. -/
structure LaneSt where
  exc : Bool := false
  cyc : Nat := 0
  iter : Nat := 0
  piv : Nat := 0
  prim : Dbl := dInf
  dual : Dbl := dInf
  dlIgn : Bool := false
  x : Array Dbl := #[]
  y : Array Dbl := #[]

/-- A lane's computation: it ends early with a status. -/
abbrev LaneM := ExceptT Nat (StateM LaneSt)

/-- When a deadline is reached and when the delivered time-base state is UNSET, by SOLVCLK cycle of the run (R104). -/
structure LaneEnv where
  deadline : Nat
  reached : Nat → Bool
  unset : Nat → Bool

/-- Deliver the result of a rounded operation: an infinity or NaN sets EXC (R127). -/
def lOut (r : Dbl) : LaneM Dbl := do
  modify fun s => { s with exc := s.exc || !dFinite r }
  pure r
def lFma (a b c : Dbl) : LaneM Dbl := lOut (dFma a b c)
def lAdd (a b : Dbl) : LaneM Dbl := lOut (dAdd a b)
def lSub (a b : Dbl) : LaneM Dbl := lOut (dSub a b)
def lMul (a b : Dbl) : LaneM Dbl := lOut (dMul a b)
def lDiv (a b : Dbl) : LaneM Dbl := lOut (dDiv a b)

/-- Spend SOLVCLK cycles. -/
def lSpend (n : Nat) : LaneM Unit := modify fun s => { s with cyc := s.cyc + n }

/-- A check point (R104, R143): EXC before the deadline. -/
def lCheck (e : LaneEnv) : LaneM Unit := do
  let s ← get
  if s.exc then throw 0x0104
  if e.deadline != noDeadline then
    if e.unset s.cyc then set { s with dlIgn := true }
    else if e.reached s.cyc then throw 0x0102

/-- s = fma(f k, g k, s) for k = 0 to n − 1 from a start value, through one accumulator (R129). -/
def lDot (n : Nat) (f g : Nat → Dbl) (start : Dbl) : LaneM Dbl :=
  (List.range n).foldlM (fun s k => lFma (f k) (g k) s) start

/-- A vector element by element. -/
def lVec (n : Nat) (f : Nat → LaneM Dbl) : LaneM (Array Dbl) :=
  (List.range n).foldlM (fun v k => do pure (v.push (← f k))) #[]

/-- The infinity norm of a vector. -/
def dNorm (v : Array Dbl) : Dbl := v.toList.foldl (fun s t => dMax s (dAbs t)) dZero

/-- Elements of a vector, of a row-major matrix with `n` columns, and of a symmetric matrix held as its upper triangle in
column-major order. -/
def el (v : Array Dbl) (i : Nat) : Dbl := v.getD i dZero
def el2 (a : Array Dbl) (n i j : Nat) : Dbl := a.getD (i * n + j) dZero
def elS (p : Array Dbl) (i j : Nat) : Dbl := p.getD (max i j * (max i j + 1) / 2 + min i j) dZero
/-- Set element (i, j). -/
def put2 (a : Array Dbl) (n i j : Nat) (v : Dbl) : Array Dbl := a.setIfInBounds (i * n + j) v

/-! ### Factorisations and solves (R133 to R136) -/

/-- Element (i, j), i ≤ j, of the matrix to factor (R133). -/
def lForm (p : Prob) (b : Blocks) (wt : Array Dbl) (i j : Nat) : LaneM Dbl := do
  let s ← (if p.kind = 4 then pure (elS b.p i j) else
    (List.range p.m).foldlM (fun s r => do
      let t ← lMul (el2 b.a p.n r i) (el2 b.a p.n r j)
      lFma (el wt r) t s) (elS b.p i j))
  if p.kind = 1 ∧ i = j then lAdd s p.sigma else pure s

/-- A regularised LDLᵀ factor: the formed matrix, l, d and dinv. -/
structure Ldl where
  k : Array Dbl
  l : Array Dbl
  d : Array Dbl
  dinv : Array Dbl
  thr : Dbl

/-- Column step `j` of R134. -/
def lLdlCol (e : LaneEnv) (p : Prob) (b : Blocks) (wt : Array Dbl) (pivtol regdelta : Dbl) (f : Ldl) (j : Nat) :
    LaneM Ldl := do
  let n := p.n
  lCheck e
  let f ← (if j = 0 then do
      let kd ← lVec n fun i => lForm p b wt i i
      let k := (List.range n).foldl (fun k i => put2 k n i i (el kd i)) f.k
      let thr ← lMul pivtol (dNorm kd)
      pure { f with k := k, thr := thr }
    else pure f)
  let k ← (List.range (n - j - 1)).foldlM (fun k r => do
    let i := j + 1 + r
    let v ← lForm p b wt j i
    pure (put2 (put2 k n j i v) n i j v)) f.k
  let w ← lVec j fun c => lMul (el2 f.l n j c) (el f.d c)
  let s ← lDot j (fun c => dNeg (el2 f.l n j c)) (fun c => el w c) (el2 k n j j)
  let small := dLe (dAbs s) f.thr
  let s := if small then (if dLt s dZero then dNeg regdelta else regdelta) else s
  if small then modify fun t => { t with piv := t.piv + 1 }
  let di ← lDiv dOne s
  let l ← (List.range (n - j - 1)).foldlM (fun l r => do
    let i := j + 1 + r
    let t ← lDot j (fun c => dNeg (el2 f.l n i c)) (fun c => el w c) (el2 k n j i)
    let v ← lMul t di
    pure (put2 l n i j v)) f.l
  lSpend (if j = 0 then (2 * n - 1) * p.m else (n - j - 1) * p.m + j * (n - j))
  pure { f with k := k, l := l, d := f.d.push s, dinv := f.dinv.push di }

/-- The LDLᵀ factorisation of a QP, an LSQ or a SYM. -/
def lLdl (e : LaneEnv) (p : Prob) (b : Blocks) (wt : Array Dbl) (pivtol regdelta : Dbl) : LaneM Ldl :=
  let z := Array.replicate (p.n * p.n) dZero
  (List.range p.n).foldlM (lLdlCol e p b wt pivtol regdelta) { k := z, l := z, d := #[], dinv := #[], thr := dZero }

/-- A solve with an LDLᵀ factor (R136). -/
def lLdlSolve (n : Nat) (f : Ldl) (rhs : Array Dbl) : LaneM (Array Dbl) := do
  let v ← (List.range n).foldlM (fun v i => do
    pure (v.push (← lDot i (fun c => dNeg (el2 f.l n i c)) (fun c => el v c) (el rhs i)))) #[]
  let v ← lVec n fun i => lMul (el v i) (el f.dinv i)
  (List.range n).reverse.foldlM (fun x i => do
    let s ← lDot (n - i - 1) (fun c => dNeg (el2 f.l n (i + 1 + c) i)) (fun c => el x (i + 1 + c)) (el v i)
    pure (x.setIfInBounds i s)) (Array.replicate n dZero)

/-- An LU factor with partial pivoting. -/
structure Lu where
  a : Array Dbl
  perm : Array Nat
  inv : Array Dbl

/-- Swap two rows of a matrix with `n` columns. -/
def swapRows (a : Array Dbl) (n i j : Nat) : Array Dbl :=
  (List.range n).foldl (fun b c => put2 (put2 b n i c (el2 a n j c)) n j c (el2 a n i c)) a

/-- Column step `j` of R135. -/
def lLuCol (e : LaneEnv) (n : Nat) (f : Lu) (j : Nat) : LaneM Lu := do
  lCheck e
  let piv := (List.range (n - j - 1)).foldl (fun v r =>
    if dLt (dAbs (el2 f.a n v j)) (dAbs (el2 f.a n (j + 1 + r) j)) then j + 1 + r else v) j
  if dMag (el2 f.a n piv j) = 0 then
    lSpend (n - j)
    throw 0x0103
  let a := if piv = j then f.a else swapRows f.a n piv j
  let perm := if piv = j then f.perm else (f.perm.setIfInBounds j (f.perm.getD piv 0)).setIfInBounds piv (f.perm.getD j 0)
  let iv ← lDiv dOne (el2 a n j j)
  let a ← (List.range (n - j - 1)).foldlM (fun a r => do
    let v ← lMul (el2 a n (j + 1 + r) j) iv
    pure (put2 a n (j + 1 + r) j v)) a
  let a ← (List.range (n - j - 1)).foldlM (fun a r =>
    (List.range (n - j - 1)).foldlM (fun a c => do
      let v ← lFma (dNeg (el2 a n (j + 1 + r) j)) (el2 a n j (j + 1 + c)) (el2 a n (j + 1 + r) (j + 1 + c))
      pure (put2 a n (j + 1 + r) (j + 1 + c) v)) a) a
  lSpend ((n - j) * (n - j - 1))
  pure { a := a, perm := perm, inv := f.inv.push iv }

/-- A solve with an LU factor (R136). -/
def lLuSolve (n : Nat) (f : Lu) (b : Array Dbl) : LaneM (Array Dbl) := do
  let v ← (List.range n).foldlM (fun v i => do
    pure (v.push (← lDot i (fun c => dNeg (el2 f.a n i c)) (fun c => el v c) (el b (f.perm.getD i 0))))) #[]
  (List.range n).reverse.foldlM (fun x i => do
    let s ← lDot (n - i - 1) (fun c => dNeg (el2 f.a n i (i + 1 + c))) (fun c => el x (i + 1 + c)) (el v i)
    let s ← lMul s (el f.inv i)
    pure (x.setIfInBounds i s)) (Array.replicate n dZero)

/-! ### The kinds (R132, R137 to R141) -/

def halfUp (k : Nat) : Nat := (k + 1) / 2

/-- The end of a direct kind: EXC before the final write, otherwise SOLVED with its residual (R137, R143, R145). -/
def lDirectEnd (x y res : Array Dbl) : LaneM Unit := do
  let s ← get
  if s.exc then throw 0x0104
  set { s with x := x, y := y, prim := dNorm res }
  throw 0

/-- LSQ (R137). -/
def lLsq (e : LaneEnv) (p : Prob) (b : Blocks) (pivtol regdelta : Dbl) : LaneM Unit := do
  let n := p.n
  let m := p.m
  let f ← lLdl e p b b.u pivtol regdelta
  let c ← lVec m fun r => lMul (el b.u r) (el b.l r)
  let rhs ← lVec n fun j => lDot m (fun r => el2 b.a n r j) (fun r => el c r) (dNeg (el b.q j))
  lSpend (halfUp (m * n) + m + n)
  lCheck e
  let x ← lLdlSolve n f rhs
  lSpend (halfUp (n * n) + n)
  let y ← lVec m fun r => lDot n (fun j => el2 b.a n r j) (fun j => el x j) (dNeg (el b.l r))
  lSpend (halfUp (m * n) + 2 * m)
  let res ← lVec n fun i => lDot n (fun j => el2 f.k n i j) (fun j => el x j) (dNeg (el rhs i))
  lSpend (halfUp (n * n) + n)
  lDirectEnd x y res

/-- LIN (R135, R137). -/
def lLin (e : LaneEnv) (p : Prob) (b : Blocks) : LaneM Unit := do
  let n := p.n
  let f ← (List.range n).foldlM (lLuCol e n) { a := b.a, perm := (List.range n).toArray, inv := #[] }
  lCheck e
  let x ← lLuSolve n f b.q
  lSpend (halfUp (n * n) + n)
  let res ← lVec n fun i => lDot n (fun j => el2 b.a n i j) (fun j => el x j) (dNeg (el b.q i))
  lSpend (halfUp (n * n) + n)
  lDirectEnd x #[] res

/-- SYM (R137). -/
def lSym (e : LaneEnv) (p : Prob) (b : Blocks) (pivtol regdelta : Dbl) : LaneM Unit := do
  let n := p.n
  let f ← lLdl e p b #[] pivtol regdelta
  lCheck e
  let x0 ← lLdlSolve n f b.q
  lSpend (halfUp (n * n) + n)
  let res ← lVec n fun i => lDot n (fun j => dNeg (elS b.p i j)) (fun j => el x0 j) (el b.q i)
  lSpend (halfUp (n * n) + n)
  lCheck e
  let dx ← lLdlSolve n f res
  lSpend (halfUp (n * n) + n)
  let x ← lVec n fun i => lAdd (el x0 i) (el dx i)
  lSpend (2 * n)
  let chk ← lVec n fun i => lDot n (fun j => elS b.p i j) (fun j => el x j) (dNeg (el b.q i))
  lSpend (halfUp (n * n) + n)
  lDirectEnd x #[] chk

/-- The constants of R131. -/
def cAlpha : Dbl := 0x3FF8000000000000
def cBeta : Dbl := 0xBFE0000000000000
def cEpsInf : Dbl := 0x3EE0000000000000
/-- 1000.0 (R132). -/
def cThousand : Dbl := 0x408F400000000000

/-- The vectors of the ADMM iteration (R139), with the previous ones that R141 uses. -/
structure Admm where
  x : Array Dbl
  y : Array Dbl
  z : Array Dbl
  xo : Array Dbl := #[]
  yo : Array Dbl := #[]
  ax : Array Dbl := #[]
  px : Array Dbl := #[]
  aty : Array Dbl := #[]
  axo : Array Dbl := #[]
  pxo : Array Dbl := #[]
  atyo : Array Dbl := #[]

/-- The steps of R139. -/
def lIterate (p : Prob) (b : Blocks) (f : Ldl) (rho rinv : Array Dbl) (t : Admm) : LaneM Admm := do
  let n := p.n
  let m := p.m
  let v ← lVec m fun i => lFma (el rho i) (el t.z i) (dNeg (el t.y i))
  let rhs ← lVec n fun j => do
    let s ← lFma p.sigma (el t.x j) (dNeg (el b.q j))
    lDot m (fun i => el2 b.a n i j) (fun i => el v i) s
  let xt ← lLdlSolve n f rhs
  let zt ← lVec m fun i => lDot n (fun j => el2 b.a n i j) (fun j => el xt j) dZero
  let x ← lVec n fun j => do
    let w ← lMul cBeta (el t.x j)
    lFma cAlpha (el xt j) w
  let zr ← lVec m fun i => do
    let w ← lMul cBeta (el t.z i)
    lFma cAlpha (el zt i) w
  let zn ← lVec m fun i => do
    let zs ← lFma (el rinv i) (el t.y i) (el zr i)
    pure (dMin (dMax zs (el b.l i)) (el b.u i))
  let y ← lVec m fun i => do
    let d ← lSub (el zr i) (el zn i)
    lFma (el rho i) d (el t.y i)
  let ax ← lVec m fun i => lDot n (fun j => el2 b.a n i j) (fun j => el x j) dZero
  let px ← lVec n fun i => lDot n (fun j => elS b.p i j) (fun j => el x j) dZero
  let aty ← lVec n fun j => lDot m (fun i => el2 b.a n i j) (fun i => el y i) dZero
  modify fun s => { s with iter := s.iter + 1 }
  pure { x := x, y := y, z := zn, xo := t.x, yo := t.y, ax := ax, px := px, aty := aty, axo := t.ax, pxo := t.px,
         atyo := t.aty }

/-- The primal infeasibility test (R141). -/
def lPrimalInf (p : Prob) (b : Blocks) (t : Admm) : LaneM Bool := do
  let dy ← lVec p.m fun i => lSub (el t.y i) (el t.yo i)
  let ndy := dNorm dy
  let g ← lVec p.n fun j => lSub (el t.aty j) (el t.atyo j)
  let tol ← lMul cEpsInf ndy
  let first := dLt dZero ndy && dLe (dNorm g) tol
  let r ← (List.range p.m).foldlM (fun (r : Bool × Dbl) i => do
    if dLt dZero (el dy i) then
      (if el b.u i == dInf then pure (false, r.2) else do pure (r.1, ← lFma (el b.u i) (el dy i) r.2))
    else if dLt (el dy i) dZero then
      (if el b.l i == dNeg dInf then pure (false, r.2) else do pure (r.1, ← lFma (el b.l i) (el dy i) r.2))
    else pure r) (first, dZero)
  pure (r.1 && dLe r.2 (dNeg tol))

/-- The dual infeasibility test (R141). -/
def lDualInf (p : Prob) (b : Blocks) (t : Admm) : LaneM Bool := do
  let dx ← lVec p.n fun j => lSub (el t.x j) (el t.xo j)
  let ndx := dNorm dx
  let tol ← lMul cEpsInf ndx
  let h ← lVec p.n fun j => lSub (el t.px j) (el t.pxo j)
  let first := dLt dZero ndx && dLe (dNorm h) tol
  let s ← lDot p.n (fun j => el b.q j) (fun j => el dx j) dZero
  (List.range p.m).foldlM (fun (r : Bool) i => do
    let e ← lSub (el t.ax i) (el t.axo i)
    pure (r && !(dFinite (el b.u i) && dLt tol e) && !(dFinite (el b.l i) && dLt e (dNeg tol))))
    (first && dLe s (dNeg tol))

/-- The end-of-iteration values and tests (R140, R105). -/
def lTests (p : Prob) (b : Blocks) (t : Admm) : LaneM Unit := do
  let ep ← lVec p.m fun i => lSub (el t.ax i) (el t.z i)
  let prim := dNorm ep
  let ed ← lVec p.n fun j => do
    let s ← lAdd (el t.px j) (el b.q j)
    lAdd s (el t.aty j)
  let dual := dNorm ed
  let epsP ← lFma p.epsRel (dMax (dNorm t.ax) (dNorm t.z)) p.epsAbs
  let epsD ← lFma p.epsRel (dMax (dMax (dNorm t.px) (dNorm t.aty)) (dNorm b.q)) p.epsAbs
  if (← get).exc then throw 0x0104
  modify fun s => { s with prim := prim, dual := dual, x := t.x, y := t.y }
  if dLe prim epsP && dLe dual epsD then throw 0
  if (← get).iter ≥ 2 then
    if ← lPrimalInf p b t then throw 0x0105
    if ← lDualInf p b t then throw 0x0106
  if (← get).iter = p.itermax then throw 0x0101

/-- QP (R132, R138 to R141). -/
def lQp (e : LaneEnv) (p : Prob) (b : Blocks) (pivtol regdelta : Dbl) (x0 y0 : Array Dbl) : LaneM Unit := do
  let n := p.n
  let m := p.m
  let rho ← lVec m fun i => if dEq (el b.l i) (el b.u i) then lMul p.rho cThousand else pure p.rho
  let rinv ← lVec m fun i => lDiv dOne (el rho i)
  let f ← lLdl e p b rho pivtol regdelta
  let z ← lVec m fun i => do
    let s ← lDot n (fun j => el2 b.a n i j) (fun j => el x0 j) dZero
    pure (dMin (dMax s (el b.l i)) (el b.u i))
  lSpend (halfUp (m * n) + m + 16)
  let _ ← (List.range p.itermax).foldlM (fun t _ => do
    lCheck e
    let t ← lIterate p b f rho rinv t
    lSpend (2 * m * n + n * n + 8)
    lTests p b t
    pure t) { x := x0, y := y0, z := z : Admm }
  pure ()

/-! ### A whole run (R92 to R106) -/

/-- A valid source for a signature (R99). -/
def validSource (r : Bytes) (sig : Nat) : Bool := (r.getD 3 0).getLsbD 0 && leAt r 4 4 == sig

/-- The carry-over shift (R102). -/
def shiftX (p : Prob) (x : List Dbl) : List Dbl :=
  if p.sw = 0 ∨ p.sc ≤ 1 then x
  else (List.range p.n).map fun i => if i < p.sw * p.sc - p.sw then x.getD (i + p.sw) dZero else x.getD i dZero

/-- The x and y that a result record stores. -/
def storedX (p : Prob) (r : Bytes) : List Dbl := dblsOf p.n (r.drop 64)
def storedY (p : Prob) (r : Bytes) : List Dbl := dblsOf p.yLen (r.drop (64 + 8 * p.n))

/-- How a run ends: the status that ended it, its cycles, its counts, and what it writes. -/
structure RunEnd where
  status : Nat
  cyc : Nat
  sig : Nat := 0
  iter : Nat := 0
  piv : Nat := 0
  prim : Dbl := dInf
  dual : Dbl := dInf
  dlIgn : Bool := false
  /-- WS_REJECT, WS_USED and WS_REASON; all 0 for a run that ends at the dispatch check point. -/
  wsReject : Bool := false
  wsUsed : Bool := false
  wsReason : Nat := 0
  x : List Dbl := []
  y : List Dbl := []

/-- One run of a lane on a problem (R92 to R106, R146 to R148): the statuses 0x010A and 0x010B write bytes 0 to 2 only;
`reached` and `unset` give the deadline test by cycle. -/
def laneRun (i : LaneIn) (reached unset : Nat → Bool) : RunEnd :=
  let p := probOf i.rec_
  let b8 := (p.maskBytes + 7) / 8
  if !p.headerOk i.off || !p.resOk i.off then { status := 0x010A, cyc := 65 }
  else
    let sig := p.signature i.mask
    if p.sigExp ≠ 0 ∧ p.sigExp ≠ sig then { status := 0x010B, cyc := 64 + b8 + 1 }
    else
      let e : LaneEnv := { deadline := p.deadline, reached := reached, unset := unset }
      let c0 := 64 + b8
      let wr := 8 + p.n + p.yLen
      let rd := 2 * (8 + p.n + p.yLen)
      match (lCheck e).run.run { cyc := c0 } with
      | (.error st, _) => { status := st, cyc := c0 + rd + wr, sig := sig }
      | (.ok _, s0) =>
        let c1 := c0 + rd + (if p.maskOff = 0 then 0 else b8) + p.entries
        let b := blocksOf p i
        if !dataOk p i b then { status := 0x010A, cyc := c1 + 1 }
        else
          let src := if p.wspol = 3 then i.ws else i.own
          let ok := validSource src sig
          let used := p.wspol != 0 && ok
          let rej := p.wspol != 0 && !ok
          let reason := if rej then (if (src.getD 3 0).getLsbD 0 then 2 else 1) else 0
          let xs := if used then (if p.wspol = 2 then shiftX p (storedX p src) else storedX p src)
                    else List.replicate p.n dZero
          let ys := if used then storedY p src else List.replicate p.yLen dZero
          let go : LaneM Unit := match p.kind with
            | 1 => lQp e p b i.pivtol i.regdelta xs.toArray ys.toArray
            | 2 => lLsq e p b i.pivtol i.regdelta
            | 3 => lLin e p b
            | _ => lSym e p b i.pivtol i.regdelta
          let r := go.run.run { s0 with cyc := c1 }
          let st := match r.1 with
            | .error st => st
            | .ok _ => 0x0101
          let s := r.2
          { status := st, cyc := s.cyc + wr, sig := sig, iter := s.iter, piv := s.piv, prim := s.prim, dual := s.dual,
            dlIgn := s.dlIgn, wsReject := rej, wsUsed := used, wsReason := reason, x := s.x.toList, y := s.y.toList }

/-- A result record that a run writes in full (R95, R96, R106), from the own record as read, and whether it is carried. -/
def resultRecord (p : Prob) (own : Bytes) (r : RunEnd) (redisp : Bool) (plane llane tStart tEnd batch index : Nat) :
    Bytes :=
  let solved := r.status == 0 || r.status == 0x0101
  let carry := !solved && validSource own r.sig
  let st := if solved || carry then r.status else 0x0108
  let flags := b2n (solved || carry) + 2 * b2n carry + 4 * b2n r.wsReject + 8 * b2n r.wsUsed + 16 * b2n r.dlIgn +
    32 * b2n redisp
  let x := if solved then r.x else if carry then shiftX p (storedX p own) else List.replicate p.n dZero
  let y := if solved then r.y else if carry then storedY p own else List.replicate p.yLen dZero
  let age := if carry then min 255 (leAt own 12 1 + 1) else 0
  leBytes 2 st ++ leBytes 1 r.status ++ leBytes 1 flags ++ leBytes 4 r.sig ++ leBytes 2 r.iter ++ leBytes 2 r.piv ++
    leBytes 1 age ++ leBytes 1 r.wsReason ++ leBytes 1 plane ++ leBytes 1 llane ++ leBytes 8 r.prim.toNat ++
    leBytes 8 r.dual.toNat ++ leBytes 8 tStart ++ leBytes 8 tEnd ++ leBytes 4 batch ++ leBytes 4 index ++
    leBytes 1 p.n ++ leBytes 1 p.yLen ++ leBytes 6 0 ++ bytesOfDbls x ++ bytesOfDbls y

end Sys2Proof.Machine
end

