-- ==== Sys2Proof/Config.lean ====
section
/-! DEFINITION. What one chip or its firmware fixes and the manual leaves open: constants without a body, so that no
proof can see a value of them. -/

namespace Sys2Proof.Config

/-- The free values: the value that an open place of the manual takes when it is met for the `n`-th time (DESIGN CHOICE, log 4). -/
opaque freeValue (n : Nat) : BitVec 64
/-- The Firn version word that SYS_INFO returns (R76). -/
opaque firnVersion : BitVec 32
/-- The two public keys in Bedrock's ROM, 64 bytes each (R421), and the device provisioning key, 32 bytes (R457). -/
opaque romKey (keyId : Nat) : List (BitVec 8)
opaque deviceKey : List (BitVec 8)
/-- The fixed test root of R466, 32 bytes. -/
opaque testRoot : List (BitVec 8)
/-- The self-test region of shared SRAM to which the RSV tile's path of R21 leads: its first byte and its length (the manual
gives neither: DESIGN CHOICE, log 4). -/
opaque rsvTestBase : BitVec 25
opaque rsvTestLen : BitVec 25
/-- The salt that a key slot gives an SA under GCM-AES-XPN-256, from the slot's key, and the field address of the unit at the
other end of a port's link (R351; the manual gives neither: DESIGN CHOICE, log 4). -/
opaque saltOf (key : List (BitVec 8)) : BitVec 96
opaque peerAddress (port : Nat) : Nat
/-- The vendor's JEDEC manufacturer code in IDCODE (16, JTAG instructions). -/
opaque jedecCode : BitVec 11

/-- The PCIe endpoint's configuration space (R33): Device ID, Class Code and the payload sizes in bytes that it supports; no
command of the table reads it. The manual names the vendor and not the identifier (DESIGN CHOICE, log 4). -/
def pciDeviceId : BitVec 16 := 0x7240
def pciClassCode : BitVec 24 := 0x118000
def pciPayloads : List Nat := [128, 256]
opaque pciVendorId : BitVec 16

end Sys2Proof.Config
end

