-- ==== Sys2Proof/Machine/Index.lean ====
section
/-! DEFINITION. The command index (R76): the issue, the opcode and the buffers of each host command. -/

namespace Sys2Proof.Machine

/-- The opcode and the issue of a host command; none for an event or access. -/
def cmdOf : Instr → Option (Nat × Issue)
  | .sysNop i _ => some (0x0100, i)
  | .sysInfo i => some (0x0101, i)
  | .sysWindowSet i _ => some (0x0102, i)
  | .sysAccessGet i _ _ _ => some (0x0103, i)
  | .sysAccessSet i _ _ _ _ _ _ => some (0x0104, i)
  | .sysEventRoute i _ _ => some (0x0105, i)
  | .sysRoleMap i => some (0x0106, i)
  | .sysRotate i _ _ => some (0x0107, i)
  | .sysConfigRead i _ _ => some (0x0108, i)
  | .sysConfigWrite i _ _ => some (0x0109, i)
  | .sysRestart i _ => some (0x010A, i)
  | .solvBatchSubmit i _ _ => some (0x0201, i)
  | .solvBatchStatus i _ => some (0x0202, i)
  | .solvBatchWait i _ _ => some (0x0203, i)
  | .solvBatchCancel i _ => some (0x0204, i)
  | .solvLaneStatus i => some (0x0205, i)
  | .solvLaneRetire i _ => some (0x0206, i)
  | .solvParamSet i _ _ => some (0x0207, i)
  | .driftNetConfig i _ => some (0x0301, i)
  | .driftPeriodSet i _ _ _ => some (0x0302, i)
  | .driftTemplateSet i _ => some (0x0303, i)
  | .driftSlotSet i _ _ => some (0x0304, i)
  | .driftFallbackSet i _ _ => some (0x0305, i)
  | .driftStart i => some (0x0306, i)
  | .driftStop i => some (0x0307, i)
  | .driftPricesRead i _ _ _ => some (0x0308, i)
  | .driftPlanRead i _ _ => some (0x0309, i)
  | .driftBidRead i _ _ _ => some (0x030A, i)
  | .loopDescWrite i _ _ _ => some (0x0401, i)
  | .loopDescRead i _ _ _ => some (0x0402, i)
  | .loopBankSwap i _ => some (0x0403, i)
  | .loopModeSet i _ _ _ => some (0x0404, i)
  | .loopTuneStart i _ _ _ _ => some (0x0405, i)
  | .loopTuneResult i _ => some (0x0406, i)
  | .loopStatus i _ => some (0x0407, i)
  | .cycLoad i _ => some (0x0501, i)
  | .cycStart i _ => some (0x0502, i)
  | .cycStop i => some (0x0503, i)
  | .cycOnlineChange i => some (0x0504, i)
  | .cycForceSet i _ _ _ => some (0x0505, i)
  | .cycForceClear i _ => some (0x0506, i)
  | .cycForceList i _ => some (0x0507, i)
  | .cycTaskStatus i _ => some (0x0508, i)
  | .cycVarRead i _ _ => some (0x0509, i)
  | .cycVarWrite i _ _ => some (0x050A, i)
  | .mtrChanConfig i _ _ _ _ => some (0x0601, i)
  | .mtrEnergyRead i _ _ _ => some (0x0602, i)
  | .mtrDeltaRead i _ _ _ => some (0x0603, i)
  | .mtrCalStart i _ _ => some (0x0604, i)
  | .mtrPulseConfig i _ _ _ => some (0x0605, i)
  | .mtrHeatConfig i _ _ => some (0x0606, i)
  | .mtrHeatRead i _ _ => some (0x0607, i)
  | .mtrSaveNow i => some (0x0608, i)
  | .timeRead i => some (0x0701, i)
  | .timeSet i _ => some (0x0702, i)
  | .timeState i => some (0x0703, i)
  | .timePortCorr i _ _ _ _ => some (0x0704, i)
  | .timePtpConfig i _ => some (0x0705, i)
  | .timeEventConfig i _ _ => some (0x0706, i)
  | .calRead i => some (0x0801, i)
  | .calWrite i _ _ => some (0x0802, i)
  | .calDstShift i _ => some (0x0803, i)
  | .calAlarmSet i _ _ _ => some (0x0804, i)
  | .calTrimMeasure i _ _ => some (0x0805, i)
  | .calTrimSet i _ => some (0x0806, i)
  | .netPortConfig i _ _ => some (0x0901, i)
  | .netPortStatus i _ => some (0x0902, i)
  | .netAddrSet i _ => some (0x0903, i)
  | .netVlanSet i _ _ => some (0x0904, i)
  | .netMacsecSa i _ _ _ _ _ => some (0x0905, i)
  | .netQueueConfig i _ _ _ => some (0x0906, i)
  | .netUartConfig i _ _ => some (0x0907, i)
  | .netFrameSend i _ _ _ _ => some (0x0908, i)
  | .pairConfig i _ => some (0x0A01, i)
  | .pairStatus i => some (0x0A02, i)
  | .pairMirrorSet i _ _ _ => some (0x0A03, i)
  | .pairSwap i => some (0x0A04, i)
  | .pairResync i => some (0x0A05, i)
  | .faultStatus i => some (0x0B01, i)
  | .faultReadAll i _ => some (0x0B02, i)
  | .faultClear i => some (0x0B03, i)
  | .faultSafeSet i _ _ => some (0x0B04, i)
  | .faultTest i _ => some (0x0B05, i)
  | .logRead i _ _ _ _ => some (0x0C01, i)
  | .logStatus i => some (0x0C02, i)
  | .logFlush i => some (0x0C03, i)
  | .logRateSet i _ _ _ => some (0x0C04, i)
  | .logSeal i _ _ _ => some (0x0C05, i)
  | .logWrite i _ _ _ _ => some (0x0C06, i)
  | .imgOpen i _ _ => some (0x0D01, i)
  | .imgWrite i _ _ => some (0x0D02, i)
  | .imgClose i => some (0x0D03, i)
  | .imgActivate i _ => some (0x0D04, i)
  | .imgStatus i => some (0x0D05, i)
  | .imgAvalancheStart i _ _ => some (0x0D06, i)
  | .keyDerive i _ _ _ _ => some (0x0E01, i)
  | .keyInvalidate i _ => some (0x0E02, i)
  | .keySlotInfo i _ => some (0x0E03, i)
  | .keyTamperStatus i => some (0x0E04, i)
  | .keyTamperConfig i _ _ => some (0x0E05, i)
  | .keyDebugUnlock i _ => some (0x0E06, i)
  | .pwrDomainSet i _ _ => some (0x0F01, i)
  | .pwrStatus i => some (0x0F02, i)
  | .pwrThermalRead i _ => some (0x0F03, i)
  | .pwrRepairStatus i => some (0x0F04, i)
  | .unknownOpcode i op => some (op.toNat, i)
  | _ => none

/-- The buffers that a host command names. -/
def bufsOf : Instr → List Buf
  | .sysConfigRead _ _ buf => [buf]
  | .sysConfigWrite _ _ buf => [buf]
  | .solvBatchSubmit _ desc _ => [desc]
  | .driftNetConfig _ buf => [buf]
  | .driftTemplateSet _ buf => [buf]
  | .driftFallbackSet _ buf _ => [buf]
  | .driftPricesRead _ _ _ buf => [buf]
  | .driftPlanRead _ _ buf => [buf]
  | .driftBidRead _ _ _ buf => [buf]
  | .loopDescWrite _ _ _ buf => [buf]
  | .loopDescRead _ _ _ buf => [buf]
  | .cycLoad _ buf => [buf]
  | .cycForceList _ buf => [buf]
  | .cycVarRead _ _ buf => [buf]
  | .cycVarWrite _ _ buf => [buf]
  | .mtrCalStart _ _ buf => [buf]
  | .mtrHeatConfig _ _ buf => [buf]
  | .mtrHeatRead _ _ buf => [buf]
  | .timePtpConfig _ buf => [buf]
  | .netPortConfig _ _ buf => [buf]
  | .netVlanSet _ _ buf => [buf]
  | .netQueueConfig _ _ _ buf => [buf]
  | .netUartConfig _ _ buf => [buf]
  | .netFrameSend _ _ _ _ buf => [buf]
  | .pairConfig _ buf => [buf]
  | .faultReadAll _ buf => [buf]
  | .logRead _ _ _ _ buf => [buf]
  | .imgWrite _ _ buf => [buf]
  | .keyDerive _ _ _ _ label => [label]
  | .keyDebugUnlock _ buf => [buf]
  | _ => []

/-- A host command with its buffers renamed. -/
def mapBuf (f : Buf → Buf) : Instr → Instr
  | .sysConfigRead i record buf => .sysConfigRead i record (f buf)
  | .sysConfigWrite i record buf => .sysConfigWrite i record (f buf)
  | .solvBatchSubmit i desc notify => .solvBatchSubmit i (f desc) notify
  | .driftNetConfig i buf => .driftNetConfig i (f buf)
  | .driftTemplateSet i buf => .driftTemplateSet i (f buf)
  | .driftFallbackSet i buf hold => .driftFallbackSet i (f buf) hold
  | .driftPricesRead i period round buf => .driftPricesRead i period round (f buf)
  | .driftPlanRead i period buf => .driftPlanRead i period (f buf)
  | .driftBidRead i period round buf => .driftBidRead i period round (f buf)
  | .loopDescWrite i loop bank buf => .loopDescWrite i loop bank (f buf)
  | .loopDescRead i loop bank buf => .loopDescRead i loop bank (f buf)
  | .cycLoad i buf => .cycLoad i (f buf)
  | .cycForceList i buf => .cycForceList i (f buf)
  | .cycVarRead i symbol buf => .cycVarRead i symbol (f buf)
  | .cycVarWrite i symbol buf => .cycVarWrite i symbol (f buf)
  | .mtrCalStart i channel buf => .mtrCalStart i channel (f buf)
  | .mtrHeatConfig i calculator buf => .mtrHeatConfig i calculator (f buf)
  | .mtrHeatRead i calculator buf => .mtrHeatRead i calculator (f buf)
  | .timePtpConfig i buf => .timePtpConfig i (f buf)
  | .netPortConfig i port buf => .netPortConfig i port (f buf)
  | .netVlanSet i port buf => .netVlanSet i port (f buf)
  | .netQueueConfig i port queue buf => .netQueueConfig i port queue (f buf)
  | .netUartConfig i uart buf => .netUartConfig i uart (f buf)
  | .netFrameSend i port queue launch buf => .netFrameSend i port queue launch (f buf)
  | .pairConfig i buf => .pairConfig i (f buf)
  | .faultReadAll i buf => .faultReadAll i (f buf)
  | .logRead i first count filter buf => .logRead i first count filter (f buf)
  | .imgWrite i offset buf => .imgWrite i offset (f buf)
  | .keyDerive i parent target usage label => .keyDerive i parent target usage (f label)
  | .keyDebugUnlock i buf => .keyDebugUnlock i (f buf)
  | c => c

/-- A host command with its issue changed. -/
def mapIssue (f : Issue → Issue) : Instr → Instr
  | .sysNop i data => .sysNop (f i) data
  | .sysInfo i => .sysInfo (f i)
  | .sysWindowSet i base => .sysWindowSet (f i) base
  | .sysAccessGet i target master region => .sysAccessGet (f i) target master region
  | .sysAccessSet i target master region rights start stop => .sysAccessSet (f i) target master region rights start stop
  | .sysEventRoute i source vector => .sysEventRoute (f i) source vector
  | .sysRoleMap i => .sysRoleMap (f i)
  | .sysRotate i interval now => .sysRotate (f i) interval now
  | .sysConfigRead i record buf => .sysConfigRead (f i) record buf
  | .sysConfigWrite i record buf => .sysConfigWrite (f i) record buf
  | .sysRestart i kind => .sysRestart (f i) kind
  | .solvBatchSubmit i desc notify => .solvBatchSubmit (f i) desc notify
  | .solvBatchStatus i batch => .solvBatchStatus (f i) batch
  | .solvBatchWait i batch timeout => .solvBatchWait (f i) batch timeout
  | .solvBatchCancel i batch => .solvBatchCancel (f i) batch
  | .solvLaneStatus i => .solvLaneStatus (f i)
  | .solvLaneRetire i lane => .solvLaneRetire (f i) lane
  | .solvParamSet i pivtol regdelta => .solvParamSet (f i) pivtol regdelta
  | .driftNetConfig i buf => .driftNetConfig (f i) buf
  | .driftPeriodSet i period rounds start => .driftPeriodSet (f i) period rounds start
  | .driftTemplateSet i buf => .driftTemplateSet (f i) buf
  | .driftSlotSet i position slot => .driftSlotSet (f i) position slot
  | .driftFallbackSet i buf hold => .driftFallbackSet (f i) buf hold
  | .driftStart i => .driftStart (f i)
  | .driftStop i => .driftStop (f i)
  | .driftPricesRead i period round buf => .driftPricesRead (f i) period round buf
  | .driftPlanRead i period buf => .driftPlanRead (f i) period buf
  | .driftBidRead i period round buf => .driftBidRead (f i) period round buf
  | .loopDescWrite i loop bank buf => .loopDescWrite (f i) loop bank buf
  | .loopDescRead i loop bank buf => .loopDescRead (f i) loop bank buf
  | .loopBankSwap i loop => .loopBankSwap (f i) loop
  | .loopModeSet i loop mode manual => .loopModeSet (f i) loop mode manual
  | .loopTuneStart i loop cycles amplitude hysteresis => .loopTuneStart (f i) loop cycles amplitude hysteresis
  | .loopTuneResult i loop => .loopTuneResult (f i) loop
  | .loopStatus i loop => .loopStatus (f i) loop
  | .cycLoad i buf => .cycLoad (f i) buf
  | .cycStart i mode => .cycStart (f i) mode
  | .cycStop i => .cycStop (f i)
  | .cycOnlineChange i => .cycOnlineChange (f i)
  | .cycForceSet i symbol type value => .cycForceSet (f i) symbol type value
  | .cycForceClear i symbol => .cycForceClear (f i) symbol
  | .cycForceList i buf => .cycForceList (f i) buf
  | .cycTaskStatus i task => .cycTaskStatus (f i) task
  | .cycVarRead i symbol buf => .cycVarRead (f i) symbol buf
  | .cycVarWrite i symbol buf => .cycVarWrite (f i) symbol buf
  | .mtrChanConfig i channel gain offset delay => .mtrChanConfig (f i) channel gain offset delay
  | .mtrEnergyRead i system phase quantity => .mtrEnergyRead (f i) system phase quantity
  | .mtrDeltaRead i system phase quantity => .mtrDeltaRead (f i) system phase quantity
  | .mtrCalStart i channel buf => .mtrCalStart (f i) channel buf
  | .mtrPulseConfig i output constant width => .mtrPulseConfig (f i) output constant width
  | .mtrHeatConfig i calculator buf => .mtrHeatConfig (f i) calculator buf
  | .mtrHeatRead i calculator buf => .mtrHeatRead (f i) calculator buf
  | .mtrSaveNow i => .mtrSaveNow (f i)
  | .timeRead i => .timeRead (f i)
  | .timeSet i ns => .timeSet (f i) ns
  | .timeState i => .timeState (f i)
  | .timePortCorr i port ingress egress asymmetry => .timePortCorr (f i) port ingress egress asymmetry
  | .timePtpConfig i buf => .timePtpConfig (f i) buf
  | .timeEventConfig i pin mode => .timeEventConfig (f i) pin mode
  | .calRead i => .calRead (f i)
  | .calWrite i values commit => .calWrite (f i) values commit
  | .calDstShift i direction => .calDstShift (f i) direction
  | .calAlarmSet i alarm values mask => .calAlarmSet (f i) alarm values mask
  | .calTrimMeasure i source seconds => .calTrimMeasure (f i) source seconds
  | .calTrimSet i trim => .calTrimSet (f i) trim
  | .netPortConfig i port buf => .netPortConfig (f i) port buf
  | .netPortStatus i port => .netPortStatus (f i) port
  | .netAddrSet i address => .netAddrSet (f i) address
  | .netVlanSet i port buf => .netVlanSet (f i) port buf
  | .netMacsecSa i port direction an slot pn => .netMacsecSa (f i) port direction an slot pn
  | .netQueueConfig i port queue buf => .netQueueConfig (f i) port queue buf
  | .netUartConfig i uart buf => .netUartConfig (f i) uart buf
  | .netFrameSend i port queue launch buf => .netFrameSend (f i) port queue launch buf
  | .pairConfig i buf => .pairConfig (f i) buf
  | .pairStatus i => .pairStatus (f i)
  | .pairMirrorSet i region base length => .pairMirrorSet (f i) region base length
  | .pairSwap i => .pairSwap (f i)
  | .pairResync i => .pairResync (f i)
  | .faultStatus i => .faultStatus (f i)
  | .faultReadAll i buf => .faultReadAll (f i) buf
  | .faultClear i => .faultClear (f i)
  | .faultSafeSet i output value => .faultSafeSet (f i) output value
  | .faultTest i source => .faultTest (f i) source
  | .logRead i first count filter buf => .logRead (f i) first count filter buf
  | .logStatus i => .logStatus (f i)
  | .logFlush i => .logFlush (f i)
  | .logRateSet i code rate burst => .logRateSet (f i) code rate burst
  | .logSeal i slot first last => .logSeal (f i) slot first last
  | .logWrite i code p0 p1 p2 => .logWrite (f i) code p0 p1 p2
  | .imgOpen i slot size => .imgOpen (f i) slot size
  | .imgWrite i offset buf => .imgWrite (f i) offset buf
  | .imgClose i => .imgClose (f i)
  | .imgActivate i component => .imgActivate (f i) component
  | .imgStatus i => .imgStatus (f i)
  | .imgAvalancheStart i port slot => .imgAvalancheStart (f i) port slot
  | .keyDerive i parent target usage label => .keyDerive (f i) parent target usage label
  | .keyInvalidate i slot => .keyInvalidate (f i) slot
  | .keySlotInfo i slot => .keySlotInfo (f i) slot
  | .keyTamperStatus i => .keyTamperStatus (f i)
  | .keyTamperConfig i input mode => .keyTamperConfig (f i) input mode
  | .keyDebugUnlock i buf => .keyDebugUnlock (f i) buf
  | .pwrDomainSet i domain onFlag => .pwrDomainSet (f i) domain onFlag
  | .pwrStatus i => .pwrStatus (f i)
  | .pwrThermalRead i sensor => .pwrThermalRead (f i) sensor
  | .pwrRepairStatus i => .pwrRepairStatus (f i)
  | .unknownOpcode i opcode => .unknownOpcode (f i) opcode
  | c => c

end Sys2Proof.Machine
end

