-- ==== Sys2Proof/Machine/State.lean ====
section
/-! DEFINITION. The state of the STN-7240 as plain data: the memory map, the registers, the mailbox, and what each
block holds that no register shows; the ways a run can stop; and the state right after reset. -/

namespace Sys2Proof.Machine

/-- The ways a run can stop with a fault. No command of this model raises one: the manual gives every command an effect,
and reserved values are refused with E_PARAM or ignored. -/
inductive Fault where
  /-- A value whose effect R12 leaves undefined. Raised by no command; safe, since a run that met it would stop. -/
  | reservedValue (where_ : String)
  deriving DecidableEq, Repr

/-- A command without a meaning. Raised by `exec` for a command not modelled; safe, since a run that meets it stops. -/
inductive Refusal where
  /-- Raised by `exec` for the command named; safe. -/
  | notModelled (mnemonic : String)
  deriving DecidableEq, Repr

/-- The chip, its straps and Firn (R1, R2, R478, R479). -/
structure Chip where
  straps : Straps
  /-- Bedrock or Firn runs; false where R2 holds the chip in reset. -/
  running : Bool
  /-- RESET_OUT_N as driven (R479). -/
  resetOut : Bool
  /-- Factory test (R2). -/
  factory : Bool
  /-- The time base when Firn started (R426). -/
  firnStart : Nat
  /-- The instants of the unplanned Firn restarts of the last 600 s (R478). -/
  restarts : List Nat
  /-- Firn waits for commands to complete before a planned restart (R67), with what that restart meets, and the instant at
  which the wait ends. -/
  draining : Option BootEnv := none
  drainEnd : Nat := 0
  /-- The configured size of LPDDR4X in force, a code of R512: that of the record which Firn loaded at the last reset. -/
  ddrSize : Nat := 0
  /-- PORST_N is low (R461, R479). -/
  porstLow : Bool := false
  deriving DecidableEq, Repr

/-- A completion as Firn formed it (R48). -/
structure Completion where
  src : CmdSrc
  tag : W16
  status : Nat
  w0 : W32
  w1 : W32
  w2 : W32
  deriving DecidableEq, Repr

/-- An asynchronous command that is outstanding (R55): the command, its issue, and whether its completion is discarded
(R37, R41). -/
structure Outst where
  id : Nat
  cmd : Instr
  iss : Issue
  dropped : Bool := false
  /-- The instant at which its operation began. -/
  since : Nat := 0
  /-- A number that ties the command to its operation: a batch, a loop, a sequence number. -/
  ref : Nat := 0
  /-- MB_WINDOW when it started (R72). -/
  win : Nat := 0
  deriving DecidableEq, Repr

/-- The mailbox beside its registers (R42 to R62). -/
structure Mb where
  /-- PHASE of the pass that each pair's completion queue is in (R49). -/
  phase : BitVec 8
  /-- The place last served in each priority: 0 to 7 a pair, 8 the immediate mailbox (R54). -/
  lastHigh : Nat
  lastNorm : Nat
  /-- MB_WINDOW as each pair was enabled (R72, DEDUCED, log 19). -/
  qpWin : KMap Nat
  /-- Asynchronous commands that are outstanding, at most 32 (R56). -/
  outstanding : List Outst
  /-- The number that the next asynchronous command takes. -/
  serial : Nat
  /-- Commands that wait for a handover to end (R57). -/
  waiting : List Instr
  /-- The host whose GO is pending, and whether one is (R62). -/
  immHost : HostId
  immGo : Bool
  /-- SYS_EVENT_ROUTE's table, vector by source. -/
  routes : KMap Byte
  /-- MSI-X messages sent, by vector: the model's own observation (DESIGN CHOICE, log 5). -/
  msix : KMap Nat
  /-- The completion formed last: the model's own observation (DESIGN CHOICE, log 5). -/
  last : Option Completion
  deriving DecidableEq, Repr

/-- The Octal SPI target (R39, R41). -/
structure Spi where
  octal : Bool
  wel : Bool
  deriving DecidableEq, Repr

/-- What the last read on a host link, a fabric read or a JTAG scan returned: the model's own observation (DESIGN CHOICE, log 5). -/
structure Bus where
  data : Bytes
  /-- Unsupported Request (R33, R35). -/
  ur : Bool
  deriving DecidableEq, Repr

/-- The fault block beside its registers (R388 to R400). -/
structure FaultSt where
  /-- The conditions of level sources that hold and that no FAULT register shows, before the enables. -/
  live : Sources
  /-- Outputs that keep their safe value until their driver next writes them (R400): GPIO, PWM, POUT. -/
  heldGpio : BitVec 24
  heldPwm : BitVec 16
  heldPout : BitVec 4
  deriving DecidableEq, Repr

/-- A posting in the intake FIFO (R406). -/
structure Posting where
  code : W16
  source : Master
  tunset : Bool
  time : W64
  p0 : W32
  p1 : W32
  p2 : W32
  /-- The LOG_WRITE that waits for its record's sequence number. -/
  waiter : Option Issue := none
  deriving DecidableEq, Repr

/-- A rate entry's counts (R409, R410); its code and limits are LOG_RATE registers. -/
structure RateEntry where
  tokens : Nat
  /-- The last record written for the entry. -/
  lastSeq : Option Nat
  /-- Records suppressed since the last one written, and what the first of them carried (R410). -/
  suppressed : Nat
  suppCode : W16
  suppSource : Master
  suppP0 : W32
  suppTime : W64
  suppTunset : Bool
  deriving DecidableEq, Repr

/-- A LOG_SEAL in progress (R417). -/
structure SealOp where
  /-- The outstanding command's number. -/
  id : Nat
  /-- The key slot, and the first and last sequence number of the range. -/
  slot : Nat
  first : Nat
  last : Nat
  /-- Its flush has ended and the Guard computes the MAC. -/
  hashing : Bool
  deriving DecidableEq, Repr

/-- The Strata log beside its registers (R404 to R418). -/
structure LogSt where
  fifo : List Posting
  /-- The count is not set (R405). -/
  unset : Bool
  /-- The oldest record still held (R416); none before the first record. -/
  oldest : Option Nat
  /-- Postings lost and not yet told, with the first one's code, source and time (R408). -/
  lostPend : Nat
  lostCode : W16
  lostSource : Master
  lostTime : W64
  lostTunset : Bool
  /-- The counts of each rate entry (R409). -/
  rates : KMap RateEntry
  /-- The flush in progress: the sequence number after the last it covers. -/
  flush : Option Nat
  /-- Another flush starts as the current one ends. -/
  flushAgain : Bool
  /-- LOG_SEAL operations in progress (R417). -/
  seals : List SealOp
  /-- Millisecond instants since the previous flush began or RUN was set (R413). -/
  msSince : Nat
  /-- The number of the next millisecond instant: the whole milliseconds at which NS stands at it (R409). -/
  msNext : Nat
  /-- A record has been written since the count was set (R418). -/
  written : Bool
  /-- FAULT_FIRST asks for a flush that has not started yet (R393). -/
  firstFlush : Bool
  /-- The first record that no flush has copied: the ring holds the records from here on (R412). -/
  tail : Nat
  /-- LOG_WRITE postings that wait for room in the FIFO (R408). -/
  waitWrites : List Posting
  deriving DecidableEq, Repr

/-- A reception of Avalanche (R433, R434): the announced image, its sender, the blocks held, and the block in hand with
its fragments (key 4: its CMAC). -/
structure AvRx where
  image : W32
  length : Nat
  flags : Byte
  version : W32
  svn : W32
  activateAt : W64
  slot : Nat
  sender : W16
  held : List Nat
  /-- The held blocks as the boot record has them (R434). -/
  saved : List Nat
  /-- The block in hand and its fragments by number, 4 for its CMAC; the instant of the announce. -/
  block : Nat
  frags : KMap Bytes
  started : Nat
  deriving DecidableEq, Repr

/-- A transfer of Avalanche to a neighbour (R434, R437): the slot it reads, the first 28 bytes of its announce body, the
last NEXT acknowledged, the next block to send. -/
structure AvTx where
  slot : Nat
  ann : Bytes
  next : Nat
  sent : Nat
  resends : Nat
  suspended : Bool
  /-- The announce has been acknowledged. -/
  announced : Bool
  /-- When NEXT last advanced, or the sender last resent or announced: moved with a step of the time base. -/
  since : Nat
  deriving DecidableEq, Repr

/-- An activation in progress (R439, R441). -/
structure Activation where
  component : Nat
  /-- Roles still to be handed over; the role whose handover runs; those whose handover was abandoned and is repeated at
  the next rotation instant. -/
  roles : List Nat
  current : Option Nat := none
  later : List Nat := []
  deriving DecidableEq, Repr

/-- A copy of the boot record (R424): its sequence number; BOOT_STATE's slot states, running slot and KEY0_OFF; BOOT_CNT,
MIN_SVN, VERSION and SVN of the slots; the reception of Avalanche, and the activation that its announce asks for (R438):
image, slot and instant. -/
structure BootRec where
  seq : Nat
  state : W32
  cnt : W32
  minSvn : W32
  verA : W32
  verB : W32
  svnA : W32
  svnB : W32
  rx : Option AvRx
  actAt : Option (W32 × Nat × W64)
  deriving DecidableEq, Repr

/-- Images and boot beside the BOOT registers (R424 to R445). -/
structure BootSt where
  /-- The two public keys in Bedrock's ROM, X then Y (R421), by KEYID. -/
  romKeys : List Bytes
  /-- The two copies of the boot record in the configuration store; none for a copy whose CRC fails (R424). -/
  copies : Option BootRec × Option BootRec
  /-- An activation that awaits its instant (R438): the image, its slot, ACTIVATE_AT. -/
  actAt : Option (W32 × Nat × W64)
  /-- SVN of slots A and B (boot record). -/
  svnA : W32
  svnB : W32
  /-- IMG_OPEN's slot and size, and the 4 KB blocks written (R429). -/
  opened : Option (Nat × Nat)
  blocks : List Nat
  /-- The reception of Avalanche, and the transfers by port (R433, R434). -/
  rx : Option AvRx
  tx : KMap AvTx
  /-- The activation in progress (R439, R441). -/
  activating : Option Activation
  /-- GOOD has been declared since the last boot (R426). -/
  goodDone : Bool
  /-- The format, the meaning and the bytes of the configuration records before a migration, while they are kept (R442,
  R443). -/
  oldCfg : Option (Nat × CfgRecord × KMap Bytes)
  deriving DecidableEq, Repr

/-- A key slot of the Guard (16, contents of a key slot). -/
structure KeySlot where
  key : Bytes
  parent : Nat
  depth : Nat
  usage : Byte
  gen : Nat
  pgen : Nat
  valid : Bool
  bad : Bool
  fixed : Bool
  deriving DecidableEq, Repr

/-- A derivation record in the configuration store (R455). -/
structure DerivRec where
  target : Nat
  parent : Nat
  usage : Byte
  label : Bytes
  deriving DecidableEq, Repr

/-- The Guard: key tree, tamper and debug (R451 to R466). -/
structure KeySt where
  /-- Slots 0 to 127 by number; an unlisted slot is empty with GEN 0. -/
  slots : KMap KeySlot
  /-- The root's identifier (KEY_DERIVE, R454). -/
  rootId : W32
  /-- The real root while debug masks it (R466). -/
  masked : Option KeySlot
  /-- The derivation records (R455). -/
  records : List DerivRec
  /-- Mode bytes of the tamper inputs 0 to 7 (R461). -/
  modes : BitVec 64
  /-- Tamper inputs latched, and inputs active now (R463). -/
  latched : Byte
  live : Byte
  /-- The key tree has been zeroized (R463). -/
  zeroized : Bool
  /-- Debug is on, and the scope of its response (R465). -/
  debug : Bool
  scope : W32
  /-- Debug responses refused since power-on (R465). -/
  refused : Nat
  /-- The 16-byte challenge (R465). -/
  challenge : Bytes
  /-- The mesh generator (R462). -/
  lfsr : W16
  /-- When it was seeded, moved with a step of the time base and with a reset. -/
  lfsrAt : Int
  /-- Tampers while Firn did not run: the input, its LOG_ONLY and the calendar's reading. Firn reports them at its next start
  (R463). -/
  missed : List (Nat × Bool × W32)
  /-- The device provisioning key, fused (R457). -/
  deviceKey : Bytes
  deriving DecidableEq, Repr

/-- The JTAG port: the instruction in force and the data last shifted out. -/
structure JtagSt where
  ir : BitVec 5
  dr : Bytes
  deriving DecidableEq, Repr

/-- A command on a power domain in progress (R468): the code, the state asked for and since when. -/
structure DomSwitch where
  code : Nat
  turnOn : Bool
  since : Nat
  deriving DecidableEq, Repr

/-- Power, rotation and repair beside the PCR registers (R468 to R490). -/
structure PwrSt where
  switching : List DomSwitch
  /-- The next role of the rotation order, kept in PD0 AON (R481). -/
  pos : Nat
  /-- The handover in progress is a thermal migration or that of a new firmware (R477, R441). -/
  rotThermal : Bool
  /-- Roles that a thermal migration has moved and that count as rotated at their next turn (R477). -/
  counted : List Nat
  /-- Roles without a tile (R485), bit k for role k. -/
  lost : BitVec 8
  /-- Tiles retired since the last power-on reset because they lost a role (R18, R485), bit t - 2 for tile t. -/
  roleLost : BitVec 9
  /-- The instant at which the rotation in progress began. -/
  rotSince : Nat
  /-- A rotation waits for FREEZE to clear (R481, R484). -/
  rotRetry : Bool
  /-- A role whose thermal migration waits for FREEZE to clear (R477, R484). -/
  migrate : Option Nat
  /-- The last thermal migration (R477). -/
  thermalAt : Option Nat
  /-- Consecutive samples for which a tile has read more than 20.0 °C above a neighbour, by hot tile × 16 + cool tile, up to
  100 (R477). -/
  skew : KMap Nat
  /-- Milliseconds for which the VDD_CORE deviation has held (R475). -/
  avsBad : Nat
  /-- The last VOUT_COMMAND over I2C0: the regulator's address and the target in mV (R475): the model's own observation (DESIGN
  CHOICE, DESIGN CHOICE, log 5). -/
  vout : Option (Nat × Nat)
  /-- Shared SRAM words that returned a corrected error once, by word address (R487). -/
  ceWords : List Nat
  /-- Repaired rows: (bank, row) (R487, R490). -/
  rows : List (Nat × Nat)
  /-- MRAM sectors remapped, in the order of the pool sectors (R489). -/
  remap : List Nat
  /-- The power-fail warning has been taken (R386, R461). -/
  pfw : Bool
  deriving DecidableEq, Repr

/-- The time base beside its registers (R284 to R313). -/
structure TimeSt where
  ns : W64
  frac : W32
  ptp : PtpCfg
  /-- How often the PTP state of every port has been restarted (R303): the model's own count. -/
  ptpRestarts : Nat
  /-- Consecutive in-limit and out-of-limit updates (R288). -/
  inRun : Nat
  outRun : Nat
  /-- A pending step: STEP_AT and STEP_VAL as its request took them (R293). -/
  pendStep : Option (W64 × W64)
  /-- The time base at the last UPDATE, moved with a step; none since reset (R292). -/
  lastUpd : Option Int
  /-- The time base at the last PPS_IN edge, or at reset, moved with a step (R311). -/
  ppsInAt : Int
  /-- Captured stamps of each TEVT pin, oldest first (R312). -/
  fifo : KMap (List W64)
  /-- Compares that a write of CMP_HI has armed (R312). -/
  armed : BitVec 4
  /-- The instant at which each TEVT output in progress falls, and PPS_OUT's (R310, R312). -/
  evOut : KMap Int
  ppsOut : Option Int
  deriving DecidableEq, Repr

/-- Where a queued frame came from: a transmit descriptor, an outstanding NET_FRAME_SEND, forwarding, or this unit's own
engines (heartbeats, mirror frames, drift and remote I/O frames, Avalanche). -/
inductive FrameOrigin where
  | ring (idx : Nat)
  | command (id : Nat)
  | forwarded
  | own
  deriving DecidableEq, Repr

/-- A frame in an egress queue (R346): from destination address to payload end, with its launch time (0 none). -/
structure QFrame where
  bytes : Bytes
  launch : Nat := 0
  origin : FrameOrigin
  /-- PTP one-step insertion (R302). -/
  oneStep : Bool := false
  /-- The late-frame option of this frame is drop, whatever its queue's (R157). -/
  strict : Bool := false
  /-- A transparent clock's ingress stamp less the link delay it adds, in units of 2^-16 ns (R300). -/
  residence : Option Int := none
  deriving DecidableEq, Repr

/-- A queue's gating (R348) and late mode. -/
structure Gate where
  lateSend : Bool
  cycle : Nat
  base : Nat
  windows : List (Nat × Nat)
  deriving DecidableEq, Repr

/-- A MACsec secure association (R352 to R354). -/
structure MacSa where
  port : Nat
  /-- 0 transmit, 1 receive. -/
  dir : Nat
  /-- Association number, key slot and next packet number. -/
  an : Nat
  slot : Nat
  pn : Nat
  /-- Its key slot has become invalid (R354), or its last PN has been used (R353). -/
  dead : Bool
  deriving DecidableEq, Repr

/-- A UART transaction (R361): the command or the register request that runs it, and its buffer. -/
structure UartTx where
  /-- The outstanding command, or none for PORT_Uk registers. -/
  command : Option Nat
  /-- Request and response length, and the room of the buffer. -/
  req : Nat
  len : Nat
  room : Nat
  /-- The launch time of a command's request, or 0, and the instant at which its turn came (R361). -/
  launch : Nat
  since : Nat
  deriving DecidableEq, Repr

/-- A source address that the switch has learned (R339). -/
structure MacEntry where
  mac : Nat
  port : Nat
  seen : Nat
  deriving DecidableEq, Repr

/-- The switch and its ports beside the PORT registers (R335 to R362). -/
structure PortSt where
  cfg : KMap PortCfg
  /-- Frames waiting, by port * 8 + queue. -/
  queues : KMap (List QFrame)
  /-- The gate in force of each queue (R348). -/
  gates : KMap Gate
  /-- A new gate and the instant at which it applies (R348). -/
  gatesNext : KMap (Nat × Gate)
  /-- Learned addresses, at most 1,024 (R339). -/
  addr : List MacEntry
  /-- VLAN membership by port: VID and UNTAG. -/
  vlans : KMap (List (Nat × Bool))
  /-- Secure associations (R352). -/
  sas : List MacSa
  /-- Value groups of the link (R358). -/
  groups : List ValueGroup
  /-- Launches of each value group since reset, by group number. -/
  launches : KMap Nat
  /-- UART configurations (R360). -/
  uarts : KMap UartCfg
  /-- The transaction that each UART runs (R361). -/
  utx : KMap UartTx
  /-- Transactions that wait their turn, by UART. -/
  uwait : KMap (List UartTx)
  /-- The descriptors that the switch uses next in the receive and transmit rings. -/
  rxIdx : Nat
  txIdx : Nat
  /-- The MDI time up to which each port transmits, inter-frame gap included, or awaits a cut-through frame (R304, R340). -/
  busy : KMap Nat
  /-- Transmission of a port stopped in the middle by R354 or R359: the model's own observation of an inverted FCS. -/
  aborted : KMap Nat
  /-- The last frame that each port has sent: the model's own observation (DESIGN CHOICE, log 5). -/
  lastTx : KMap Bytes
  /-- The same frame as it went over the wire, from the destination address to the FCS (R351, R355): the model's own
  observation (DESIGN CHOICE, log 5). -/
  lastWire : KMap Bytes
  deriving DecidableEq, Repr

/-- The pair unit beside its registers (R363 to R387). -/
structure PairSt where
  /-- Dirty 64-byte lines of the mirror regions, ascending (R378). -/
  dirty : List Nat
  /-- The pair configuration in force (R363). -/
  cfg : PairCfg
  /-- HBSEQ sent last, and that of the last valid heartbeat. -/
  hbSeq : Nat
  rxSeq : Option W16
  /-- A valid heartbeat has arrived since the previous check (R374). -/
  seen : Bool
  /-- What the last valid heartbeat reported: STATE, FLAGS, EPOCH. -/
  pState : Nat
  pFlags : Byte
  pEpoch : Nat
  /-- Consecutive valid heartbeats of an ACTIVE partner with FROZEN (R375). -/
  frozenRun : Nat
  /-- The loss condition of R374 holds. -/
  loss : Bool
  /-- The heartbeats have stopped with the power-fail warning (R373). -/
  pfail : Bool
  /-- ALIVE has been set within 250 ms (R364), and when it was set last. -/
  alive : Bool
  aliveAt : Int
  /-- When the unit was reset (R371), when PAIR_IL_IN last became valid at its level (R370, R372), when the pair link last
  went down, and when the last SWAP_OFFER and the last RESYNC_REQ were sent (R383, R384): on the time base, moved with its
  step. -/
  resetAt : Int
  ilSince : Int
  linkSince : Int
  swapAt : Int
  resyncAt : Int
  /-- Frames of the mirror engine that wait for the port (R380). -/
  backlog : List Bytes
  /-- The active has stopped mirroring (R380). -/
  mirrorOff : Bool
  /-- The point being received: MSEQ, FLAGS and lines (R381). -/
  staged : Option (W32 × Byte × List (W32 × Bytes))
  /-- A SWAP_OFFER that waits for its point (R383). -/
  offer : Option W32
  /-- The outstanding PAIR_SWAP of a swap in progress, and the claim before it. -/
  swapCmd : Option Nat
  oldClaim : W32
  /-- When the unit last entered ACTIVE, and the SWAP_DEFER records written since the swap fell due (R382). -/
  activeSince : Int
  deferred : Nat
  /-- A resync in progress (R384): the next point is the first, and RESYNC_END's point. -/
  rsFirst : Bool
  rsEnd : Option W32
  deriving DecidableEq, Repr

/-- An entry of a latch or commit list (R225). -/
structure ListEnt where
  kind : Nat
  count : Nat
  index : Nat
  image : Nat
  deriving DecidableEq, Repr

/-- A task entry (07), with its latch and commit lists. -/
structure TaskDef where
  task : Nat
  role : Nat
  prio : Nat
  ovf : Nat
  period : Nat
  phase : Nat
  inOff : Nat
  inLen : Nat
  outOff : Nat
  outLen : Nat
  retOff : Nat
  retLen : Nat
  latch : List ListEnt
  commit : List ListEnt
  deriving DecidableEq, Repr

/-- A REMOTE entry (R244): `ty` 1 publication, 2 command group, 3 publication subscription, 4 command subscription. -/
structure Remote where
  ty : Nat
  group : Nat
  peer : Nat
  count : Nat
  rx : Nat
  interval : Nat
  phase : Nat
  port : Nat
  queue : Nat
  stale : Nat
  task : Nat
  fb : Nat
  deriving DecidableEq, Repr

/-- A cycle program in the configuration store (R214, R215): its container, and what the container holds. -/
structure Program where
  bytes : Bytes
  ver : W32
  base : W32
  lineage : Nat
  gen : Nat
  retLen : Nat
  workLen : Nat
  tasks : List TaskDef
  remotes : List Remote
  rodata : Bytes
  /-- The content of the CODE sections, in their order. -/
  code : Bytes
  extra : ProgExtra
  deriving DecidableEq, Repr

/-- A request that the image engine serves or holds (R221): when it arrived, whether it is a commit, and its task. -/
structure EngReq where
  arrived : Nat
  isCommit : Bool
  task : Nat
  deriving DecidableEq, Repr

/-- A commit buffer that waits to be drained (R228): the commit's sequence number and its lines, by address / 64. -/
structure Drain where
  task : Nat
  seq : Nat
  lines : List Nat
  deriving DecidableEq, Repr

/-- A CYC_VAR_WRITE that waits for a latch (R250): the outstanding command, the symbol and the bytes. -/
structure VarWrite where
  id : Nat
  sym : Sym
  bytes : Bytes
  deriving DecidableEq, Repr

/-- A command group at its sender (R247, R248). -/
structure GroupRun where
  seq : Nat := 0
  unack : Nat := 0
  ackSeq : Nat := 0
  ackLast : Bool := false
  rej : Bool := false
  notSent : Bool := false
  deriving DecidableEq, Repr

/-- A subscription (R246, R249): its miss count, whether a frame has come since the last check, and for a command
subscription HOLDING, FALLBACK, the latest accepted SEQ and the time of its acceptance. -/
structure SubRun where
  miss : Nat := 0
  got : Bool := false
  holding : Bool := false
  fallback : Bool := false
  seq : Nat := 0
  since : Nat := 0
  deriving DecidableEq, Repr

/-- The cycle runtime beside its registers (07). -/
structure CycSt where
  /-- Dirty 64-byte lines of the retentive area, by address / 64, ascending (R226). -/
  dirty : List Nat
  /-- The active and the pending program (R215). -/
  act : Option Program
  pend : Option Program
  /-- LINEAGE, GENERATION and RET_LEN in the configuration store (R232). -/
  stored : Option (Nat × Nat × Nat)
  /-- No release before this instant (R231). -/
  first : Nat
  /-- The requests of the image engine, the one it serves in front (R221). -/
  reqs : List EngReq
  /-- The forces and the command groups as they stood when the request in front began to be served (R236, R248). -/
  servForces : KMap (Nat × W64)
  servGroups : KMap GroupRun
  /-- The program code area of the active program: the second one (R220). -/
  area : Bool
  /-- COMMAND frames refused (R247). -/
  refused : Nat
  /-- The release time of each task's cycle, last served. -/
  rel : KMap Nat
  /-- Tasks that have switched to the pending program during CHANGING, and whether S has passed (R239). -/
  switched : List Nat
  passed : Bool
  /-- Tasks whose cycle in progress runs the pending program. -/
  onNew : List Nat
  /-- The longest run of each task since power-on (R250). -/
  longest : KMap Nat
  /-- Forces by symbol: type and value (R235). -/
  forces : KMap (Nat × W64)
  /-- Variable writes that wait for their task's latch (R250). -/
  writes : List VarWrite
  /-- Commit buffers not drained, the one in progress in front (R228). -/
  drains : List Drain
  /-- The values of each publication's commits with their times, newest first, and its launches (R245), by group. -/
  pubs : KMap (List (Nat × List W64))
  pubSeq : KMap Nat
  /-- Command groups by number, and subscriptions by type, peer and group. -/
  groups : KMap GroupRun
  subs : KMap SubRun
  /-- The images as they stood at commits of each task, newest first, with the commit times (R29). -/
  snaps : KMap (List (Nat × List Host.Cell))
  deriving DecidableEq, Repr

/-- What ROUND_START tells a STATION (05). -/
structure RoundInfo where
  period : Nat
  round : Nat
  nr : Nat
  stop : Bool
  pstart : Nat
  periodS : Nat
  solveUs : Nat
  slotNs : Nat
  bidwinUs : Nat
  tr : Nat
  src : Nat
  /-- The port on which it arrived. -/
  port : Nat
  deriving DecidableEq, Repr

/-- A STATION's plan of a period as DRIFT_PLAN_READ gives it (R181). -/
structure StationPlan where
  period : Nat
  final : Nat
  src : Nat
  pv : List W64
  deriving DecidableEq, Repr

/-- What a STATION keeps of a local problem's result (R164, R165): STATUS, FLAGS, CARRY_AGE, whether an earlier round of
the period took its place, and x. -/
structure Solved where
  status : Nat
  flags : Byte
  age : Nat
  roundcarry : Bool
  x : List W64
  deriving DecidableEq, Repr

/-- The prices that a STATION has assembled against, and the batch that solves (R163, R177). -/
structure Assembled where
  claim : W32
  crc : W32
  batch : Nat
  /-- The round, and the template with its n, that it was assembled for. -/
  info : RoundInfo
  tmpl : Nat × Bytes
  /-- The result, once SEQ has taken it. -/
  out : Option Solved
  deriving DecidableEq, Repr

/-- Drift rounds at a STATION (R157 to R166, R174 to R177). -/
structure StationSt where
  /-- The template in force with its n, and the one that follows at the next round-start instant, with the time of its
  command (R162). -/
  tmpl : Option (Nat × Bytes)
  tmplNext : Option (Nat × Nat × Bytes)
  /-- Chain position and slot in force, and those that follow, with the time of the command (R180). -/
  place : Nat × Nat
  placeNext : Option (Nat × Nat × Nat)
  /-- The 64 fallback values (R175, R180). -/
  fallback : List W64
  /-- The last accepted ROUND_START (R157). -/
  info : Option RoundInfo
  /-- The assembly of the current round (R163). -/
  work : Option Assembled
  /-- The period and the round for which the bid has been queued, or cannot be (R164, R166). -/
  ended : Option (Nat × Nat)
  /-- Round history of the period: round, x and y (R164). -/
  history : List (Nat × List W64 × List W64)
  historyOf : Nat
  /-- Bids of the current and the previous period: (period, round, BID body). -/
  bids : List (Nat × Nat × Bytes)
  /-- Plans that DRIFT_PLAN_READ returns (R181). -/
  plans : List StationPlan
  /-- The applied x (R174); none on fallback. -/
  applied : Option (List W64)
  /-- The period of the last accepted PLAN_COMMIT (R175). -/
  lastPlan : Option Nat
  /-- The fallback of R175 has been staged for the plan held. -/
  expired : Bool
  deriving DecidableEq, Repr

/-- A station as the HEAD follows it (R168): what it has accepted this period by round, its code and draws of the round
last closed, of the previous plan, and its consecutive periods of code 0. -/
structure HeadStation where
  bids : List (Nat × List W64) := []
  code : Nat := 0x1F
  draws : List W64 := []
  planCode : Nat := 0x1F
  plan : List W64 := []
  /-- The period of that plan. -/
  planAt : Option Nat := none
  zeros : Nat := 0
  deriving DecidableEq, Repr

/-- A branch as the HEAD follows it (R170): lam, y and yprev. -/
structure HeadBranch where
  lam : List W64 := []
  y : List W64 := []
  yprev : List W64 := []
  deriving DecidableEq, Repr

/-- A supply template's problem (R169): the draws by round of this period, those that the round last closed has used, and
the final draws of a period with its number. -/
structure HeadSupply where
  batch : Option Nat := none
  draws : List (Nat × List W64) := []
  cur : Option (List W64) := none
  last : Option (Nat × List W64) := none
  deriving DecidableEq, Repr

/-- Drift rounds at a HEAD (R151 to R155, R167 to R173, R178 to R181). -/
structure HeadSt where
  /-- The network configuration in force, and the one that follows at the next period start, with the time of its command
  (R180). -/
  net : Option Bytes
  netNext : Option (Nat × Bytes)
  /-- Rounds run from period `some k` on; none while stopped. -/
  started : Option Nat
  /-- Branches that take P0 at the next period start (R172): after DRIFT_START, and after a change of QK or PS. -/
  freshBranches : List Nat
  /-- The period and the round last started, the round last closed, the final round of the period (0 none yet), and its
  residual. -/
  period : Nat
  round : Nat
  closed : Nat
  final : Nat
  /-- A round of the period has been run (R173). -/
  ran : Bool
  /-- The unit has taken over since it last began a period: prices, codes and plans are those that the mirror brought
  (R178, R179). -/
  mirrored : Bool
  /-- The residual of the round last closed (R170). -/
  res : W64
  /-- Branches by identifier, stations by address, supply templates by number. -/
  branches : KMap HeadBranch
  stations : KMap HeadStation
  supplies : KMap HeadSupply
  /-- Bids discarded (R167). -/
  rejected : Nat
  /-- PRICE bodies broadcast: (period, round, branch, body), and plans: (period, address, code, draws), of the current
  and the three previous periods (R181). -/
  prices : List (Nat × Nat × Nat × Bytes)
  plans : List (Nat × Nat × Nat × List W64)
  /-- Frames that wait for room in a port's queue, by port: launch time and bytes (R160). -/
  waiting : KMap (List (Nat × Bytes))
  /-- Drift lines that the mirror has brought to a standby, by line, and the time at which the last came (R178). -/
  lines : KMap Bytes
  linesAt : Option Nat
  deriving DecidableEq, Repr

/-- Drift rounds (05). -/
structure DriftSt where
  /-- P in seconds, NR and START (DRIFT_PERIOD_SET). -/
  sched : Option (Nat × Nat × Nat)
  /-- HOLD_TIME (R175). -/
  hold : Nat
  /-- The rounds of a STATION and those of a HEAD. -/
  st : StationSt
  hd : HeadSt
  deriving DecidableEq, Repr

/-- A batch of problems (R111 to R123). -/
structure Batch where
  id : Nat
  master : Master
  prio : Nat
  mask : W32
  /-- Its completion sets MB_EVENT bit 15, and raises the submitting role's SOLV interrupt. -/
  notify : Bool
  tirq : Bool
  /-- Offsets of the problem records, in descriptor order. -/
  offsets : List Nat
  /-- Indices of the problems not yet dispatched, in the order of ORDER. -/
  waiting : List Nat
  /-- Problems done, carried and refused (R114). -/
  done : Nat
  carried : Nat
  refused : Nat
  /-- SOLV_BATCH_CANCEL has been applied (R123). -/
  cancelled : Bool
  /-- A problem has been dispatched. -/
  started : Bool
  /-- Every index in the order of ORDER (R119). -/
  order : List Nat
  deriving DecidableEq, Repr

/-- A problem on a lane (R104, R110): the problem, the physical lane, the time base and state at the start, the steps of
the time base since (ns of the run, and the change), the parameters in force, and the bytes that the lane reads. -/
structure SolvRun where
  batch : Nat
  index : Nat
  off : Nat
  phys : Nat
  tStart : Nat
  unset : Bool
  steps : List (Nat × Int)
  pivtol : Dbl
  regdelta : Dbl
  redisp : Bool
  /-- An earlier run of the problem met an uncorrectable ECC error (R107). -/
  faulted : Bool
  /-- The bytes read at the start: problem record, mask, warm start, and the result record's own words (R95, R117). -/
  record : Bytes
  mask : Bytes
  ws : Bytes
  own : Bytes
  deriving DecidableEq, Repr

/-- The solver array beside its registers (R81 to R124). -/
structure SolvSt where
  /-- Batches queued or running, in submission order. -/
  batches : List Batch
  /-- The batches completed last, at most 64, oldest first (R114). -/
  finished : List Batch
  /-- The identifier of the next batch (R114). -/
  nextId : Nat
  /-- Problems on lanes, by logical lane. -/
  runs : KMap SolvRun
  /-- Problems that go ahead of every undispatched problem (R107): batch, index, and whether a lane fault stopped them. -/
  front : List (Nat × Nat × Bool)
  /-- Problems not yet done whose submitter has written to what R118 protects: batch and index. -/
  broken : List (Nat × Nat)
  /-- SOLV interrupts raised at tiles, by master: the model's own observation (DESIGN CHOICE, log 5). -/
  tirqs : KMap Nat
  deriving DecidableEq, Repr

/-- The GPIO outputs and the PWM channels beside the IO registers (R389 to R400, R508). -/
structure IoSt where
  /-- The levels that the commit engine drives. -/
  gpio : BitVec 24
  /-- The duty written last to each channel, in per cent; unlisted 0.0. -/
  duty : KMap Dbl
  /-- The period in force of each channel in LOOPCLK; unlisted 250,000. -/
  period : KMap Nat
  deriving DecidableEq, Repr

/-- What a loop holds beside its registers (06, loop state): binary64 values, the last sample time, and what its next
evaluation owes. -/
structure LoopRun where
  i : Dbl := 0
  dPrev : Dbl := 0
  edPrev : Dbl := 0
  uPrev : Dbl := 0
  v : Dbl := 0
  tsLast : Nat := 0
  u0 : Dbl := 0
  /-- The derivative state restarts (R197). -/
  dreset : Bool := false
  /-- The last sample held under R199, or under R200; or was a freeze-tracking transfer (R202). -/
  hold : Bool := false
  numHold : Bool := false
  frz : Bool := false
  /-- The next evaluation is a transfer to AUTO: from this value, or from LOOP_MANk (R198). -/
  xfer : Option Dbl := none
  xman : Bool := false
  /-- A pending mode request (R201): the mode, BUMPLESS and the given manual output. -/
  req : Option (Nat × Bool × Option Dbl) := none
  /-- The mode that follows a tune that has ended (R209). -/
  after : Option Nat := none
  deriving DecidableEq, Repr

/-- A relay auto-tune, pending or in progress (R207 to R209). -/
structure Tune where
  loop : Nat
  nc : Nat
  d : Dbl
  h : Dbl
  /-- The mode before TUNE; none while the tune is pending. -/
  prev : Option Nat := none
  /-- TUNE_ABORT has been written. -/
  abort : Bool := false
  /-- The relay's sign; none before the first tune sample. -/
  up : Option Bool := none
  /-- Samples since the last switch. -/
  since : Nat := 0
  /-- The sample times of the first and the last upward switch; none while settling. -/
  tFirst : Option Nat := none
  tLast : Nat := 0
  /-- Whole periods seen, extremes of the current one, and the sum of amplitudes (R209). -/
  periods : Nat := 0
  hi : Dbl := 0
  lo : Dbl := 0
  sum : Dbl := 0
  deriving DecidableEq, Repr

/-- The loop engine beside its registers (06). -/
structure LoopSt where
  /-- Parts 0 to 2 of each loop that have been written, by loop * 4 + part (R516). -/
  parts : KMap Bytes
  /-- What each loop holds beside its registers. -/
  runs : KMap LoopRun
  /-- The tune pending or in progress (R207). -/
  tune : Option Tune
  /-- Some loop has been in TUNE, and LOOP_TUNE_LOOP names the last one (R213). -/
  tuned : Bool
  /-- The tune that ended DONE and waits for its proposal (R210). -/
  proposal : Option Tune
  /-- The image values of the source table (R190), by offset, the output image above 0x100000. -/
  src : KMap W64
  /-- LOOP_TXVAL values that later writes have replaced, with the instant of the write, newest first (R358). -/
  txOld : List (Nat × Nat × W64)
  /-- The meter values posted last, by number, and the numbers whose quality is BAD (R189). -/
  meter : KMap W64
  meterBad : List Nat
  /-- The plan that ARM has taken, and its effective time (R192). -/
  plan : Option (List W64 × Nat)
  deriving DecidableEq, Repr

/-- A pulse output's emitter (R270, R271): base, whole constants counted, the width in force, the end of the pulse in
progress and the earliest next start. -/
structure PulseRun where
  base : Nat := 0
  counted : Nat := 0
  width : Nat := 80
  stop : Nat := 0
  next : Nat := 0
  deriving DecidableEq, Repr

/-- A calculator (R272 to R275): the configuration of the step in progress and the one that follows; of the step that has
ended its configuration, the latched pulses at its start and its temperatures with their BAD flags; the residues of heat,
cold, all volume, heat, cold and error volume, those of the committed set, and whether the last step was bad. -/
structure HeatRun where
  cfg : Bytes := []
  next : Option Bytes := none
  stepCfg : Bytes := []
  pulses : Nat := 0
  tf : Dbl × Bool := (0, true)
  tr : Dbl × Bool := (0, true)
  res : List Dbl := []
  resDone : List Dbl := []
  bad : Nat := 0
  deriving DecidableEq, Repr

/-- A calibration in progress (R259): its command, channel, kind, reference and seconds, the intervals that are left once
its window has opened (none before), whether a channel has been faulted in the window, and of the samples of the window
their number, the sum of y (offset) or of y × y (gain), and the sums of P and Q of the channel's phase. -/
structure CalRun where
  id : Nat
  channel : Nat
  kind : Nat
  ref : Dbl
  seconds : Nat
  left : Option Nat := none
  faulted : Bool := false
  count : Nat := 0
  sum : Dbl := 0
  p : Dbl := 0
  q : Dbl := 0
  deriving DecidableEq, Repr

/-- The metering front end beside its registers (08). -/
structure MtrSt where
  /-- The earliest end of the next interval, in ns of the time base; none while RUN has not been set (R261). -/
  nextEnd : Option Nat
  /-- GAIN and OFFSET in force for energy, by channel (R256), those of the interval before, and the meter values posted since
  the last interval commit (R265). -/
  gain : KMap (Dbl × Dbl)
  gainOld : KMap (Dbl × Dbl)
  posts : Nat
  /-- Each auxiliary channel in the step in progress (R273): the sum of its values, their number, and whether one was BAD. -/
  auxStep : KMap (Dbl × Nat × Bool)
  /-- Residues of the accumulators, by system * 32 + phase * 8 + quantity (R263). -/
  res : KMap Dbl
  /-- Pulse counters as the last interval commit latched them (R269). -/
  pins : KMap W64
  /-- Pulse counters as the last tenth interval commit latched them, and what each gained in the step that it ended (R265,
  R273). -/
  pinsStep : KMap W64
  rate : KMap Nat
  /-- The pulse outputs by number, and the calculators by number. -/
  pulse : KMap PulseRun
  heat : KMap HeatRun
  /-- The calibration in progress (R259). -/
  cal : Option CalRun
  /-- Intervals that ended while each channel was faulted (CH_RECOVER). -/
  flt : KMap Nat
  /-- The save being written (R276): SEQ, KIND and the slot's bytes. -/
  save : Option (Nat × Nat × Bytes)
  nextSeq : Nat
  deriving DecidableEq, Repr

/-- A trim measurement (R332): its command, source and window, the roll-over edges that are left once it has opened (none
before), the latched stamp and crossing count at the opening and at the closing, FNOM, and whether its reference has been
lost (R333). -/
structure TrimRun where
  id : Nat
  source : Nat
  seconds : Nat
  left : Option Nat := none
  ns : Nat := 0
  zc : Nat := 0
  endNs : Nat := 0
  endZc : Nat := 0
  fnom : Nat := 50
  lost : Bool := false
  deriving DecidableEq, Repr

/-- The calendar clock beside its registers (10). -/
structure CalSt where
  /-- Seconds since 2000-01-01 00:00:00. -/
  secs : Nat
  /-- acc of R316, and the length of the current second in AONCLK. -/
  acc : Int
  len : Nat
  /-- The time base when the prescaler restarted, moved with a step: the count of AONCLK edges follows from it (R316); and the
  count at which it stands while AONCLK has stopped (R318). -/
  began : Int
  held : Option Nat
  /-- When a write of CAL_CTRL made a COMMIT or a shift act last, moved with a step; none behind a later AONCLK edge. -/
  edgeAt : Option Int
  /-- The frozen shadow of each master, seven bytes (R320). -/
  shadows : KMap Bytes
  /-- The value at whose return DST_REPEAT clears (R327). -/
  repeatAt : Option Nat
  /-- The trim measurement in progress (R332). -/
  meas : Option TrimRun
  /-- The e measured last (TRIM_SET). -/
  lastE : Int
  /-- Cause of a loss of validity that no VALID_LOST record has told yet: 0 none, 1 oscillator stop, 2 battery loss
  (R318). -/
  newLoss : Nat
  deriving DecidableEq, Repr

/-- The halves of 64-bit register pairs that each master has under way (R212): low halves written and not yet committed,
and high halves that a read of the low half has captured; by offset + 2^24 * master. -/
structure HalfSt where
  lows : KMap W32
  shadows : KMap W32
  deriving DecidableEq, Repr

/-- How long a register keeps its value: reset by every reset of the chip; kept by a system reset; kept while PD0 AON
has power; kept in MRAM. -/
inductive Keep where
  | none | powerOn | aon | mram
  deriving DecidableEq, Repr

/-- One line of a register summary (R10): the offset of its first register, how many stand at which stride, the reset
value (plus `step` for each register after the first), the bits that a write sets, the W1C, RC and read-as-0 bits, the
masters that may write (bit per R19 identifier), how long the value is kept, and whether it is banked. -/
structure RegRow where
  off : Nat
  n : Nat := 1
  stride : Nat := 4
  reset : Nat := 0
  step : Nat := 0
  rw : Nat := 0
  w1c : Nat := 0
  rc : Nat := 0
  wo : Nat := 0
  who : Nat := 1
  keep : Keep := .none
  banked : Bool := false
  deriving DecidableEq, Repr

/-- One line of the command index (R76): the opcode, the length of the parameters, the personality that may use it
(none: both), whether FREEZE refuses it, and whether it is asynchronous. -/
structure CmdRow where
  op : Nat
  plen : Nat
  pers : Option Nat := none
  frozenNo : Bool := false
  async : Bool := false
  deriving DecidableEq, Repr

/-- The state of the whole block. -/
structure State where
  /-- The bytes of the system memory map (R23) by 40-bit address; canonical form, an unlisted address reads 0. -/
  mem : List Host.Cell
  /-- Every register, by its offset from 0x00_4000_0000; a banked register's copies lie at 0x100_0000 times the master
  plus 1 above it. Canonical form; an unlisted register holds its reset value. -/
  regs : KMap W32
  /-- The 64-bit words with an uncorrectable error (R488), by address. -/
  poison : List Nat
  /-- What the last read returned. -/
  bus : Bus
  /-- How many free values have been drawn (DESIGN CHOICE, log 4). -/
  fresh : Nat
  /-- The chip, its straps and Firn. -/
  chip : Chip
  /-- The configuration record in force; none while no valid record is stored. -/
  cfg : Option CfgRecord
  /-- The stored bytes of each record (R76). -/
  cfgBytes : KMap Bytes
  /-- The mailbox, and the SPI target. -/
  mb : Mb
  spi : Spi
  /-- The access tables (R447). -/
  acc : List AccEntry
  /-- The blocks beside their registers, chapter by chapter. -/
  fault : FaultSt
  log : LogSt
  boot : BootSt
  key : KeySt
  jtag : JtagSt
  pwr : PwrSt
  time : TimeSt
  pair : PairSt
  port : PortSt
  cyc : CycSt
  solv : SolvSt
  io : IoSt
  loop : LoopSt
  drift : DriftSt
  mtr : MtrSt
  cal : CalSt
  /-- Register pairs under way (R212). -/
  halves : HalfSt
  /-- The commands that wait, first in, first out. -/
  pending : List Instr
  deriving DecidableEq, Repr

/-! ### Reset

Every block as it stands right after a reset with PD0 AON unpowered before and an MRAM that holds nothing. -/

/-- The mailbox. -/
def Mb.init : Mb where
  phase := 0
  lastHigh := 8
  lastNorm := 8
  qpWin := []
  outstanding := []
  serial := 0
  waiting := []
  immHost := .hostp
  immGo := false
  routes := []
  msix := []
  last := none

/-- The fault block: no condition holds; every output keeps its safe value until it is driven (R399, R400). -/
def FaultSt.init : FaultSt where
  live := 0
  heldGpio := BitVec.allOnes 24
  heldPwm := BitVec.allOnes 16
  heldPout := BitVec.allOnes 4

/-- The log: its count is not set (R405). -/
def LogSt.init : LogSt where
  fifo := []
  unset := true
  oldest := none
  lostPend := 0
  lostCode := 0
  lostSource := .firn
  lostTime := 0
  lostTunset := false
  rates := []
  flush := none
  flushAgain := false
  seals := []
  msSince := 0
  msNext := 1
  written := false
  firstFlush := false
  tail := 0
  waitWrites := []

/-- Images and boot: no valid boot record (R424). -/
def BootSt.init : BootSt where
  romKeys := [Config.romKey 0, Config.romKey 1]
  copies := (none, none)
  actAt := none
  svnA := 0
  svnB := 0
  opened := none
  blocks := []
  rx := none
  tx := []
  activating := none
  goodDone := false
  oldCfg := none

/-- The Guard: no root (R456); the tamper modes by default (R461); the challenge (R465) and the seed of the mesh generator
(R462) are free values (DESIGN CHOICE, log 4). -/
def KeySt.init : KeySt where
  slots := []
  rootId := 0
  masked := none
  records := []
  modes := 0x0101010100000000
  latched := 0
  live := 0
  zeroized := false
  debug := false
  scope := 0
  refused := 0
  challenge := leBytes 8 (Config.freeValue 0).toNat ++ leBytes 8 (Config.freeValue 1).toNat
  lfsr := BitVec.ofNat 16 (Config.freeValue 2).toNat
  lfsrAt := 0
  missed := []
  deviceKey := Config.deviceKey

/-- Power and rotation: the order restarts at CYC0 (R481). -/
def PwrSt.init : PwrSt where
  switching := []
  pos := 0
  rotThermal := false
  counted := []
  lost := 0
  roleLost := 0
  rotSince := 0
  rotRetry := false
  migrate := none
  thermalAt := none
  skew := []
  avsBad := 0
  vout := none
  ceWords := []
  rows := []
  remap := []
  pfw := false

/-- The time base starts at 0 (R285), with the PTP configuration of R513. -/
def TimeSt.init : TimeSt where
  ns := 0
  frac := 0
  ptp := {}
  ptpRestarts := 0
  inRun := 0
  outRun := 0
  pendStep := none
  lastUpd := none
  ppsInAt := 0
  fifo := []
  armed := 0
  evOut := []
  ppsOut := none

/-- The switch: empty queues, no learned address, no association. -/
def PortSt.init : PortSt where
  cfg := []
  queues := []
  gates := []
  gatesNext := []
  addr := []
  vlans := []
  sas := []
  groups := []
  launches := []
  uarts := []
  utx := []
  uwait := []
  rxIdx := 0
  txIdx := 0
  busy := []
  aborted := []
  lastTx := []
  lastWire := []

/-- The pair unit: nothing received, nothing mirrored. -/
def PairSt.init : PairSt where
  dirty := []
  cfg := {}
  hbSeq := 0
  rxSeq := none
  seen := false
  pState := 0
  pFlags := 0
  pEpoch := 0
  frozenRun := 0
  loss := false
  pfail := false
  alive := false
  aliveAt := 0
  resetAt := 0
  ilSince := 0
  linkSince := 0
  swapAt := 0
  resyncAt := 0
  backlog := []
  mirrorOff := false
  staged := none
  offer := none
  swapCmd := none
  oldClaim := 0
  activeSince := 0
  deferred := 0
  rsFirst := false
  rsEnd := none

/-- The cycle runtime: EMPTY. -/
def CycSt.init : CycSt where
  dirty := []
  act := none
  pend := none
  stored := none
  first := 0
  reqs := []
  servForces := []
  servGroups := []
  area := false
  refused := 0
  rel := []
  switched := []
  passed := false
  onNew := []
  longest := []
  forces := []
  writes := []
  drains := []
  pubs := []
  pubSeq := []
  groups := []
  subs := []
  snaps := []

/-- The solver array: no batch. -/
def SolvSt.init : SolvSt where
  batches := []
  finished := []
  nextId := 1
  runs := []
  front := []
  broken := []
  tirqs := []

/-- GPIO outputs and PWM channels: none driven. -/
def IoSt.init : IoSt where
  gpio := 0
  duty := []
  period := []

/-- The loop engine: every part unwritten (R516), every meter value BAD (R282). -/
def LoopSt.init : LoopSt where
  parts := []
  runs := []
  tune := none
  tuned := false
  proposal := none
  src := []
  txOld := []
  meter := []
  meterBad := List.range 256
  plan := none

/-- Drift rounds: nothing configured. -/
def DriftSt.init : DriftSt where
  sched := none
  hold := 3
  st := { tmpl := none, tmplNext := none, place := (0, 0), placeNext := none, fallback := [], info := none, work := none, ended := none,
          history := [], historyOf := 0, bids := [], plans := [], applied := none, lastPlan := none, expired := false }
  hd := { net := none, netNext := none, started := none, freshBranches := [], period := 0, round := 0, closed := 0, final := 0,
          ran := false, mirrored := false, res := 0, branches := [], stations := [], supplies := [], rejected := 0, prices := [], plans := [],
          waiting := [], lines := [], linesAt := none }

/-- The metering front end: no interval has run (R282); the next save has sequence number 1. -/
def MtrSt.init : MtrSt where
  nextEnd := none
  gain := []
  gainOld := []
  posts := 0
  auxStep := []
  res := []
  pins := []
  pinsStep := []
  rate := []
  pulse := []
  heat := []
  cal := none
  flt := []
  save := none
  nextSeq := 1

/-- The calendar: 2000-01-01 00:00:00, its battery lost (R318). -/
def CalSt.init : CalSt where
  secs := 0
  acc := 0
  len := 32768
  began := 0
  held := none
  edgeAt := none
  shadows := []
  repeatAt := none
  meas := none
  lastE := 0
  newLoss := 2

/-- The machine right after its first reset: a STATION with a normal boot (DESIGN CHOICE, log 6), every register at its reset value, memory
with nothing listed, the default configuration record (DESIGN CHOICE, log 7), no command waiting. -/
def State.reset : State where
  mem := []
  regs := []
  poison := []
  bus := { data := [], ur := false }
  fresh := 3
  chip := { straps := { pers := 0, bootsel := 0, testEn := false, vddio33 := false }, running := true, resetOut := false,
            factory := false, firnStart := 0, restarts := [] }
  cfg := some {}
  cfgBytes := []
  mb := .init
  spi := { octal := false, wel := false }
  acc := []
  fault := .init
  log := .init
  boot := .init
  key := .init
  jtag := { ir := 0x01, dr := [] }
  pwr := .init
  time := .init
  pair := .init
  port := .init
  cyc := .init
  solv := .init
  io := .init
  loop := .init
  drift := .init
  mtr := .init
  cal := .init
  halves := { lows := [], shadows := [] }
  pending := []

end Sys2Proof.Machine
end

