-- ==== Sys2Proof/Machine/Regs.lean ====
section
/-! DEFINITION. The register summaries of every block as tables, and the reset value of each register. -/

namespace Sys2Proof.Machine

/-- All bits. -/
def ones32 : Nat := 0xFFFFFFFF

/-- FABRIC (16, FABRIC access-table registers). -/
def regsFabric : List RegRow := [
  { off := 0x0000, reset := 0x00101013 },
  { off := 0x0010, rw := 0x000F0F3F },
  { off := 0x0014, rw := ones32 },
  { off := 0x0018, rw := ones32 },
  { off := 0x001C, rw := 0xFF },
  { off := 0x0020, wo := 0x3 },
  { off := 0x0030 },
  { off := 0x0034, rc := 0x80073F0F },
  { off := 0x0038 }, { off := 0x003C }]

/-- MAILBOX (02, MAILBOX register summary and queue descriptors). -/
def regsMailbox : List RegRow := [
  { off := 0x0000, reset := 0x72400057 },
  { off := 0x0004, reset := 0x00010000 },
  { off := 0x0010 },
  { off := 0x0014, w1c := 0xFFFF, who := 0x1801 },
  { off := 0x0018, rw := 0xFFFF, who := 0x1801 },
  { off := 0x001C, rc := 0xFFFF00FF },
  { off := 0x0020, n := 8, wo := ones32, who := 0x1801 },
  { off := 0x0040, reset := 0x01000000 },
  { off := 0x0044 },
  { off := 0x0048, wo := 1, who := 0x1801 },
  { off := 0x0100, n := 8, stride := 0x20, rw := ones32, who := 0x1801 },
  { off := 0x0104, n := 8, stride := 0x20, rw := ones32, who := 0x1801 },
  { off := 0x0108, n := 8, stride := 0x20, rw := 0xF0F, who := 0x1801 },
  { off := 0x010C, n := 8, stride := 0x20 },
  { off := 0x0110, n := 8, stride := 0x20 },
  { off := 0x0114, n := 8, stride := 0x20 },
  { off := 0x0118, n := 8, stride := 0x20 },
  { off := 0x011C, n := 8, stride := 0x20, reset := 0x100, step := 0x100, rw := 0xF19, who := 0x1801 },
  { off := 0x1000, n := 1024, rw := ones32, who := 0x1801 },
  { off := 0x2000, n := 16, stride := 16, rw := ones32, who := 0x1801 },
  { off := 0x2004, n := 16, stride := 16, rw := ones32, who := 0x1801 },
  { off := 0x2008, n := 16, stride := 16, rw := ones32, who := 0x1801 },
  { off := 0x200C, n := 16, stride := 16, reset := 1, rw := 1, who := 0x1801 },
  { off := 0x3000 }]

/-- FAULT (13, FAULT register summary); User fields are open to CYC0 to CYC3, SEQ and FIRN. -/
def regsFault : List RegRow := [
  { off := 0x0000, reset := 0x000000C0 },
  { off := 0x0004, rw := 1, wo := 2 },
  { off := 0x0008, w1c := 0x20 },
  { off := 0x000C },
  { off := 0x0010 }, { off := 0x0014 },
  { off := 0x0018, keep := .powerOn },
  { off := 0x001C },
  { off := 0x0020, n := 6 },
  { off := 0x0040, n := 6 },
  { off := 0x0060, n := 3, reset := ones32 },
  { off := 0x006C, reset := 0xFFFFFF00, rw := 0xFF },
  { off := 0x0070, n := 2, rw := ones32 },
  { off := 0x0080, n := 2, rw := ones32, who := 0x023D },
  { off := 0x0090, n := 2, rw := 0x9F9F9F9F },
  { off := 0x00A0, rw := 0xFF, wo := 0x80000000 },
  { off := 0x0100, reset := 0xAAAAAAAA, rw := ones32 },
  { off := 0x0104, reset := 0x0000AAAA, rw := 0xFFFF },
  { off := 0x0108, rw := 0xF },
  { off := 0x0200, n := 32, rw := ones32 }]

/-- LOG (14, LOG register summary). -/
def regsLog : List RegRow := [
  { off := 0x0000, reset := 0x10002040 },
  { off := 0x0004, rw := 1 },
  { off := 0x0008 },
  { off := 0x0010, n := 2, keep := .aon },
  { off := 0x0018, n := 2 },
  { off := 0x0020 },
  { off := 0x0024, rw := ones32 },
  { off := 0x0028 },
  { off := 0x0040, n := 3, rw := ones32, who := 0x03FD, banked := true },
  { off := 0x004C, wo := ones32, who := 0x03FD, banked := true },
  { off := 0x0050, w1c := 1, who := 0x03FD, banked := true },
  { off := 0x1000, n := 1024, stride := 8, rw := 0x8000FFFF },
  { off := 0x1004, n := 1024, stride := 8, reset := 0x0014000A, rw := 0x00FF03FF }]

/-- BOOT (15, BOOT register summary). Kept values come from the boot record in MRAM. -/
def regsBoot : List RegRow := [
  { off := 0x0000, reset := 0x06000302 },
  { off := 0x0004, keep := .mram, reset := 0x22 },
  { off := 0x0008, keep := .mram },
  { off := 0x000C, wo := 1 },
  { off := 0x0010, keep := .mram },
  { off := 0x0014, n := 2, keep := .mram },
  { off := 0x001C },
  { off := 0x0020, keep := .mram, reset := 0x00010001 },
  { off := 0x0024, n := 2, keep := .mram }]

/-- PCR (17, PCR register summary). -/
def regsPcr : List RegRow := [
  { off := 0x0000, reset := 0x05100E10 },
  { off := 0x0004, reset := 0x003FDFFF },
  { off := 0x0008, reset := 0x003FDFFF, rw := 0x007FFFFF },
  { off := 0x000C },
  { off := 0x0010, reset := 0x1F, keep := .powerOn },
  { off := 0x0020, reset := 0x01, keep := .aon },
  { off := 0x0024, keep := .aon },
  { off := 0x0028 },
  { off := 0x0030, rw := 0xFF },
  { off := 0x0034, reset := 0x2EE, rw := 0x3FF },
  { off := 0x0038 },
  { off := 0x0040, n := 9, rw := 0xF },
  { off := 0x0080, n := 16 },
  { off := 0x00C0, reset := 0x80000000, rc := ones32 },
  { off := 0x00C4 },
  { off := 0x0100, reset := 1, rw := 1, w1c := 4, wo := 2 },
  { off := 0x0104, reset := 0x15180, rw := ones32 },
  { off := 0x0108, n := 2 },
  { off := 0x0110 },
  { off := 0x0114 },
  { off := 0x0118, reset := 0x000F0000, keep := .powerOn },
  { off := 0x0200 },
  { off := 0x0204, keep := .mram },
  { off := 0x0208 },
  { off := 0x0300, n := 16, keep := .mram },
  { off := 0x0400, keep := .mram },
  { off := 0x0404 }]

/-- TIME (09, TIME register summary). *Servo* fields are open to the SERVO_ROLE and FIRN, *Event* fields to
FIRN, NET0, NET1 and CYC0 to CYC3. -/
def regsTime : List RegRow := [
  { off := 0x0000, reset := 0x444 },
  { off := 0x0004, w1c := 0x50 },
  { off := 0x0010, n := 3 },
  { off := 0x0020, rw := ones32, who := 0x00C1 },
  { off := 0x0024, rw := ones32, who := 0x00C1 },
  { off := 0x0028, wo := 0x7, who := 0x00C1 },
  { off := 0x0030, n := 4, rw := ones32, who := 0x00C1 },
  { off := 0x0040, reset := 0x3E8, rw := ones32 },
  { off := 0x0044, reset := 0x410, rw := 0xFFFF },
  { off := 0x0048, reset := 0x12C, rw := ones32 },
  { off := 0x004C, reset := 0xFFFFFFFF },
  { off := 0x0050, n := 4 },
  { off := 0x0060, reset := 2, rw := 3 },
  { off := 0x0064, reset := 0x186A0, rw := ones32 },
  { off := 0x0068, rw := ones32 },
  { off := 0x0070, n := 4 },
  { off := 0x0100, n := 2, stride := 0x20, reset := 0x09000000, rw := ones32 },
  { off := 0x0140, n := 2, stride := 0x20, rw := ones32 },
  { off := 0x0104, n := 2, stride := 0x20, reset := 0x07000000, rw := ones32 },
  { off := 0x0144, n := 2, stride := 0x20, rw := ones32 },
  { off := 0x0108, n := 4, stride := 0x20, rw := ones32 },
  { off := 0x010C, n := 4, stride := 0x20, rw := ones32, who := 0x00C1 },
  { off := 0x0110, n := 4, stride := 0x20 },
  { off := 0x0114, n := 4, stride := 0x20 },
  { off := 0x0200, n := 4, stride := 0x20, rw := 7 },
  { off := 0x0204, n := 4, stride := 0x20, rw := ones32, who := 0x00FD },
  { off := 0x0208, n := 4, stride := 0x20, rw := ones32, who := 0x00FD },
  { off := 0x020C, n := 4, stride := 0x20, reset := 0x3E8, rw := ones32, who := 0x00FD },
  { off := 0x0210, n := 4, stride := 0x20, reset := 0x3B9ACA00, rw := ones32, who := 0x00FD },
  { off := 0x0214, n := 4, stride := 0x20 },
  { off := 0x0218, n := 4, stride := 0x20 },
  { off := 0x021C, n := 4, stride := 0x20, w1c := 0x300 }]

/-- PORT (11, PORT register summary). *NET* fields are open to NET0, NET1 and FIRN, *UART* fields to CYC0 to CYC3 and
FIRN. -/
def regsPort : List RegRow := [
  { off := 0x0000, reset := 0x485 },
  { off := 0x0004, rw := 1 },
  { off := 0x0008, rw := 0x3FFF },
  { off := 0x000C, rw := 0xFFFF },
  { off := 0x0010, rw := ones32, who := 0x00C1 },
  { off := 0x0014, rw := 0xFF, who := 0x00C1 },
  { off := 0x0018, rw := ones32, who := 0x00C1 },
  { off := 0x001C, rw := 0xFF, who := 0x00C1 },
  { off := 0x0020, n := 2 },
  { off := 0x0100, n := 4, stride := 0x100, rw := ones32 },
  { off := 0x0104, n := 4, stride := 0x100, w1c := 0x20 },
  { off := 0x0108, n := 4, stride := 0x100 },
  { off := 0x010C, n := 4, stride := 0x100 },
  { off := 0x0110, n := 4, stride := 0x100 },
  { off := 0x0114, n := 4, stride := 0x100 },
  { off := 0x0118, n := 4, stride := 0x100 },
  { off := 0x011C, n := 4, stride := 0x100 },
  { off := 0x0120, n := 4, stride := 0x100 },
  { off := 0x0124, n := 4, stride := 0x100 },
  { off := 0x0128, n := 4, stride := 0x100 },
  { off := 0x012C, n := 4, stride := 0x100, w1c := 0x300 },
  { off := 0x0130, n := 4, stride := 0x100 },
  { off := 0x0134, n := 4, stride := 0x100 },
  { off := 0x0140, n := 8 }, { off := 0x0240, n := 8 }, { off := 0x0340, n := 8 }, { off := 0x0440, n := 8 },
  { off := 0x0600, n := 4, stride := 0x20, wo := 1, who := 0x003D },
  { off := 0x0604, n := 4, stride := 0x20, rw := ones32, who := 0x003D },
  { off := 0x0608, n := 4, stride := 0x20, rw := ones32, who := 0x003D },
  { off := 0x060C, n := 4, stride := 0x20 }]

/-- PAIR (12, PAIR register summary). -/
def regsPair : List RegRow := [
  { off := 0x0000, reset := 0x00101040 },
  { off := 0x0004, rw := 1, wo := 2 },
  { off := 0x0008, w1c := 0x3000 },
  { off := 0x000C },
  { off := 0x0010 },
  { off := 0x0014, keep := .aon },
  { off := 0x0018 },
  { off := 0x001C },
  { off := 0x0020 },
  { off := 0x0024 },
  { off := 0x0028 },
  { off := 0x002C },
  { off := 0x0030, reset := 0x3, w1c := 0x30, keep := .aon },
  { off := 0x0034, wo := 1, who := 0x0201 },
  { off := 0x0040, n := 16, keep := .aon },
  { off := 0x0100, n := 80, stride := 8, rw := ones32 },
  { off := 0x0104, n := 80, stride := 8, rw := ones32 }]

/-- IO (18, IO register summary). -/
def regsIo : List RegRow := [
  { off := 0x0000, reset := 0x00421018 },
  { off := 0x0004, reset := 0xA8, rw := 0xFF },
  { off := 0x0008, reset := 0xC840, rw := 0xFFFF },
  { off := 0x000C, rw := 3 },
  { off := 0x0010, rw := 0xFFFFFF },
  { off := 0x0014, rw := 0xFFFFFF },
  { off := 0x0018 },
  { off := 0x001C },
  { off := 0x0100, n := 16, stride := 8, reset := 0x3D090, rw := 0xFFFFFF },
  { off := 0x0104, n := 16, stride := 8 }]

/-- SOLV (03, SOLV register summary). The banked fields are open to CYC0 to CYC3 and SEQ. -/
def regsSolv : List RegRow := [
  { off := 0x0000, reset := 0x00804022 },
  { off := 0x0004 },
  { off := 0x0008 },
  { off := 0x000C, keep := .powerOn },
  { off := 0x0010, keep := .powerOn },
  { off := 0x0018, rw := ones32 },
  { off := 0x001C, reset := 0x3D700000, rw := ones32 },
  { off := 0x0020, rw := ones32 },
  { off := 0x0024, reset := 0x3E400000, rw := ones32 },
  { off := 0x0028 },
  { off := 0x0030, n := 3 },
  { off := 0x0040, rw := ones32, who := 0x023C, banked := true },
  { off := 0x0044, rw := 0x300, wo := 1, who := 0x023C, banked := true },
  { off := 0x0048, who := 0x023C, banked := true },
  { off := 0x0050, rw := ones32, who := 0x023C, banked := true },
  { off := 0x0054, n := 3, who := 0x023C, banked := true },
  { off := 0x0100, n := 17, reset := 0x3FF },
  { off := 0x0144, n := 17, reset := 0x7FF }]

/-- LOOP (06, LOOP register summary and loop groups). -/
def regsLoop : List RegRow := [
  { off := 0x0000, reset := 0x002C0100 },
  { off := 0x0004, rw := 1 },
  { off := 0x0008 },
  { off := 0x000C, rc := 0xFFFF },
  { off := 0x0010, n := 3 },
  { off := 0x0020, rw := 0x7FFF },
  { off := 0x0024, rw := ones32 },
  { off := 0x0030, n := 2 },
  { off := 0x0038, n := 6 },
  { off := 0x0050, n := 2, rw := ones32, who := 0x0201 },
  { off := 0x0058, wo := 1, who := 0x0201 },
  { off := 0x0100, n := 8 },
  { off := 0x0120, n := 8 },
  { off := 0x0400, n := 128, rw := ones32, who := 0x0201 },
  { off := 0x0600, n := 128 },
  { off := 0x4000, n := 256, stride := 32 },
  { off := 0x4004, n := 256, stride := 32 },
  { off := 0x4008, n := 256, stride := 32, w1c := 0x2000, who := 0x03FD },
  { off := 0x400C, n := 256, stride := 32, wo := 0x7F, who := 0x023D },
  { off := 0x4010, n := 256, stride := 32, rw := ones32, who := 0x023D },
  { off := 0x4014, n := 256, stride := 32, rw := ones32, who := 0x023D },
  { off := 0x4018, n := 256, stride := 32, rw := ones32, who := 0x023D },
  { off := 0x401C, n := 256, stride := 32, rw := ones32, who := 0x023D },
  { off := 0x8000, n := 2048, rw := ones32, who := 0x00C0 },
  { off := 0xA000, n := 64, reset := 0xAAAAAAAA, rw := ones32, who := 0x00C0 },
  { off := 0xC000, n := 2048 }]

/-- CYC (07, CYC register summary). -/
def regsCyc : List RegRow := [
  { off := 0x0000, reset := 0x04000410 },
  { off := 0x0004 }, { off := 0x0008 }, { off := 0x000C }, { off := 0x0010, n := 2 }, { off := 0x0018 },
  { off := 0x0020, wo := 0xF, who := 0x003C },
  { off := 0x0024, reset := 0xFF, banked := true },
  { off := 0x0028, banked := true },
  { off := 0x0030 },
  { off := 0x0100, n := 16, stride := 0x20 },
  { off := 0x0104, n := 16, stride := 0x20, w1c := 0x80 },
  { off := 0x0108, n := 16, stride := 0x20 },
  { off := 0x010C, n := 16, stride := 0x20 },
  { off := 0x0110, n := 16, stride := 0x20, rc := ones32 },
  { off := 0x0114, n := 16, stride := 0x20 },
  { off := 0x0118, n := 16, stride := 0x20 },
  { off := 0x0300, n := 16, keep := .aon }]

/-- A calculator's staging registers from offset `b` (08, calculator results): of STATUS bits 2 to 0 are fields, and the word
at 60 is reserved. -/
def heatStaging (b : Nat) : List RegRow := [
  { off := b, n := 13, rw := ones32, who := 0x0100 }, { off := b + 52, rw := 7, who := 0x0100 },
  { off := b + 56, rw := ones32, who := 0x0100 }, { off := b + 60, who := 0x0100 },
  { off := b + 64, n := 8, rw := ones32, who := 0x0100 }]

/-- MTR (08, MTR register summary). -/
def regsMtr : List RegRow := [
  { off := 0x0000, reset := 0x00844210 },
  { off := 0x0004, rw := 1 },
  { off := 0x0008, w1c := 0xC0000, rc := 0x20000, who := 0x03FD },
  { off := 0x000C }, { off := 0x0010, n := 2 }, { off := 0x0018 }, { off := 0x001C },
  { off := 0x0020, reset := 0x0808, rw := 0xF0F },
  { off := 0x0024, rw := 0xFF },
  { off := 0x0028 }, { off := 0x002C, n := 2 },
  { off := 0x0040, n := 16, w1c := 6, who := 0x03FD },
  { off := 0x0100, n := 16, stride := 0x20, rw := ones32 },
  { off := 0x0104, n := 16, stride := 0x20, reset := 0x3FF00000, rw := ones32 },
  { off := 0x0108, n := 16, stride := 0x20, rw := ones32 },
  { off := 0x010C, n := 16, stride := 0x20, rw := ones32 },
  { off := 0x0110, n := 16, stride := 0x20, rw := 0xFFFF },
  { off := 0x0400, n := 128 },
  { off := 0x0600, n := 2, stride := 0x40, rw := ones32 },
  { off := 0x0604, n := 2, stride := 0x40, reset := 0x3FF00000, rw := ones32 },
  { off := 0x0608, n := 2, stride := 0x40, rw := ones32 },
  { off := 0x060C, n := 2, stride := 0x40, reset := 0x3FF00000, rw := ones32 },
  { off := 0x0610, n := 2, stride := 0x40, rw := ones32 },
  { off := 0x0614, n := 2, stride := 0x40, reset := 0x40140000, rw := ones32 },
  { off := 0x0618, n := 2, stride := 0x40 }, { off := 0x061C, n := 2, stride := 0x40 },
  { off := 0x0620, n := 2, stride := 0x40 },
  { off := 0x0800, n := 512 },
  { off := 0x1000, n := 16, reset := 0xAAAAAAAA },
  { off := 0x1100, n := 16 },
  { off := 0x1200, n := 4, stride := 16, reset := 100000, rw := ones32 },
  { off := 0x1204, n := 3, stride := 16, reset := 0x180050, step := 0x10000, rw := 0x13FFFFF },
  { off := 0x1234, reset := 0x1D0050, rw := 0x13FFFFF },
  { off := 0x1208, n := 4, stride := 16 }, { off := 0x120C, n := 4, stride := 16 },
  { off := 0x1300, n := 24 }, { off := 0x1400, n := 24 }, { off := 0x1500, n := 24 }, { off := 0x1600, n := 24 },
  { off := 0x13F0, n := 4, stride := 0x100, wo := 1, who := 0x0100 },
  { off := 0x1700, wo := 1 },
  { off := 0x1704 }] ++ [0x1380, 0x1480, 0x1580, 0x1680].flatMap heatStaging

/-- CAL (10, CAL register summary); *Cal* fields are open to FIRN and CYC0 to CYC3. -/
def regsCal : List RegRow := [
  { off := 0x0000, reset := 0x207 },
  { off := 0x0004, wo := 0xF, who := 0x003D },
  { off := 0x0008, reset := 0x40, w1c := 0x7F78, who := 0x03FD, keep := .aon },
  { off := 0x0010, n := 3, keep := .aon },
  { off := 0x001C, reset := 6, keep := .aon },
  { off := 0x0020, n := 2, reset := 1, keep := .aon },
  { off := 0x0028, keep := .aon },
  { off := 0x0030, n := 3, rw := 0xFF, who := 0x003D },
  { off := 0x003C },
  { off := 0x0040, n := 3, rw := 0xFF, who := 0x003D },
  { off := 0x004C, rw := 1, who := 0x003D },
  { off := 0x0050, rw := 0xFFFF, who := 0x003D, keep := .aon },
  { off := 0x0054, keep := .aon },
  { off := 0x0060, n := 2 },
  { off := 0x0068 },
  { off := 0x0080, n := 2, stride := 16, rw := 0x07FFFFFF, who := 0x003D, keep := .aon },
  { off := 0x0084, n := 2, stride := 16, rw := 0x00FFFFFF, who := 0x003D, keep := .aon },
  { off := 0x0088, n := 2, stride := 16, rw := 0x17F, who := 0x003D, keep := .aon }]


/-- The summary of the block at 64 KB offset `b`. -/
def regsOfBlock (b : Nat) : List RegRow :=
  match b with
  | 0x0 => regsFabric
  | 0x1 => regsMailbox
  | 0x6 => regsTime
  | 0x8 => regsPort
  | 0x9 => regsPair
  | 0x2 => regsSolv
  | 0x3 => regsLoop
  | 0x4 => regsCyc
  | 0x5 => regsMtr
  | 0x7 => regsCal
  | 0xF => regsIo
  | 0xA => regsFault
  | 0xB => regsLog
  | 0xC => regsBoot
  | 0xE => regsPcr
  | _ => []

/-- Whether a row holds the register at block offset `o`. -/
def RegRow.holds (r : RegRow) (o : Nat) : Bool :=
  decide (r.off ≤ o) && decide ((o - r.off) % r.stride = 0) && decide ((o - r.off) / r.stride < r.n)

/-- The register offset of a key: a banked copy names the register it copies. -/
def regOffset (a : Nat) : Nat := a % 0x1000000

/-- The row of the register at offset `a`, if the offset names a register (R25). -/
def regRow (a : Nat) : Option RegRow :=
  (regsOfBlock (regOffset a / 0x10000)).find? fun r => r.holds (regOffset a % 0x10000)

/-- The reset value of the register at offset `a`; an offset that names no register reads 0 (R25). -/
def regReset (a : Nat) : W32 :=
  match regRow a with
  | some r => BitVec.ofNat 32 (r.reset + r.step * ((regOffset a % 0x10000 - r.off) / r.stride))
  | none => 0

/-- The key of the copy that master `m` has of a banked register (06, R212; 14). -/
def bankKey (a m : Nat) : Nat := a + 0x1000000 * (m + 1)

end Sys2Proof.Machine
end

