-- ==== Sys2Proof/Machine/Ops.lean ====
section
/-! DEFINITION. The named operations over registers, memory, time, events and postings that every command uses, and
the one way in which Firn completes a host command. -/

namespace Sys2Proof.Machine

/-- The identifier of a master (R19). -/
def masterId : Master → Nat
  | .firn => 0 | .guard => 1 | .cyc0 => 2 | .cyc1 => 3 | .cyc2 => 4 | .cyc3 => 5 | .net0 => 6 | .net1 => 7
  | .mtr => 8 | .seq => 9 | .rsv => 10 | .hostp => 11 | .hosts => 12 | .solv => 13 | .portdma => 14 | .hweng => 15

/-- The master identifier of a host link (R19, R33). -/
def hostMaster : HostId → Master
  | .hostp => .hostp
  | .hosts => .hosts

/-! ### Registers -/

/-- The value a register holds. -/
def State.rd (s : State) (a : Nat) : W32 := kget (regReset a) s.regs a

/-- Set a register. -/
def State.wr (s : State) (a : Nat) (v : W32) : State := { s with regs := kput (regReset a) s.regs a v }

/-- A field of a register. -/
def State.fld (s : State) (a hi lo : Nat) : Nat := fldOf (s.rd a) hi lo

/-- Set a field of a register. -/
def State.setFld (s : State) (a hi lo x : Nat) : State := s.wr a (putFld (s.rd a) hi lo x)

/-- A bit of a register. -/
def State.bit (s : State) (a i : Nat) : Bool := (s.rd a).getLsbD i

/-- Set a bit of a register. -/
def State.setBit (s : State) (a i : Nat) (b : Bool) : State := s.setFld a i i (b2n b)

/-- The 64-bit value of a register pair, low half at `a` (R212). -/
def State.rd64 (s : State) (a : Nat) : W64 := join64 (s.rd a) (s.rd (a + 4))

/-- Set a register pair. -/
def State.wr64 (s : State) (a : Nat) (v : W64) : State := (s.wr a (lo32 v)).wr (a + 4) (hi32 v)

/-- Add to a counting register, modulo 2^32. -/
def State.count (s : State) (a n : Nat) : State := s.wr a (w32 ((s.rd a).toNat + n))

/-- Set every register of a list of (offset, value) pairs. -/
def State.wrAll (s : State) (l : List (Nat × W32)) : State := l.foldl (fun t p => t.wr p.1 p.2) s

/-- Draw a free value (DESIGN CHOICE, log 4): the value, and the state that has drawn it. -/
def State.drawn (s : State) : W64 := Config.freeValue s.fresh

/-- The state after a free value has been drawn. -/
def State.draw (s : State) : State := { s with fresh := s.fresh + 1 }

/-! ### Memory (R23, R24, R488) -/

/-- The size in bytes that a code of DDR_SIZE stands for (R512). -/
def ddrBytes (code : Nat) : Nat := if code = 0 then 0 else 2 ^ (28 + code)

/-- The configuration record's named items, with the defaults of a record that sets none. -/
def State.conf (s : State) : CfgRecord := s.cfg.getD {}

/-- PCR_DOM_ON. -/
abbrev aDomOn : Nat := 0xE0004

/-- A power domain PD0 to PD15 is on. -/
def State.domOn (s : State) (d : Nat) : Bool := s.bit aDomOn d

/-- A PD15 sub-block, by its code 0x10 to 0x16 (R468), is on. -/
def State.subOn (s : State) (code : Nat) : Bool := s.bit aDomOn code

/-- The sub-block of a host link is on: the PCIe endpoint, the Octal SPI target (R468). -/
def State.hostOn (s : State) (h : HostId) : Bool :=
  match h with
  | .hostp => s.subOn 0x14
  | .hosts => s.subOn 0x15

/-- What a host sends reaches the chip only while its link is on (R469). -/
def State.fromHost (s : State) (h : HostId) (body : State → State) : State := if s.hostOn h then body s else s

/-- Physical lane `k` is retired (R83). -/
def State.laneRetired (s : State) (k : Nat) : Bool :=
  if k < 32 then s.bit 0x2000C k else s.bit 0x20010 (k - 32)

/-- Whether the memory map answers at an address of memory (R23, R24): shared SRAM, MRAM, a powered lane window, or
LPDDR4X within the configured size while it is on. -/
def State.populated (s : State) (a : Nat) : Bool :=
  if a < 0x02000000 then true
  else if 0x10000000 ≤ a ∧ a < 0x12000000 then true
  else if 0x20000000 ≤ a ∧ a < 0x20880000 then
    let k := (a - 0x20000000) / 0x40000
    decide ((a - 0x20000000) % 0x40000 < 0x30000) && s.domOn (if k < 17 then 12 else 13) && !s.laneRetired k
  else if 0x100000000 ≤ a ∧ a < 0x200000000 then
    s.domOn 15 && s.subOn 0x16 && decide (a - 0x100000000 < ddrBytes s.chip.ddrSize)
  else false

/-- The word of address `a` is poisoned (R488). -/
def State.poisoned (s : State) (a : Nat) : Bool := s.poison.contains (a / 8 * 8)

/-- One byte of memory as it stands. -/
def State.byteAt (s : State) (a : Nat) : Byte := kget 0 s.mem a

/-- Set one byte of memory. -/
def State.putByte (s : State) (a : Nat) (b : Byte) : State := { s with mem := kput 0 s.mem a b }

/-- `n` bytes as a read returns them: an unpopulated address or a poisoned word reads 0 (R24, R488). -/
def State.rdMem (s : State) (a n : Nat) : Bytes :=
  (List.range n).map fun i =>
    if s.populated (a + i) && !s.poisoned (a + i) then s.byteAt (a + i) else 0

/-- The little-endian number of `n` bytes at an address. -/
def State.rdLe (s : State) (a n : Nat) : Nat := leNat (s.rdMem a n)

/-- Address `a` of shared SRAM lies in one of the 64 mirror regions (R378). -/
def State.mirrored (s : State) (a : Nat) : Bool :=
  (List.range 64).any fun k =>
    let b := (s.rd (0x90100 + 8 * k)).toNat
    let l := (s.rd (0x90104 + 8 * k)).toNat
    decide (b ≤ a ∧ a < b + l)

/-- Mark the 64-byte lines that a write to shared SRAM touches (R378). -/
def State.markDirty (s : State) (a n : Nat) : State :=
  if n = 0 ∨ a ≥ 0x02000000 then s
  else
    let lines := (List.range ((a + n - 1) / 64 - a / 64 + 1)).map fun i => a / 64 + i
    { s with pair := { s.pair with
        dirty := (lines.filter fun l => s.mirrored (l * 64)).foldl insNat s.pair.dirty } }

/-- The bytes of a run that a write stores: those at populated addresses, less those of a poisoned word that the run
covers only in part (R24, R488). -/
def State.storable (s : State) (a n i : Nat) : Bool :=
  let w := (a + i) / 8 * 8
  s.populated (a + i) && (!s.poisoned (a + i) || (decide (a ≤ w) && decide (w + 8 ≤ a + n)))

/-- Store a run of bytes byte by byte. -/
def State.putBytes (s : State) (a : Nat) : Bytes → State
  | [] => s
  | b :: bs => (s.putByte a b).putBytes (a + 1) bs

/-- Store the bytes of a run that have a place. -/
def State.store (s : State) (a : Nat) (bs : Bytes) : State :=
  (((List.range bs.length).zip bs).filter fun p => s.storable a bs.length p.1).foldl (fun t p => t.putByte (a + p.1) p.2) s

/-- A word that a run covers whole is poisoned no more (R488). -/
def State.unpoison (s : State) (a n : Nat) : State :=
  { s with poison := s.poison.filter fun w => !(decide (a ≤ w) && decide (w + 8 ≤ a + n)) }

/-- Write a run of bytes to memory (R24, R488): bytes with no place are discarded, a poisoned word is left as it is
unless all its 8 bytes are written, which ends the poison; the lines touched are marked (R378). -/
def State.wrMem (s : State) (a : Nat) (bs : Bytes) : State :=
  ((s.store a bs).unpoison a bs.length).markDirty a bs.length

/-- Write a number of `n` bytes, least significant byte first. -/
def State.wrLe (s : State) (a n x : Nat) : State := s.wrMem a (leBytes n x)

/-! ### Access tables (R21, R447) -/

/-- MB_WINDOW: the shared SRAM offset of the BAR2 window (R72). -/
def State.window (s : State) : Nat := (s.rd 0x10040).toNat

/-- The hardwired path of R21 to a memory target: 0 shared SRAM, 1 MRAM, 2 lane SRAM, 3 LPDDR4X. The hosts' path leads to the
16 MB of the BAR2 window. Where the self-test region of RSV lies and how long it is, the manual does not say: two constants
without a body (DESIGN CHOICE, log 4). -/
def State.pathMem (s : State) (m : Master) (target : Nat) (write : Bool) (off : Nat) : Bool :=
  match m with
  | .firn => true
  | .guard => target == 0 || (target == 1 && !write)
  | .cyc0 | .cyc1 | .cyc2 | .cyc3 | .net0 | .net1 | .mtr | .seq =>
    target == 0 || target == 3 || (target == 1 && (!write || decide (0x01B00000 ≤ off ∧ off < 0x01F00000)))
  | .rsv => target == 0 && decide (Config.rsvTestBase.toNat ≤ off ∧ off < Config.rsvTestBase.toNat + Config.rsvTestLen.toNat)
  | .hostp | .hosts => target == 0 && decide (s.window ≤ off ∧ off < s.window + 0x1000000)
  | .solv => target == 0 || target == 2
  | .portdma => target == 0 || target == 3
  | .hweng => target == 0 || target == 1

/-- R27 names a master as a writer of the MRAM partition at an offset. -/
def mramWriter (m : Master) (off : Nat) : Bool :=
  match m with
  | .firn => decide (off < 0x00E00000 ∨ 0x01B00000 ≤ off)
  | .hweng => decide (0x00E00000 ≤ off ∧ off < 0x01B00000)
  | .cyc0 | .cyc1 | .cyc2 | .cyc3 => decide (0x01B00000 ≤ off ∧ off < 0x01F00000)
  | _ => false

/-- The hardwired path of R21 to register block `b`. -/
def pathBlock (m : Master) (b : Nat) (write : Bool) : Bool :=
  match m with
  | .firn => decide (b ≤ 0x10) && b != 0xD
  | .guard => b == 0xD
  | .cyc0 | .cyc1 | .cyc2 | .cyc3 | .net0 | .net1 | .mtr | .seq =>
    (decide (2 ≤ b ∧ b ≤ 0xB) || b == 0x10) || (!write && (b == 0xC || b == 0xE || b == 0xF))
  | .hostp | .hosts => b == 1
  | _ => false

/-- One entry of an access table grants right bit `k` (0 R, 1 W, 2 X) at an offset (R447). -/
def accGrants (e : AccEntry) (target m k off : Nat) : Bool :=
  e.target == target && e.master == m && e.rights.getLsbD k && decide (e.start ≤ off ∧ off ≤ e.stop)

/-- The access table admits right bit `k` to a master at every byte of a run (R447). FIRN's entries grant all of its
paths (R448); MRAM takes writes from the writers of R27 alone. Regions are whole multiples of 256 bytes, so one offset in each
256 bytes decides. -/
def State.tableGrants (s : State) (m : Master) (target k off n : Nat) : Bool :=
  n == 0 || (!(target == 1 && k == 1) || (mramWriter m off && mramWriter m (off + n - 1))) && (m == .firn ||
  (List.range ((off + n - 1) / 256 - off / 256 + 1)).all fun i =>
    s.acc.any fun e => accGrants e target (masterId m) k (max off ((off / 256 + i) * 256)))

/-- A master may read or write a run of shared SRAM (R447). -/
def State.sramOk (s : State) (m : Master) (write : Bool) (off n : Nat) : Bool :=
  decide (off + n ≤ 0x02000000) && s.pathMem m 0 write off && s.pathMem m 0 write (off + n - 1) && s.tableGrants m 0 (if write then 1 else 0) off n

/-- The shared SRAM offset of a window offset. -/
def State.winAddr (s : State) (off : W32) : Nat := s.window + off.toNat

/-- The issuing host may read (or write) a buffer: it lies in the window and the host's table admits it (R58). -/
def State.bufOk (s : State) (h : HostId) (write : Bool) (b : Buf) : Bool :=
  decide (b.off.toNat + b.len.toNat ≤ 0x01000000) &&
  s.sramOk (hostMaster h) write (s.winAddr b.off) b.len.toNat

/-- The bytes of a host's buffer. -/
def State.rdBuf (s : State) (b : Buf) : Bytes := s.rdMem (s.winAddr b.off) b.len.toNat

/-! ### Time (R284, R286) -/

/-- NS of the time base. -/
def State.now (s : State) : Nat := s.time.ns.toNat

/-- The increment of one TIMECLK edge, in units of 2^-32 ns (R284). -/
def State.inc (s : State) : Nat := (4 * 2 ^ 32 + (s.rd 0x60020).toInt).toNat

/-- The time base after `n` TIMECLK edges (R284). -/
def State.edges (s : State) (n : Nat) : State :=
  let v := s.time.ns.toNat * 2 ^ 32 + s.time.frac.toNat + n * s.inc
  { s with time := { s.time with ns := w64 (v / 2 ^ 32), frac := w32 v } }

/-- The 96 bits of the time base, in units of 2^-32 ns (R284). -/
def State.instant (s : State) : Nat := s.time.ns.toNat * 2 ^ 32 + s.time.frac.toNat

/-- Pass the TIMECLK edges up to the first at which NS has reached `t` (DESIGN CHOICE, log 1). While a step is pending the
time base does not pass STEP_AT: STEP_TAKEN or the edges that a servo command takes make the step (R293). -/
def State.reach (s : State) (t : Nat) : State :=
  if s.instant ≥ t * 2 ^ 32 then s
  else
    let n := (t * 2 ^ 32 - s.instant + s.inc - 1) / s.inc
    s.edges (match s.time.pendStep with
      | some (a, _) => min n ((a.toNat * 2 ^ 32 - 1 - s.instant) / s.inc)
      | none => n)

/-- The time base at the first TIMECLK edge at or after `t`, at the rate in force: a raw stamp (R297), in units of
2^-32 ns. -/
def State.stampAt (s : State) (t : Nat) : Int :=
  (s.instant : Int) - ((s.instant : Int) - (t * 2 ^ 32 : Nat)) / (s.inc : Int) * (s.inc : Int)

/-- The code of the time-base state (R288): 0 UNSET, 1 STEPPED, 2 LOCKED, 3 FAULT. -/
def State.timeState (s : State) : Nat := s.fld 0x60004 2 0

/-! ### Events and interrupts (R59) -/

/-- MSI-X message `v` is sent. -/
def State.sendMsix (s : State) (v : Nat) : State :=
  { s with mb := { s.mb with msix := kset s.mb.msix v (kget 0 s.mb.msix v + 1) } }

/-- Set MB_EVENT bit `v`: on a rise with its enable set, send MSI-X vector `v`, or record it as pending while the
vector is masked (R59). -/
def State.rawEvent (s : State) (v : Nat) : State :=
  let was := s.bit 0x10014 v
  let t := s.setBit 0x10014 v true
  if !was && s.bit 0x10018 v then
    if s.bit (0x1200C + 16 * v) 0 then t.setBit 0x13000 v true
    else t.sendMsix v
  else t

/-- An event source of R59 arises: it sets the bit of its vector, or of the vector to which SYS_EVENT_ROUTE has routed
it; a source is named by its vector in R59's table (DEDUCED, log 26). -/
def State.event (s : State) (n : Nat) : State := s.rawEvent ((kfind s.mb.routes n).getD (BitVec.ofNat 8 n)).toNat

/-- Set one of MB_STATUS's bits READY, RESTART, RECOVERY, FROZEN, STANDBY; a change raises vector 0 (R59). -/
def State.status (s : State) (i : Nat) (b : Bool) : State :=
  if s.bit 0x10010 i = b then s else (s.setBit 0x10010 i b).event 0

/-- Record a mailbox error (02, MB_ERR): the count saturates, and vector 0 is raised. -/
def State.mbErr (s : State) (code qp : Nat) (imm : Bool) : State :=
  let n := min 0xFFFF (s.fld 0x1001C 31 16 + 1)
  (s.wr 0x1001C (w32 (n * 0x10000 + b2n imm * 0x80 + qp % 8 * 0x10 + code % 16))).event 0

/-! ### Postings (R406, R408) -/

/-- A posting takes a place in the intake FIFO. -/
def State.fifoPush (s : State) (p : Posting) : State := { s with log := { s.log with fifo := s.log.fifo ++ [p] } }

/-- A posting is lost; the first one lost since the last LOST record is kept (R408). -/
def State.noteLost (s : State) (p : Posting) : State :=
  let l := s.log
  let l := if l.lostPend = 0 then
      { l with lostCode := p.code, lostSource := p.source, lostTime := p.time, lostTunset := p.tunset } else l
  { s with log := { l with lostPend := l.lostPend + 1 } }

/-- A posting enters the intake FIFO, or is lost when the FIFO is full (R406, R408). -/
def State.postAs (s : State) (m : Master) (code : Nat) (p0 p1 p2 : W32) : State :=
  let p : Posting := { code := BitVec.ofNat 16 code, source := m, tunset := s.timeState == 0, time := s.time.ns, p0 := p0, p1 := p1, p2 := p2 }
  if s.log.fifo.length < 64 then s.fifoPush p
  else ((s.noteLost p).count 0xB0020 1).setBit (bankKey 0xB0050 (masterId m)) 0 true

/-- A posting that hardware makes on its own carries HWENG (R406). -/
def State.postHw (s : State) (code : Nat) (p0 p1 p2 : W32) : State := s.postAs .hweng code p0 p1 p2

/-- A posting that Firn makes carries FIRN (R406). -/
def State.postFirn (s : State) (code : Nat) (p0 p1 p2 : W32) : State := s.postAs .firn code p0 p1 p2

/-- A posting of the Guard core carries GUARD (R406). -/
def State.postGuard (s : State) (code : Nat) (p0 p1 p2 : W32) : State := s.postAs .guard code p0 p1 p2

/-! ### Queue pairs and completions (R45 to R62) -/

/-- The register `o` of queue pair `k`'s descriptor. -/
def qpReg (k o : Nat) : Nat := 0x10100 + 0x20 * k + o

/-- Pair `k` is served (R43). -/
def State.qpActive (s : State) (k : Nat) : Bool := s.bit (qpReg k 0x1C) 1

/-- OWNER's code of a host. -/
def ownerCode : HostId → Nat
  | .hostp => 1
  | .hosts => 2

/-- The entries of pair `k`'s submission queue, and of its completion queue (R42). -/
def State.sqLen (s : State) (k : Nat) : Nat := 2 ^ s.fld (qpReg k 0x08) 3 0
def State.cqLen (s : State) (k : Nat) : Nat := 2 ^ s.fld (qpReg k 0x08) 11 8

/-- The shared SRAM offset of the window in which pair `k` was enabled (DEDUCED, log 19). -/
def State.qpBase (s : State) (k : Nat) : Nat := kget 0 s.mb.qpWin k

/-- The 16 bytes of a completion entry (R48). -/
def cqEntry (tag : W16) (phase : Bool) (st : Nat) (w0 w1 w2 : W32) : Bytes :=
  leBytes 2 tag.toNat ++ leBytes 2 (st % 0x8000 + b2n phase * 0x8000) ++
    leBytes 4 w0.toNat ++ leBytes 4 w1.toNat ++ leBytes 4 w2.toNat

/-- PHASE of pair `k`'s completion queue is inverted at a wrap (R49). -/
def State.flipPhase (s : State) (k : Nat) : State := { s with mb := { s.mb with phase := s.mb.phase ^^^ (1#8 <<< k) } }

/-- The tail of pair `k`'s completion queue advances; at the wrap its PHASE is inverted (R49). -/
def State.advanceCq (s : State) (k : Nat) : State :=
  let nt := ((s.rd (qpReg k 0x18)).toNat + 1) % s.cqLen k
  let s := s.wr (qpReg k 0x18) (w32 nt)
  if nt = 0 then s.flipPhase k else s

/-- Pair `k`'s vector is raised, unless NOIRQ of the command or of the pair forbids it (R60). -/
def State.raiseQp (s : State) (k : Nat) (noirq : Bool) : State :=
  if noirq || s.bit (qpReg k 0x1C) 4 then s else s.rawEvent (s.fld (qpReg k 0x1C) 11 8)

/-- The address of pair `k`'s next completion entry (R48, R72). -/
def State.cqSlot (s : State) (k : Nat) : Nat :=
  s.qpBase k + (s.rd (qpReg k 0x04)).toNat + 16 * (s.rd (qpReg k 0x18)).toNat

/-- Firn posts a completion to pair `k` (R48, R49, R60): the entry at the queue's tail with the pass's PHASE, the tail
advanced, PHASE inverted at the wrap, and the pair's vector unless NOIRQ forbids it. -/
def State.postCq (s : State) (k : Nat) (i : Issue) (st : Nat) (w0 w1 w2 : W32) : State :=
  ((s.wrMem (s.cqSlot k) (cqEntry i.tag (s.mb.phase.getLsbD k) st w0 w1 w2)).advanceCq k).raiseQp k i.noirq

/-- Firn writes the immediate mailbox's completion, clears BUSY, sets DONE and vector 9 (R62). -/
def State.postImm (s : State) (i : Issue) (st : Nat) (w0 w1 w2 : W32) : State :=
  let e := cqEntry i.tag false st w0 w1 w2
  let s := s.wrAll ((List.range 4).map fun j => (0x11FF0 + 4 * j, w32 (leAt e (4 * j) 4)))
  let s := (s.setBit 0x10048 2 false).setBit 0x10048 1 true
  if i.noirq then s else s.event 9

/-- The completion formed last. -/
def State.formed (s : State) (c : Completion) : State := { s with mb := { s.mb with last := some c } }

/-- Firn completes a host command (R48, R60, R62). A completion for a pair that is not active, or that another host
owns now, is discarded (R37, R41). -/
def State.complete (s : State) (i : Issue) (st : Nat) (w0 w1 w2 : W32) : State :=
  let s := s.formed ⟨i.src, i.tag, st, w0, w1, w2⟩
  match i.src with
  | .imm => s.postImm i st w0 w1 w2
  | .gone => s
  | .qp k =>
    if s.qpActive k.val && s.fld (qpReg k.val 0x1C) 13 12 == ownerCode i.host then s.postCq k.val i st w0 w1 w2 else s

/-- A completion with a status and no results. -/
def State.done (s : State) (i : Issue) (st : Nat) : State := s.complete i st 0 0 0

/-- MB_QP_CTRL.ERR of pair `k` and its mirror in MB_STATUS.QERR. -/
def State.setErr (s : State) (k : Nat) (b : Bool) : State := (s.setBit (qpReg k 0x1C) 2 b).setBit 0x10010 (16 + k) b

/-- A command was issued on pair `k`. -/
def ofPair (i : Issue) (k : Nat) : Bool :=
  match i.src with
  | .qp j => j.val == k
  | _ => false

/-- The LOG_WRITE commands whose record has not been written (R418). -/
def State.logWrites (s : State) : List Issue := (s.log.fifo ++ s.log.waitWrites).filterMap fun p => p.waiter

/-- A command that Firn has taken from pair `k` has not completed: an asynchronous one that is outstanding, one that waits
for a handover (R57), or a LOG_WRITE. -/
def State.pairBusy (s : State) (k : Nat) : Bool :=
  (s.mb.outstanding.any fun o => !o.dropped && ofPair o.iss k) ||
  ((s.mb.waiting.filterMap cmdOf).any fun c => ofPair c.2 k) || s.logWrites.any fun i => ofPair i k

/-- A pair whose ENABLE is cleared ends once its started commands have completed: ACTIVE, ERR and OWNER clear (R45). -/
def State.settlePair (s : State) (k : Nat) : State :=
  if s.bit (qpReg k 0x1C) 0 || s.pairBusy k then s
  else ((s.setBit (qpReg k 0x1C) 1 false).setErr k false).setFld (qpReg k 0x1C) 13 12 0

/-- The pair of a command that has completed ends where it was its last (R45). -/
def State.settleSrc (s : State) (src : CmdSrc) : State :=
  match src with
  | .qp k => s.settlePair k.val
  | _ => s

/-- A command is outstanding no more. -/
def State.retireCmd (s : State) (o : Outst) : State :=
  { s with mb := { s.mb with outstanding := s.mb.outstanding.filter fun p => p != o } }

/-- Complete an outstanding command and take it off the list (R55, R56); a dropped one completes nowhere (R37, R41). -/
def State.finish (s : State) (o : Outst) (st : Nat) (w0 w1 w2 : W32) : State :=
  let s := s.retireCmd o
  if o.dropped then s
  else
    (s.complete o.iss st w0 w1 w2).settleSrc o.iss.src

/-- Start an asynchronous command (R55). -/
def State.startAsync (s : State) (c : Instr) (i : Issue) (ref : Nat := 0) : State :=
  { s with mb := { s.mb with serial := s.mb.serial + 1, outstanding := s.mb.outstanding ++ [{ id := s.mb.serial, cmd := c, iss := i, since := s.now, ref := ref, win := s.window }] } }

/-- Complete the outstanding command of a number, if it is still outstanding. -/
def State.finishId (s : State) (id : Nat) (st : Nat) (w0 w1 w2 : W32) : State :=
  match s.mb.outstanding.find? fun o => o.id == id with
  | some o => s.finish o st w0 w1 w2
  | none => s

/-- The outstanding commands that a test picks out. -/
def State.waiters (s : State) (p : Instr → Bool) : List Outst := s.mb.outstanding.filter fun o => p o.cmd

/-- Complete every outstanding command that a test picks out, in the order in which they started. -/
def State.finishAll (s : State) (p : Instr → Bool) (st : Nat) (w0 w1 w2 : W32) : State :=
  (s.waiters p).foldl (fun t o => t.finish o st w0 w1 w2) s

/-! ### The gate of a host command (R4, R5, R47, R56, R70, R71) -/

/-- Status codes of R63. -/
abbrev eOk := 0x0000
abbrev eOpcode := 0x0001
abbrev eParam := 0x0002
abbrev eAccess := 0x0003
abbrev eState := 0x0004
abbrev eNospace := 0x0005
abbrev eTimeout := 0x0006
abbrev eIntegrity := 0x0007
abbrev eFrozen := 0x0008
abbrev eClaim := 0x0009
abbrev eNotsupp := 0x000A
abbrev ePersonality := 0x000B
abbrev eVersion := 0x000C
abbrev eHandover := 0x000D
abbrev eRevoked := 0x000E

/-- PERS as sampled: 0 STATION, 1 HEAD (R1). -/
def State.pers (s : State) : Nat := s.chip.straps.pers.toNat
/-- The unit is a HEAD. -/
def State.isHead (s : State) : Bool := s.pers == 1
/-- FREEZE is asserted (R394). -/
def State.frozen (s : State) : Bool := s.bit 0xA0008 0
/-- Bedrock recovery serves the mailbox (R70). -/
def State.recovery (s : State) : Bool := s.bit 0x10010 2
/-- The record's personality differs from the strap's (R4). -/
def State.persMismatch (s : State) : Bool := s.conf.personality.toNat != s.pers
/-- The unit is paired and not in pair state ACTIVE (R77, R385). -/
def State.standby (s : State) : Bool := s.bit 0x10010 7

/-- The classes that Firn accepts in the state of R4: SYS, LOG, IMG and KEY. -/
def mismatchClass (op : Nat) : Bool :=
  let c := op / 256
  c == 0x01 || c == 0x0C || c == 0x0D || c == 0x0E

/-- The commands that recovery serves (R70). -/
def recoveryCmd (op : Nat) : Bool :=
  op == 0x0100 || op == 0x0101 || op == 0x010A || op == 0x0D01 || op == 0x0D02 || op == 0x0D03 || op == 0x0D05

/-- The tile role to which a command is addressed, where the manual places its work on one (DEDUCED, log 24): SEQ for solver
batches and drift rounds, MTR for calibration and the thermal calculators, the SERVO_ROLE for the PTP configuration. -/
def State.roleOfOp (s : State) (op : Nat) : Option Nat :=
  if (0x0201 ≤ op ∧ op ≤ 0x0204) ∨ (0x0301 ≤ op ∧ op ≤ 0x030A) then some 7
  else if op = 0x0604 ∨ op = 0x0606 ∨ op = 0x0607 then some 6
  else if op = 0x0705 then some (if s.time.ptp.servoRole = 0 then 4 else 5)
  else none

/-- The role to which a command is addressed has been lost (R485). -/
def State.roleLost (s : State) (op : Nat) : Bool := (s.roleOfOp op).any fun k => s.pwr.lost.getLsbD k

/-- The status with which Firn refuses a command before its own checks, if any, in the order of log 18: recovery,
personality, FREEZE, the 32 outstanding commands of R56, the entry (R47, R58), PLEN, and a lost role (R485). -/
def State.gate (s : State) (c : CmdRow) (i : Issue) : Option Nat :=
  if s.recovery && !recoveryCmd c.op then some eState
  else if s.persMismatch && !mismatchClass c.op then some ePersonality
  else if c.pers.any (fun p => p != s.pers) then some ePersonality
  else if s.frozen && c.frozenNo then some eFrozen
  else if c.async && decide (s.mb.outstanding.length ≥ 32) then some eNospace
  else if i.entryErr.isSome then i.entryErr
  else if i.plen < c.plen then some eParam
  else if s.roleLost c.op then some eState
  else none

/-- A host command: refused at the gate with no effect (R64), or executed. -/
def State.hostCmd (s : State) (c : CmdRow) (i : Issue) (body : State → State) : State :=
  match s.gate c i with
  | some st => s.done i st
  | none => body s

/-- The commands that wait for a handover to end. -/
def State.setWaiting (s : State) (l : List Instr) : State := { s with mb := { s.mb with waiting := l } }

/-- Of the commands that wait, those that a test picks out complete with E_HANDOVER (R57). -/
def State.dropWaiting (s : State) (p : Nat → Bool) : State :=
  let mine := fun (c : Instr) => (cmdOf c).any fun q => p q.1
  ((s.mb.waiting.filter mine).filterMap cmdOf).foldl (fun t q => (t.done q.2 eHandover).settleSrc q.2.src)
    (s.setWaiting (s.mb.waiting.filter fun c => !mine c))

/-- Run a list of checks, each a condition that refuses with a status; the first that holds decides. -/
def State.checked (s : State) (i : Issue) (checks : List (Bool × Nat)) (body : State → State) : State :=
  match checks.find? (fun p => p.1) with
  | some p => s.done i p.2
  | none => body s

/-- The plain outcome of a command. -/
abbrev Out := Host.Outcome State Fault Refusal

/-- The key of a half that a master holds. -/
def halfKey (a m : Nat) : Nat := a + 0x1000000 * m

/-- A new capture replaces the high half of the pair at `a` that an earlier read captured for the reader (R212). -/
def State.freshHi (s : State) (m : Master) (a : Nat) : State :=
  { s with halves := { s.halves with shadows := kdel s.halves.shadows (halfKey (a + 4) (masterId m)) } }

end Sys2Proof.Machine
end

