-- ==== Sys2Proof/Machine/Bus.lean ====
section
/-! DEFINITION. A master's transaction to a register: the hardwired path, the block's table, and what a refused transaction
leaves (01, R21, R24; 16, R447, R450). -/

namespace Sys2Proof.Machine

/-- The master of an identifier (R19). -/
def masterOf (n : Nat) : Master :=
  match n with
  | 0 => .firn | 1 => .guard | 2 => .cyc0 | 3 => .cyc1 | 4 => .cyc2 | 5 => .cyc3 | 6 => .net0 | 7 => .net1
  | 8 => .mtr | 9 => .seq | 10 => .rsv | 11 => .hostp | 12 => .hosts | 13 => .solv | 14 => .portdma | _ => .hweng

/-- The host of a master. -/
def hostOf (m : Master) : Option HostId :=
  match m with
  | .hostp => some .hostp
  | .hosts => some .hosts
  | _ => none

/-- A master has a path to a target at an offset for a kind of access: 0 read, 1 write, 2 fetch (R21). -/
def State.hasPath (s : State) (m : Master) (t kind off : Nat) : Bool :=
  if t < 0x10 then s.pathMem m t (kind == 1) off
  else if kind = 2 then false
  else pathBlock m (t - 0x10) (kind == 1)

/-- A transaction that is not admitted (R450): the count, the first refusal latched, the record. -/
def State.violation (s : State) (m target kind address : Nat) (noPath : Bool) : State :=
  let s := s.count 0x30 1
  let w := m + target % 64 * 256 + kind * 65536 + b2n noPath * 2 ^ 18
  let s := if s.bit 0x34 31 then s else (s.wr 0x34 (w32 (w + 2 ^ 31))).wr64 0x38 (w64 (address % 2 ^ 40))
  s.postHw 0x0120 (w32 w) (w32 address) (w32 (address / 2 ^ 32 % 256))

/-- A register belongs to a sub-block of PD15 that is off or switching on, and answers nothing (R469): the PORT_Pp registers of
ports 0 to 3, and the DDR block. -/
def State.blockOff (s : State) (a : Nat) : Bool :=
  if 0x80100 ≤ a ∧ a < 0x80500 then !s.subOn (0x10 + (a - 0x80100) / 0x100)
  else a / 0x10000 == 0x10 && !s.subOn 0x16

/-- A transaction to a register is not admitted: no path (R21), or no region of the block's table (R447), or a register of a
sub-block that is off (R469), which a host whose link is off does not reach either. The hosts' BAR0
is a path of its own, without a table. -/
def State.regDenied (s : State) (m : Master) (a : Nat) (write : Bool) : Option Bool :=
  let b := a / 0x10000
  if !pathBlock m b write then some true
  else if s.blockOff a || (hostOf m).any (fun h => !s.hostOn h) then some false
  else if (hostOf m).isSome || s.tableGrants m (0x10 + b) (b2n write) (a % 0x10000) 4 then none
  else some false

/-- The error response to an access to a register, with its record (R24, R450). -/
def State.denyReg (s : State) (m : Master) (a : Nat) (write : Bool) (noPath : Bool) : State :=
  let b := a / 0x10000
  s.violation (masterId m) (if b ≤ 0x10 then 0x10 + b else 0x3F) (b2n write) (0x40000000 + a) (noPath && decide (b ≤ 0x10))

/-- What a master's write of a register does: its effect where the transaction is admitted, the error response where it is
not (R24, R450), after which `other` happens, which the write does not decide. -/
def State.atReg (s : State) (m : Master) (a : Nat) (body : State → State) (other : State → State := id) : State :=
  match s.regDenied m a true with
  | some p => other (s.denyReg m a true p)
  | none => body s

/-- What the last read returned (DESIGN CHOICE, log 5). -/
def State.answer (s : State) (d : Bytes) : State := { s with bus := { data := d, ur := false } }

/-- A master's read of a register: one that is not admitted returns 0 (R24). -/
def State.atRead (s : State) (m : Master) (a : Nat) (body : State → State) : State :=
  match s.regDenied m a false with
  | some p => (s.denyReg m a false p).answer (leBytes 4 0)
  | none => body s

/-- The table target and the offset of an address (R23): 0x3F where nothing answers. -/
def State.targetOf (s : State) (a : Nat) : Nat × Nat :=
  if 0x40000000 ≤ a ∧ a < 0x40110000 then (0x10 + (a - 0x40000000) / 0x10000, a % 0x10000)
  else if !s.populated a then (0x3F, 0)
  else if a < 0x02000000 then (0, a)
  else if a < 0x20000000 then (1, a - 0x10000000)
  else if a < 0x40000000 then (2, a - 0x20000000)
  else (3, a - 0x100000000)

/-- A run of memory of at least one byte is admitted to a master for a kind of access: 0 read, 1 write, 2 fetch (R24,
R447). -/
def State.memAdmits (s : State) (m : Master) (kind : Nat) (a n : Nat) : Bool :=
  let t := s.targetOf a
  decide (t.1 < 0x10) && s.populated (a + n - 1) && s.hasPath m t.1 kind t.2 && s.hasPath m t.1 kind (t.2 + n - 1) &&
    s.tableGrants m t.1 kind t.2 n

/-- A master's transaction to memory is refused (R24, R450), at its first byte that is not admitted. -/
def State.refused (s : State) (m : Master) (kind a : Nat) : State :=
  let t := s.targetOf a
  s.violation (masterId m) t.1 kind a (t.1 != 0x3F && !s.hasPath m t.1 kind t.2)

/-! ### What a submitter must leave alone (R118) -/

/-- The header of the problem record at an offset, as it stands. -/
def State.probAt (s : State) (off : Nat) : Prob := probOf (s.rdMem off 64)

/-- A run of bytes touches what R118 protects of the problem whose record stands at an offset, by its header `p`. -/
def Prob.touched (p : Prob) (off a n : Nat) : Bool :=
  overlap a n off p.recLen || (p.maskOff != 0 && overlap a n p.maskOff p.maskLen) || overlap a n p.resOff p.resLen ||
    (p.wspol == 3 && overlap a n p.wsOff p.resLen)

/-- The problems of a batch that are not done. -/
def State.notDone (s : State) (b : Batch) : List Nat :=
  b.waiting ++ ((s.solv.front.filter fun f => f.1 == b.id).map fun f => f.2.1) ++
    (s.solv.runs.filter fun q => q.2.batch == b.id).map fun q => q.2.index

/-- A master writes a run of shared SRAM: the problems of its own batches that the run touches are broken (R118). -/
def State.breach (s : State) (m : Master) (a n : Nat) : State :=
  let hit := (s.solv.batches.filter fun b => b.master == m).flatMap fun b =>
    ((s.notDone b).filter fun k => (s.probAt (b.offsets.getD k 0)).touched (b.offsets.getD k 0) a n).map fun k => (b.id, k)
  if hit.isEmpty then s else { s with solv := { s.solv with broken := s.solv.broken ++ hit } }

end Sys2Proof.Machine
end

