-- ==== Sys2Proof/Machine/IoOps.lean ====
section
/-! DEFINITION. The process outputs: what holds them, what drives GPIO outputs and PWM channels, and what the pins show
(13, R398 to R400; 18, R508). -/

namespace Sys2Proof.Machine

/-- Outputs are held at their safe values: FREEZE, or a hold without FREEZE (R394, R369). -/
def State.outputsHeld (s : State) : Bool := s.frozen || s.bit 0xA0008 1

/-- GPIO `k` shows its safe value: held now, or kept since a hold until its driver writes it (R400). -/
def State.gpioSafe (s : State) (k : Nat) : Bool := s.outputsHeld || s.fault.heldGpio.getLsbD k
/-- PWM channel `k` runs at its safe duty. -/
def State.pwmSafe (s : State) (k : Nat) : Bool := s.outputsHeld || s.fault.heldPwm.getLsbD k

/-- The safe value of GPIO `k`: 0 low, 1 high, 2 high impedance (R398). -/
def State.safeGpio (s : State) (k : Nat) : Nat := s.fld (0xA0100 + 4 * (k / 16)) (2 * (k % 16) + 1) (2 * (k % 16))
/-- The safe duty of PWM channel `k` (R398). -/
def State.safePwm (s : State) (k : Nat) : Dbl := s.rd64 (0xA0200 + 8 * k)

/-- GPIO `k` is named by an enabled fault input, and so is an input (R389). -/
def State.gpioFaultIn (s : State) (k : Nat) : Bool :=
  (List.range 8).any fun j =>
    s.bit 0xA006C j && s.fld (0xA0090 + 4 * (j / 4)) (8 * (j % 4) + 4) (8 * (j % 4)) == k

/-- GPIO `k` is an output. -/
def State.gpioOut (s : State) (k : Nat) : Bool := s.bit 0xF0010 k && !s.gpioFaultIn k

/-- What a ball of an output shows: high impedance, low or high. -/
inductive Pin where
  | z | low | high
  deriving DecidableEq, Repr

/-- A driven level. -/
def Pin.ofLevel (b : Bool) : Pin := if b then .high else .low

/-- The output balls are driven (R399, R444): Firn has loaded the safe values and set FAULT_CTRL.RUN. Before, and in recovery, every
GPIO, PWM and POUT ball is at high impedance. -/
def State.outputsDriven (s : State) : Bool := s.bit 0xA0004 0

/-- The ball of GPIO `k` (R398, R400): its safe value, or the level driven last, where it is an output; one set open drain (18) drives
low only. -/
def State.gpioPin (s : State) (k : Nat) : Pin :=
  if !s.outputsDriven || !s.gpioOut k then .z
  else
    let p : Pin := if s.gpioSafe k then (match s.safeGpio k with
      | 0 => .low
      | 1 => .high
      | _ => .z) else .ofLevel (s.io.gpio.getLsbD k)
    if s.bit 0xF0014 k && p == .high then .z else p

/-- The ball of PWM channel `k` in a cycle of its period (R508, R398): high for the cycles that IO_PWMk_HIGH counts. -/
def State.pwmPin (s : State) (k cycle : Nat) : Pin :=
  if !s.outputsDriven then .z else .ofLevel (decide (cycle < (s.rd (0xF0104 + 8 * k)).toNat))

/-- POUT `k` shows its safe level: held now, or kept since a hold until its emitter starts a pulse (R280, R400). -/
def State.poutSafe (s : State) (k : Nat) : Bool := s.outputsHeld || s.fault.heldPout.getLsbD k

/-- The ball of POUT `k` at an instant (R271, R398, R400): a held output shows its safe level, to which ACTIVE_LOW does not apply and
which cuts off a pulse in progress; otherwise the level of the pulse in progress, or of none. -/
def State.poutPin (s : State) (k at_ : Nat) : Pin :=
  if !s.outputsDriven then .z
  else if s.poutSafe k then .ofLevel (s.bit 0xA0108 k)
  else .ofLevel (decide (at_ < (kget {} s.mtr.pulse k).stop) != s.bit (0x51204 + 0x10 * k) 24)

/-- IO_GPIO_OUT shows the levels at the balls; one at high impedance shows 0, an open-drain output at 1 shows 1
(DESIGN CHOICE, log 85). -/
def State.showGpio (s : State) : State :=
  s.wr 0xF001C (w32 (((List.range 24).map fun k =>
    if s.gpioOut k && (if s.gpioSafe k then s.safeGpio k == 1 else s.io.gpio.getLsbD k) then 2 ^ k else 0).sum))

/-- The cycles for which a period is high (R508). -/
def pwmHigh (duty : Dbl) (period : Nat) : Nat :=
  min period (dFloor (dFma (dDiv duty (dOfInt 100)) (dOfInt period) 0x3FE0000000000000)).toNat

/-- PWM channel `k` starts a period: it takes the pending period, and the duty, or the safe duty while held (R508,
R398). No counter runs before FAULT_CTRL.RUN. -/
def State.pwmStart (s : State) (k : Nat) : State :=
  if !s.bit 0xA0004 0 then s else
  let p := s.fld (0xF0100 + 8 * k) 23 0
  let d := if s.pwmSafe k then s.safePwm k else kget 0 s.io.duty k
  ({ s with io := { s.io with period := kput 250000 s.io.period k p } } : State).wr (0xF0104 + 8 * k) (w32 (pwmHigh d p))

/-- Every output goes to its safe value (R395, R398): the PWM counters restart. -/
def State.holdOutputs (s : State) : State :=
  let s := { s with fault := { s.fault with heldGpio := BitVec.allOnes 24, heldPwm := BitVec.allOnes 16,
                                            heldPout := BitVec.allOnes 4 } }
  ((List.range 16).foldl State.pwmStart s).showGpio

/-- A new safe value of a held output reaches its pin (R398); State.poutPin reads that of a pulse output. -/
def State.safeChanged (s : State) (out : Nat) : State :=
  if out < 24 then s.showGpio
  else if 0x100 ≤ out ∧ out < 0x110 ∧ s.pwmSafe (out - 0x100) then s.pwmStart (out - 0x100)
  else s

/-- A driver writes PWM channel `k` (R193, R400): while the outputs are held the write does not reach the pin; otherwise
the duty is taken at the next period start. -/
def State.drivePwm (s : State) (k : Nat) (duty : Dbl) : State :=
  if s.outputsHeld || k ≥ 16 then s
  else
    let d := dMin (dMax duty dZero) (dOfInt 100)
    { s with
      io := { s.io with duty := kput 0 s.io.duty k d }
      fault := { s.fault with heldPwm := s.fault.heldPwm &&& ~~~(1#16 <<< k) } }

/-- The commit engine drives GPIO `k` (R400, R389). -/
def State.driveGpio (s : State) (k : Nat) (level : Bool) : State :=
  if s.outputsHeld || k ≥ 24 || s.gpioFaultIn k then s
  else
    let m : BitVec 24 := 1#24 <<< k
    ({ s with
      io := { s.io with gpio := if level then s.io.gpio ||| m else s.io.gpio &&& ~~~m }
      fault := { s.fault with heldGpio := s.fault.heldGpio &&& ~~~m } } : State).showGpio

/-- GPIO `k` and PWM channel `k` go to their safe values until they are next driven (R233). -/
def State.parkGpio (s : State) (k : Nat) : State :=
  ({ s with fault := { s.fault with heldGpio := s.fault.heldGpio ||| (1#24 <<< k) } } : State).showGpio
def State.parkPwm (s : State) (k : Nat) : State :=
  ({ s with fault := { s.fault with heldPwm := s.fault.heldPwm ||| (1#16 <<< k) } } : State).pwmStart k

end Sys2Proof.Machine
end

