-- ==== Sys2Proof/Machine/DriftTime.lean ====
section
/-! DEFINITION. The schedule of drift rounds: periods, rounds and their instants (05, R151 to R153). -/

namespace Sys2Proof.Machine

/-- P in ns, and 10 s where no period is set (R249). -/
def State.districtNs (s : State) : Nat := (s.drift.sched.map fun q => q.1 * 1000000000).getD 10000000000

/-- H of R152. -/
def driftH (pS nr : Nat) : Nat := pS * 1000000000 / (2 * (nr + 1))

/-- The latest round-start instant at or before `t` (R151, R152). -/
def State.roundBefore (s : State) (t : Nat) : Nat :=
  match s.drift.sched with
  | some (ps, nr, start) =>
    let p := ps * 1000000000
    if t < start ∨ p = 0 then 0
    else
      let h := driftH ps nr
      let tk := start + (t - start) / p * p
      let r := min nr ((t - tk + h) / (2 * h))
      if r = 0 then (if tk < start + p then 0 else tk - p + (2 * nr - 1) * h) else tk + (2 * r - 1) * h
  | none => 0

/-- T_k (R151). -/
def State.periodStart (s : State) (k : Nat) : Nat :=
  match s.drift.sched with
  | some (ps, _, start) => start + k * (ps * 1000000000)
  | none => 0

/-- The period of an instant; none before START or without a schedule. -/
def State.periodAt (s : State) (t : Nat) : Option Nat :=
  match s.drift.sched with
  | some (ps, _, start) => if t < start ∨ ps = 0 then none else some ((t - start) / (ps * 1000000000))
  | none => none

/-- NR, H, t_r and t_c of the schedule in force (R152). -/
def State.rounds (s : State) : Nat := (s.drift.sched.map fun q => q.2.1).getD 0
def State.halfStep (s : State) : Nat := (s.drift.sched.map fun q => driftH q.1 q.2.1).getD 0
def State.roundAt (s : State) (k r : Nat) : Nat := s.periodStart k + (2 * r - 1) * s.halfStep
def State.commitAt (s : State) (k : Nat) : Nat := s.periodStart k + (2 * s.rounds + 1) * s.halfStep

/-- The last round of period `k` that starts at or before a time: period, round and instant. -/
def State.lastRound (s : State) (t k : Nat) : Option (Nat × Nat × Nat) :=
  ((List.range s.rounds).reverse.find? fun i => decide (s.roundAt k (i + 1) ≤ t)).map fun i => (k, i + 1, s.roundAt k (i + 1))

/-- The last round that starts at or before a time. -/
def State.roundNow (s : State) (t : Nat) : Option (Nat × Nat × Nat) :=
  (s.periodAt t).bind fun k => s.lastRound t k <|> (if k = 0 then none else s.lastRound t (k - 1))

/-- SOLVE_US + BIDWIN_US in force, in ns: of the network configuration at a HEAD that runs rounds, of the last accepted
ROUND_START at a STATION; none where no rounds run. -/
def State.bidSpan (s : State) : Option Nat :=
  if s.isHead then
    (match s.drift.hd.started, s.drift.hd.net with
      | some _, some b => some ((leAt b 8 4 + leAt b 16 4) * 1000)
      | _, _ => none)
  else s.drift.st.info.map fun i => (i.solveUs + i.bidwinUs) * 1000

/-- From t_r to C_r, in ns: a STATION with a schedule that no ROUND_START has told the phases takes the 2 × H that R153 lets
them fill (DESIGN CHOICE, log 77). -/
def State.quietSpan (s : State) : Option Nat :=
  if s.isHead then s.bidSpan else some (s.bidSpan.getD (2 * s.halfStep))

/-- A transmission from `a` to `b` would meet a quiet window (R436): the schedule alone gives t_r and t_c (R152). -/
def State.quiet (s : State) (a b : Nat) : Bool :=
  match s.quietSpan, s.periodAt (b + 2000000) with
  | some span, some k =>
    [k - 1, k, k + 1].any fun j =>
      ((List.range s.rounds).any fun i =>
        let t := s.roundAt j (i + 1)
        decide (a < t + span + 1000000 ∧ t < b + 2000000)) ||
      (let t := s.commitAt j
       decide (a < t + 10000000 ∧ t < b + 2000000))
  | _, _ => false

end Sys2Proof.Machine
end

