-- ==== Sys2Proof/Machine/PortOps.lean ====
section
/-! DEFINITION. The switch's queues and the frames in them: what a frame is, how one is queued, sent, dropped and
reported (11, 09). -/

namespace Sys2Proof.Machine

/-- A register of port `p`'s block. -/
def pReg (p o : Nat) : Nat := 0x80000 + 0x100 * p + o
/-- A TIME register of port `p`. -/
def tpReg (p o : Nat) : Nat := 0x60000 + 0x20 * p + o

/-- The configuration of a port from reset (R338, DESIGN CHOICE, log 12). -/
def defaultPortCfg (head : Bool) (p : Nat) : PortCfg :=
  { fwd := if head then 0x10 else match p with | 0 => 0x12 | 1 => 0x11 | _ => 0x10 }

/-- The configuration of port `p` in force (R359). -/
def State.portCfg (s : State) (p : Nat) : PortCfg := (kfind s.port.cfg p).getD (defaultPortCfg s.isHead p)

/-- The link of port `p` is up. -/
def State.linkUp (s : State) (p : Nat) : Bool := s.bit (pReg p 0x104) 0

/-- The frames in queue `q` of port `p` (R346). -/
def State.queue (s : State) (p q : Nat) : List QFrame := kget [] s.port.queues (p * 8 + q)

/-- Set a queue and show its depth. -/
def State.setQueue (s : State) (p q : Nat) (l : List QFrame) : State :=
  ({ s with port := { s.port with queues := kput [] s.port.queues (p * 8 + q) l } } : State).wr
    (pReg p 0x140 + 4 * q) (w32 l.length)

/-- All frames that port `p` holds. -/
def State.portFrames (s : State) (p : Nat) : List QFrame := (List.range 8).flatMap fun q => s.queue p q

/-- A queue has room for a frame: 64 frames in the queue, 32 KB in the port (R346). -/
def State.hasRoom (s : State) (p q n : Nat) : Bool :=
  decide ((s.queue p q).length < 64) &&
  decide (((s.portFrames p).map fun f => f.bytes.length).sum + n ≤ 32768)

/-! ### Frames -/

/-- The groups of the active program's publications (R358). -/
def State.pubGroups (s : State) : List Nat :=
  (s.cyc.act.map fun p => (p.remotes.filter fun r => r.ty == 1).map fun r => r.group).getD []

/-- Drift rounds run, or a template is stored (R357). -/
def State.driftBusy (s : State) : Bool :=
  s.drift.hd.started.isSome || s.drift.st.tmpl.isSome || s.drift.st.tmplNext.isSome

/-- The bytes of a VLAN tag in a frame: 4 with an 802.1Q tag after the addresses, otherwise 0 (R350). -/
def tagLen (b : Bytes) : Nat := if beNat (sliceB b 12 2) = 0x8100 then 4 else 0
/-- The VID and PCP of a tagged frame. -/
def tagVid (b : Bytes) : Nat := beNat (sliceB b 14 2) % 4096
def tagPcp (b : Bytes) : Nat := beNat (sliceB b 14 2) / 8192
/-- The EtherType behind the tag. -/
def etherType (b : Bytes) : Nat := beNat (sliceB b (12 + tagLen b) 2)
/-- The frame is a Stoene field frame (R355). -/
def isField (b : Bytes) : Bool := etherType b == 0x88B5
/-- The field-frame header and body. -/
def fieldPart (b : Bytes) : Bytes := b.drop (14 + tagLen b)
/-- A field frame with FLAGS.CMD = 1. -/
def isCmdFrame (b : Bytes) : Bool := isField b && ((fieldPart b).getD 14 0).getLsbD 0
/-- The subtype of a field frame. -/
def subtypeOf (b : Bytes) : Nat := ((fieldPart b).getD 0 0).toNat

/-- A drift frame of this unit's own, which FREEZE and a time base that is not LOCKED keep from being launched (R154,
R155). -/
def isOwnDrift (f : QFrame) : Bool :=
  f.origin == .own && isField f.bytes && decide (0x10 ≤ subtypeOf f.bytes ∧ subtypeOf f.bytes ≤ 0x13)
/-- A frame of Avalanche. -/
def isAvalanche (b : Bytes) : Bool := isField b && decide (0x30 ≤ subtypeOf b ∧ subtypeOf b ≤ 0x3F)

/-- The field MAC of an address (R355). -/
def fieldMac (d : Nat) : Bytes :=
  if d = 0x3FFF then [0x03, 0xF5, 0x72, 0x00, 0x3F, 0xFF]
  else [0x02, 0xF5, 0x72, 0x00, BitVec.ofNat 8 (d / 256 % 64), BitVec.ofNat 8 d]

/-- The unit's field address. -/
def State.address (s : State) : Nat := s.fld 0x80008 13 0
/-- The unit's own claim (R365). -/
def State.claim (s : State) : Nat := (s.rd 0x9000C).toNat

/-- A field frame of this unit (R9, R355): addresses, EtherType, header and body, most significant byte first. -/
def State.fieldFrame (s : State) (dst subtype : Nat) (cmd : Bool) (body : Bytes) : Bytes :=
  fieldMac dst ++ fieldMac s.address ++ [0x88, 0xB5] ++
    [BitVec.ofNat 8 subtype, 0x01] ++ beBytes 2 dst ++ beBytes 2 s.address ++ beBytes 2 body.length ++
    beBytes 4 s.claim ++ beBytes 2 (s.fld 0x8000C 15 0) ++ [BitVec.ofNat 8 (b2n cmd), 0x00] ++ body

/-- PAIR_STATE. -/
abbrev aPairState : Nat := 0x90008
/-- PAIR_STATE.STATE: 0 UNPAIRED, 1 START, 2 ACTIVE, 3 STANDBY, 4 UNSYNCED, 5 RESYNC, 6 HANDING, 7 TEST, 8 CLASH. -/
def State.pairState (s : State) : Nat := s.fld aPairState 3 0
/-- Pairing is configured (R363): the unit is not UNPAIRED. -/
def State.paired (s : State) : Bool := s.pairState != 0

/-- The subtypes of the pair link (R363). -/
def pairSubtype (n : Nat) : Bool := decide (0x40 ≤ n ∧ n ≤ 0x47)

/-- Port 3 of a paired unit carries pair-link frames and PTP alone (R363). -/
def State.pairBars (s : State) (p : Nat) (b : Bytes) : Bool :=
  p == 3 && s.paired && !(isField b && pairSubtype (subtypeOf b)) && etherType b != 0x88F7

/-! ### Accesses of PORTDMA (R24) -/

/-- PORTDMA writes memory; a write that is not admitted is discarded. -/
def State.dmaWrite (s : State) (a : Nat) (b : Bytes) : State :=
  if b.isEmpty then s else if s.memAdmits .portdma 1 a b.length then s.wrMem a b else s.refused .portdma 1 a

/-- PORTDMA reads memory; a read that is not admitted returns 0. -/
def State.dmaRead (s : State) (a n : Nat) : State × Bytes :=
  if n = 0 ∨ s.memAdmits .portdma 0 a n then (s, s.rdMem a n) else (s.refused .portdma 0 a, List.replicate n 0)

/-! ### The fate of a frame -/

/-- The status with which NET_FRAME_SEND completes for a transmit status (CPU port rings, R306, R308, DEDUCED, log 20). -/
def sendStatus : Nat → Nat
  | 0 => eOk | 1 => eTimeout | 2 => eState | 3 => eFrozen | 4 => eRevoked | 5 => 0x0101 | _ => eClaim

/-- Report a frame's end to whoever sent it: the transmit descriptor gets its stamp and status and loses OWN, or the
outstanding command completes with the stamp. -/
def State.frameEnd (s : State) (f : QFrame) (status : Nat) (stamp : Nat) : State :=
  match f.origin with
  | .ring idx =>
    let d := (s.rd 0x80018).toNat + 32 * idx
    let s := if status = 0 then s.dmaWrite (d + 16) (leBytes 8 stamp) else s
    let s := s.dmaWrite (d + 24) (leBytes 2 status)
    s.dmaWrite (d + 7) [s.byteAt (d + 7) &&& 0x7F]
  | .command id =>
    if status = 0 then s.finishId id eOk (w32 stamp) (w32 (stamp / 2 ^ 32)) 0 else s.finishId id (sendStatus status) 0 0 0
  | _ => s

/-- Take the frames that a test picks out of every queue of port `p`, each ending with a status; answers how many. -/
def State.removeFrames (s : State) (p : Nat) (test : QFrame → Bool) (status : Nat) : State :=
  let gone := (s.portFrames p).filter test
  let s := (List.range 8).foldl (fun t q => t.setQueue p q ((t.queue p q).filter fun f => !test f)) s
  gone.foldl (fun t f => t.frameEnd f status 0) s

/-- A frame came from this unit's CPU port (R349). -/
def fromCpu (f : QFrame) : Bool := match f.origin with | .forwarded => false | _ => true

/-- R345: the drift filter of a T1L port stops a PRICE or PLAN_COMMIT frame of another chain. -/
def driftStops (c : PortCfg) (p : Nat) (b : Bytes) : Bool :=
  decide (p < 2) && c.nbr != 0xFF && isField b &&
  let body := (fieldPart b).drop 16
  (subtypeOf b == 0x11 && !(c.branches.take c.nbr).contains (beNat (sliceB body 8 2))) ||
  (subtypeOf b == 0x13 && beNat (sliceB body 6 2) != c.chain)

/-- What the CPU port does with a frame it offers to port `p`, queue `q`: the command gates of R349, R4 (DEDUCED, log 20) and
R368, the link, what the pair link does not carry (R363; status 5, DEDUCED, log 20), the field
frames of a unit with address 0 (R357), the drift filter, the room of R346; it answers the transmit status at once, or queues the frame (none). -/
def State.offer (s : State) (p q : Nat) (f : QFrame) : State × Option Nat :=
  if isCmdFrame f.bytes && s.frozen then (s, some 3)
  else if isCmdFrame f.bytes && s.persMismatch then (s, some 6)
  else if isCmdFrame f.bytes && s.standby then (s.count 0x9002C 1, some 6)
  else if !s.linkUp p || s.pairBars p f.bytes || (isField f.bytes && s.address == 0) then (s, some 5)
  else if driftStops (s.portCfg p) p f.bytes then (s, some 0)
  else if !s.hasRoom p q f.bytes.length then (s, some 7)
  else (s.setQueue p q (s.queue p q ++ [f]), none)

/-- A frame of the unit's own engines goes to a queue, or nowhere when the CPU port refuses it, or where its launch time lies
more than 16 s ahead (R307). -/
def State.sendOwn (s : State) (p q launch : Nat) (b : Bytes) (strict : Bool := false) : State :=
  if launch > s.now + 16000000000 then s
  else (s.offer p q { bytes := b, launch := launch, origin := .own, strict := strict }).1

/-- The HEAD's drift frames that wait for a port, in order: launch time and bytes (R160). -/
def State.driftWaiting (s : State) (p : Nat) : List (Nat × Bytes) := kget [] s.drift.hd.waiting p
def State.setDriftWaiting (s : State) (p : Nat) (l : List (Nat × Bytes)) : State :=
  { s with drift := { s.drift with hd := { s.drift.hd with waiting := kput [] s.drift.hd.waiting p l } } }

/-- Drift frames that wait move to queue 6 of their port while it has room; `n` bounds how many. A port whose link is down
takes none. -/
def State.driftRefill (s : State) (p : Nat) : Nat → State
  | 0 => s
  | n + 1 =>
    match s.driftWaiting p with
    | (l, b) :: t =>
      if !s.linkUp p then s.setDriftWaiting p []
      else if s.hasRoom p 6 b.length then ((s.setDriftWaiting p t).sendOwn p 6 l b).driftRefill p n
      else s
    | [] => s

/-- The HEAD sends drift frames on a port, behind those that wait there (R160; DESIGN CHOICE, log 77). -/
def State.driftSend (s : State) (p : Nat) (l : List (Nat × Bytes)) : State :=
  (s.setDriftWaiting p (s.driftWaiting p ++ l)).driftRefill p 65

/-- A forwarded frame goes to a queue, or is discarded and counted (R340, R346). -/
def State.sendForward (s : State) (p q : Nat) (b : Bytes) : State :=
  if driftStops (s.portCfg p) p b || s.pairBars p b then s
  else if s.linkUp p && s.hasRoom p q b.length then s.setQueue p q (s.queue p q ++ [{ bytes := b, origin := .forwarded }])
  else s.count (pReg p 0x124) 1

/-! ### Received field frames (R356, R367, R176) -/

/-- The highest claim accepted in a claim's group (R367). -/
def State.hiClaim (s : State) (claim : W32) : W32 := s.rd (0x90040 + 4 * fldOf claim 7 4)

/-- The outcome of R356 for a received field frame of a given subtype. -/
inductive Accept where
  | ok | drop | claimLow
  deriving DecidableEq, Repr

/-- Whether the CPU port accepts a received field frame (R356): destination, SYSID, version and length, then for a
command frame the claim against the highest claim of its group (R176, R367). -/
def State.accepts (s : State) (h : FrameHeader) (cmd : Bool) : Accept :=
  if !(h.dst.toNat == 0x3FFF || (h.dst.toNat == s.address && s.address != 0)) then .drop
  else if h.sysid.toNat != s.fld 0x8000C 15 0 || h.version != 1 || decide (h.len > h.payload) then .drop
  else if h.src.toNat == s.address && s.address != 0 then .drop
  else if cmd && h.claim.toNat < (s.hiClaim h.claim).toNat then .claimLow
  else .ok

/-- What the CPU port does with a received field frame (R356, R176): a refused frame is discarded, counted in PORT_FFDROP or
PORT_CLAIMDROP and, for a low claim, logged; a frame that carries the unit's own address raises ADDR_CONFLICT; an accepted
command frame raises the highest claim of its group. -/
def State.admitField (s : State) (h : FrameHeader) (subtype : Nat) (cmd : Bool) : State :=
  match s.accepts h cmd with
  | .drop =>
    let s := s.count 0x80020 1
    if h.src.toNat == s.address && s.address != 0 then
      s.postHw 0x0906 (w32 h.port) (w32 s.address) (w32 (0x72000000 + h.src.toNat))
    else s
  | .claimLow => (s.count 0x80024 1).postFirn 0x0304 h.claim (s.hiClaim h.claim) (w32 subtype)
  | .ok => if cmd then s.wr (0x90040 + 4 * fldOf h.claim 7 4) h.claim else s

/-- Receive a field frame at the CPU port: discarded and counted in PORT_Pp_SECDROP where the port requires a protection that it
does not have (R351); otherwise what R356 makes of it, and for an accepted frame its own effect; `low` is what follows a failed
claim check beside. The pair link takes none but its own subtypes (R363). -/
def State.received (s : State) (h : FrameHeader) (subtype : Nat) (cmd : Bool) (body : State → State)
    (low : State → State := id) : State :=
  let s := s.reach h.at_
  if (s.portCfg h.port).required && !h.sec then s.count (pReg h.port 0x128) 1
  else if h.port == 3 && s.paired && !pairSubtype subtype then s
  else
    let t := s.admitField h subtype cmd
    match s.accepts h cmd with
    | .ok => body t
    | .drop => t
    | .claimLow => low t

/-- The header of a field frame as its bytes give it (R355). -/
def headerOf (b : Bytes) (p at_ : Nat) : FrameHeader :=
  let f := fieldPart b
  let u := fun o n => beNat (sliceB f o n)
  { dst := BitVec.ofNat 16 (u 2 2), src := BitVec.ofNat 16 (u 4 2), sysid := BitVec.ofNat 16 (u 12 2), version := f.getD 1 0,
    len := u 6 2, payload := f.length - 16, claim := w32 (u 8 4), port := p, at_ := at_ }

/-- A frame whose last four bytes, its FCS, are inverted (R341, R354, R359). -/
def badFcs (b : Bytes) : Bytes := b.take (b.length - 4) ++ (b.drop (b.length - 4)).map fun x => ~~~x

end Sys2Proof.Machine
end

