-- ==== Sys2Proof/Machine/RotOps.lean ====
section
/-! DEFINITION. Roles, tiles and the handover of a role to the reserve (R16 to R18, R481 to R485). Roles 0 to 7 are CYC0 to
CYC3, NET0, NET1, MTR and SEQ. -/

namespace Sys2Proof.Machine


/-- PCR registers. -/
abbrev aRoleMap : Nat := 0xE0114
abbrev aTileStat : Nat := 0xE0118
abbrev aRotCtrl : Nat := 0xE0100
abbrev aRotInterval : Nat := 0xE0104
abbrev aRotNext : Nat := 0xE0108
abbrev aRotState : Nat := 0xE0110
abbrev aThermSkew : Nat := 0xE00C4

/-- The tile of role `k`; 0: none. -/
def State.roleTile (s : State) (k : Nat) : Nat := s.fld aRoleMap (4 * k + 3) (4 * k)
def State.setRoleTile (s : State) (k t : Nat) : State := s.setFld aRoleMap (4 * k + 3) (4 * k) t
/-- The role that tile `t` carries. -/
def State.tileRole (s : State) (t : Nat) : Option Nat := (List.range 8).find? fun k => s.roleTile k == t && t != 0
/-- The reserve tile; 15: none. -/
def State.rsvTile (s : State) : Nat := s.fld aTileStat 19 16
def State.setRsv (s : State) (t : Nat) : State := s.setFld aTileStat 19 16 t
/-- RSV is assigned. -/
def State.hasRsv (s : State) : Bool := s.rsvTile != 15
/-- Healthy pool tiles (R18). -/
def State.healthy (s : State) : Nat := 9 - popCount 9 (s.fld aTileStat 8 0)
/-- The phase of the handover in progress (R482); 0: idle. -/
def State.rotPhase (s : State) : Nat := s.fld aRotState 2 0
def State.rotRole (s : State) : Nat := s.fld aRotState 11 8
def State.rotSrc (s : State) : Nat := s.fld aRotState 15 12
def State.rotDst (s : State) : Nat := s.fld aRotState 19 16

/-- A handover of role `k` to the reserve begins with the reserve's self-test (R482, phase 1). A special one is a thermal
migration or brings a new firmware, and leaves the rotation's order alone. -/
def State.startHandover (s : State) (k : Nat) (special : Bool) : State :=
  let s := s.wr aRotState (w32 (1 + k * 256 + s.roleTile k * 4096 + s.rsvTile * 65536))
  { s with pwr := { s.pwr with rotThermal := special, rotSince := s.now } }

/-- The handover in progress is a thermal migration (R477). -/
def State.migrating (s : State) : Bool := s.pwr.rotThermal && (s.boot.activating.bind fun a => a.current).isNone

/-- The handover ends. -/
def State.endHandover (s : State) : State := s.wr aRotState 0

/-- The role whose turn it is, from `k` on, passing over roles that count as rotated (R477), and the roles that then still
count; `n` bounds the search. -/
def nextRole (counted : List Nat) (k : Nat) : Nat → Nat × List Nat
  | 0 => (k, counted)
  | n + 1 => if counted.contains k then nextRole (counted.filter (· ≠ k)) ((k + 1) % 8) n else (k, counted)

/-- A rotation of the next role in the order begins (R481). -/
def State.startNext (s : State) : State :=
  let (k, c) := nextRole s.pwr.counted s.pwr.pos 8
  ({ s with pwr := { s.pwr with pos := k, counted := c, rotRetry := false } } : State).startHandover k false

/-- The next role of an activation begins its handover when none runs (R441): it waits while FREEZE is asserted or no
reserve is assigned, and the activation ends when no role is left. -/
def State.advance (s : State) : State :=
  if s.rotPhase ≠ 0 then s
  else
    match s.boot.activating with
    | none => s
    | some a =>
      match a.roles with
      | k :: t =>
        if !s.hasRsv then s
        else if s.frozen then { s with pwr := { s.pwr with rotRetry := true } }
        else ({ s with boot := { s.boot with activating := some { a with roles := t, current := some k } } } : State).startHandover k true
      | [] => if a.later.isEmpty && a.current.isNone then { s with boot := { s.boot with activating := none } } else s

/-- A handover that waited for FREEZE to clear begins (R484). -/
def State.resumeRotation (s : State) : State :=
  if s.rotPhase != 0 || !s.hasRsv then s
  else
    match s.pwr.migrate with
    | some k => ({ s with pwr := { s.pwr with migrate := none } } : State).startHandover k true
    | none =>
      if !s.pwr.rotRetry then s
      else
        let s := { s with pwr := { s.pwr with rotRetry := false } }
        match s.boot.activating with
        | some a => if a.roles.isEmpty then s.startNext else s.advance
        | none => s.startNext

/-- A command addressed to a role in handover (R57): the role is known, or the command is one of the cycle runtime's while a
CYC role moves (DEDUCED, log 24). -/
def State.handoverHolds (s : State) (op : Nat) : Bool :=
  decide (1 ≤ s.rotPhase ∧ s.rotPhase ≤ 5) &&
  (s.roleOfOp op == some s.rotRole || (op / 256 == 5 && decide (s.rotRole ≤ 3)))

/-- A calibration in progress ends without a result (R67, R281, R485): MTR_CHSTATc.CAL clears. -/
def State.endCal (s : State) : State :=
  match s.mtr.cal with
  | some r => ({ s with mtr := { s.mtr with cal := none } } : State).setBit (0x50040 + 4 * r.channel) 3 false
  | none => s

/-- An abandoned handover of MTR ends a calibration that runs with E_HANDOVER (R281). -/
def State.handOverCal (s : State) (k : Nat) : State :=
  if k ≠ 6 then s
  else match s.mtr.cal with
    | some r => (s.endCal).finishId r.id eHandover 0 0 0
    | none => s

/-- The handover is abandoned (R484): the role stays on its tile, with the record, ABANDONED, and E_HANDOVER for the
commands that waited (R57). After cause 2 the next instant takes the next role, and after cause 3 the rotation or the thermal
migration is retried;
a role of an activation is repeated at the next instant (R441). -/
def State.abandonHandover (s : State) (cause : Nat) : State :=
  let k := s.rotRole
  let ph := s.rotPhase
  let hot := s.migrating
  let s := ((((s.dropWaiting s.handoverHolds).handOverCal k).endHandover).setBit aRotCtrl 2 true).postFirn 0x0111 (w32 k) (w32 ph) (w32 cause)
  if hot then (if cause = 3 then { s with pwr := { s.pwr with migrate := some k } } else s)
  else if s.pwr.rotThermal then
    { s with boot := { s.boot with activating := s.boot.activating.map fun a =>
      match a.current with
      | some j => { a with current := none, later := a.later ++ [j] }
      | none => a } }
  else if cause = 2 then { s with pwr := { s.pwr with pos := (k + 1) % 8 } }
  else if cause = 3 then { s with pwr := { s.pwr with rotRetry := true } }
  else s

end Sys2Proof.Machine
end

