-- ==== Sys2Proof/Machine/FaultOps.lean ====
section
/-! DEFINITION. The fault block: conditions, latching, FREEZE and its effects, and the clear request (13). -/

namespace Sys2Proof.Machine

/-- The sources of the table of R388 that are not reserved. -/
def sourceDefined (n : Nat) : Bool :=
  decide (n ≤ 4) || decide (16 ≤ n ∧ n ≤ 20) || decide (32 ≤ n ∧ n ≤ 35) || n == 48 || n == 49 || n == 64 || n == 72 ||
  n == 80 || decide (96 ≤ n ∧ n ≤ 103) || decide (128 ≤ n ∧ n ≤ 191)

/-- Bit `n` of a bank of 32-bit registers. -/
def State.bankBit (s : State) (base n : Nat) : Bool := s.bit (base + 4 * (n / 32)) (n % 32)

/-- Source `n` is enabled in FAULT_ENg (R388). -/
def State.srcEnabled (s : State) (n : Nat) : Bool := sourceDefined n && s.bankBit 0xA0060 n

/-- The condition of source `n` holds as a level: its user bit (R390), the active level of the GPIO that FAULT_INCFG
names for a fault input (R389), or a live condition (R388). -/
def State.srcLevel (s : State) (n : Nat) : Bool :=
  if 128 ≤ n ∧ n ≤ 191 then s.bankBit 0xA0080 (n - 128)
  else if 96 ≤ n ∧ n ≤ 103 then
    let c := s.fld (0xA0090 + 4 * ((n - 96) / 4)) (8 * ((n - 96) % 4) + 7) (8 * ((n - 96) % 4))
    s.bit 0xF0018 (c % 32) == decide (c ≥ 128)
  else s.fault.live.getLsbD n

/-- ASSERTED of source `n`: an enabled source follows its condition (R388). -/
def State.asserted (s : State) (n : Nat) : Bool := s.srcEnabled n && s.srcLevel n

/-- STATUS of source `n` (R391). -/
def State.srcStatus (s : State) (n : Nat) : Bool := s.bankBit 0xA0020 n

/-- The enabled sources with ASSERTED 1, ascending. -/
def State.assertedList (s : State) : List Nat := (List.range 192).filter s.asserted

/-- Set the STATUS bit of one source whose condition holds on this edge, with what R391 and R393 make of it. -/
def State.latchOne (s : State) (n : Nat) : State :=
  if s.srcStatus n then s
  else
    let s := (s.setBit (0xA0020 + 4 * (n / 32)) (n % 32) true).count 0xA0018 1
    if s.bit 0xA0008 2 then
      let c := min 255 (s.fld 0xA0008 15 8 + 1)
      let s := (s.setBit 0xA0008 3 true).setFld 0xA0008 15 8 c
      s.postHw 0x0B02 (w32 n) (w32 c) 0
    else
      let s := ((s.wr 0xA000C (w32 n)).setBit 0xA0008 2 true).wr64 0xA0010 s.time.ns
      let s := s.postHw 0x0B01 (w32 n) (lo32 s.time.ns) 0
      { s with log := { s.log with firstFlush := true } }

/-- FREEZE rises (R394, R395): MB_STATUS.FROZEN, every output held at its safe value, the queued command frames of this
unit's CPU port removed (R349), and a handover before its cut abandoned (R484). -/
def State.freezeOn (s : State) : State :=
  if s.frozen then s
  else
    let s := (s.setBit 0xA0008 0 true).status 3 true
    let s := s.holdOutputs
    let s := (List.range 4).foldl (fun t p => t.removeFrames p (fun f => fromCpu f && isCmdFrame f.bytes) 3) s
    if 1 ≤ s.rotPhase ∧ s.rotPhase ≤ 4 then (s.abandonHandover 3).advance else s

/-- The sources of a list whose condition holds on one FABCLK edge are latched in ascending order; MB_EVENT bit 10 and
FREEZE follow (R391 to R395). -/
def State.latch (s : State) (l : List Nat) : State :=
  let l := l.filter fun n => s.srcEnabled n && !s.srcStatus n
  if l.isEmpty then s else ((l.foldl State.latchOne s).event 10).freezeOn

/-- An event source's condition holds for one edge (R388). -/
def State.raise (s : State) (n : Nat) : State := s.latch [n]

/-- A level source's condition begins or ends. -/
def State.level (s : State) (n : Nat) (b : Bool) : State :=
  let m : Sources := 1#192 <<< n
  let s := { s with fault := { s.fault with live := if b then s.fault.live ||| m else s.fault.live &&& ~~~m } }
  if b then s.latch [n] else s

/-- Latch every source that is asserted now: after a write of an enable or of a user bit (R391). -/
def State.latchAsserted (s : State) : State := s.latch s.assertedList

/-- The enabled sources that are asserted on an edge on which the conditions of `rising` also arise. -/
def State.assertedWith (s : State) (rising : Sources) : List Nat :=
  (List.range 192).filter fun n => s.asserted n || (s.srcEnabled n && rising.getLsbD n)

/-- A clear request that acts on one edge, on which the conditions of `rising` arise (R401): the state after it, and
whether FAULT_CLEAR completes with OK. -/
def State.clearRequest (s : State) (rising : Sources) : State × Bool :=
  if !s.frozen then (s, true)
  else
    match s.assertedWith rising with
    | [] =>
      let first := s.rd 0xA000C
      let ovf := s.fld 0xA0008 15 8
      let ms := min 0xFFFFFFFF ((s.now - (s.rd64 0xA0010).toNat) / 1000000)
      let s := (List.range 6).foldl (fun t g => t.wr (0xA0020 + 4 * g) 0) s
      -- STATUS, FIRST_VALID, OVERFLOW, OVFCNT, TESTED and FREEZE end; HOLD and CLRREJ stay.
      let s := s.wr 0xA0008 (s.rd 0xA0008 &&& 0x22)
      let s := (s.status 3 false).postHw 0x0B03 first (w32 ovf) (w32 ms)
      (s.resumeRotation, true)
    | n :: t =>
      let s := (s.setBit 0xA0008 5 true).count 0xA001C 1
      (s.postHw 0x0B04 (w32 n) (w32 (t.length + 1)) 0, false)

/-- FREEZE_N is low (R399). -/
def State.freezePinLow (s : State) : Bool := s.frozen || s.bit 0xA0008 1 || !s.bit 0xA0004 0

/-- FAULT_N is low (R399). -/
def State.faultPinLow (s : State) : Bool := !s.assertedList.isEmpty

/-- Begin or end the hold of the pair states, of start-up and of the runtime (R369, R394): on its beginning every output
takes its safe value. -/
def State.setHold (s : State) (b : Bool) : State :=
  let s := s.setBit 0xA0008 1 b
  if b then s.holdOutputs else s

/-! ### The runs of rows -/

/-- A value within 0.0 to 100.0 as binary64 (R398): minus zero counts as zero. -/
def percentOk (v : W64) : Bool := v.toNat ≤ 0x4059000000000000 || v == 0x8000000000000000

/-- A safe value fits its output (R398). -/
def safeOk (out : Nat) (v : W64) : Bool :=
  if out < 24 then decide (v.toNat ≤ 2)
  else if 0x100 ≤ out ∧ out < 0x110 then percentOk v
  else if 0x200 ≤ out ∧ out < 0x204 then decide (v.toNat ≤ 1)
  else false

/-- Write a safe value into the FAULT block (R398). -/
def State.putSafe (s : State) (out : Nat) (v : W64) : State :=
  if out < 24 then s.setFld (0xA0100 + 4 * (out / 16)) (2 * (out % 16) + 1) (2 * (out % 16)) v.toNat
  else if 0x100 ≤ out ∧ out < 0x110 then s.wr64 (0xA0200 + 8 * (out - 0x100)) v
  else s.setBit 0xA0108 (out - 0x200) (v.toNat = 1)

/-- Set an item of the configuration record, if one is stored. -/
def State.setConf (s : State) (f : CfgRecord → CfgRecord) : State := { s with cfg := s.cfg.map f }

/-- Set a key of an association list of a record. -/
def putAssoc {α : Type} (l : List (Nat × α)) (k : Nat) (v : α) : List (Nat × α) :=
  l.filter (fun p => p.1 ≠ k) ++ [(k, v)]

/-- A frame that a port is transmitting ends with an inverted FCS (R354, R359): the frame as it went over the wire, and the
port's count of such frames, are observations of the model's own (DESIGN CHOICE, log 5). -/
def State.cutFrame (s : State) (p : Nat) : State :=
  if s.now < kget 0 s.port.busy p then
    { s with port := { s.port with
      busy := kdel s.port.busy p
      aborted := kset s.port.aborted p (kget 0 s.port.aborted p + 1)
      lastWire := kset s.port.lastWire p (badFcs (kget [] s.port.lastWire p)) } }
  else s

end Sys2Proof.Machine
end

