-- ==== Sys2Proof/Machine/TimeOps.lean ====
section
/-! DEFINITION. The time base: its state machine, its one step and what happens at it (09, R284 to R295). -/

namespace Sys2Proof.Machine

/-- The SERVO_ROLE and FIRN may write the servo registers (R291). -/
def State.servoWriter (s : State) (m : Master) : Bool :=
  m == .firn || m == (if s.time.ptp.servoRole = 0 then Master.net0 else .net1)

/-- A trim measurement that passes a test and whose closing edge has not come loses its reference (R333). -/
def State.trimLost (s : State) (p : TrimRun → Bool) : State :=
  { s with cal := { s.cal with meas := s.cal.meas.map fun r => if r.left != some 0 && p r then { r with lost := true } else r } }

/-- The time base changes state (R288): MB_EVENT bit 12, both runs restart, and HOLDOVER ends with LOCKED; a trim
measurement against it that is open loses its reference unless it is LOCKED (R333). -/
def State.setTimeState (s : State) (n : Nat) : State :=
  let s := if n = 2 then s else s.trimLost fun r => r.left.isSome && r.source == 2
  let s := ((s.setFld 0x60004 2 0 n).setBit 0x60004 3 false).event 12
  { s with time := { s.time with inRun := 0, outRun := 0 } }

/-- ms since the last UPDATE, saturating (TIME_SINCE_UPD). -/
def State.sinceUpd (s : State) : W32 :=
  match s.time.lastUpd with
  | some t => w32 (min 0xFFFFFFFF (((s.now : Int) - t) / 1000000).toNat)
  | none => 0xFFFFFFFF

/-- An update with the SOFF held now is evaluated (R288, R292). -/
def State.update (s : State) : State :=
  let s := { s with time := { s.time with lastUpd := some (s.now : Int) } }
  let s := s.setBit 0x60004 3 false
  if s.timeState = 0 ∨ s.time.ptp.refsrc = 0 then s
  else
    let inLimit := decide ((s.rd 0x60024).toInt.natAbs ≤ (s.rd 0x60040).toNat)
    let t := s.time
    let s := { s with time := if inLimit then { t with inRun := t.inRun + 1, outRun := 0 }
                              else { t with inRun := 0, outRun := t.outRun + 1 } }
    let full := decide (s.time.inRun ≥ s.fld 0x60044 7 0)
    match s.timeState with
    | 1 => if full then (s.setTimeState 2).postHw 0x0702 (s.rd 0x60024) (s.rd 0x60020) 1 else s
    | 2 =>
      if s.time.outRun ≥ s.fld 0x60044 15 8 then
        ((s.setTimeState 3).postHw 0x0704 (s.rd 0x60024) (s.rd 0x60020) (w32 (s.fld 0x60044 15 8))).level 64 true
      else s
    | 3 => if full then ((s.setTimeState 2).postHw 0x0705 (s.rd 0x60024) (s.rd 0x60020) 0).level 64 false else s
    | _ => s

/-- Drop every queued frame that carries a launch time (R308): STEPDROP, the record, and the commands' E_STATE. -/
def State.stepDrop (s : State) (p : Nat) : State :=
  let n := ((s.portFrames p).filter fun f => f.launch != 0).length
  if n = 0 then s
  else ((s.count (tpReg p 0x114) n).postHw 0x0709 (w32 p) (w32 n) 0).removeFrames p (fun f => f.launch != 0) 2

/-- Flush the capture FIFO of a TEVT pin. -/
def State.flushFifo (s : State) (k : Nat) (flag : Bool) : State :=
  let s := { s with time := { s.time with fifo := kdel s.time.fifo k } }
  let s := s.setFld (tpReg k 0x21C) 4 0 0
  if flag then s.setBit (tpReg k 0x21C) 9 true else s

/-- What is measured from an instant that the model keeps runs on at a step of the time base, whose change is `d`: ages,
holds, pulses, waits, intervals and transmissions (R304, R339, R249, R271, R261, R364, R426, R434, R468). -/
def State.shiftSince (s : State) (d : Int) : State :=
  let shift := fun (u : Nat) => ((u : Int) + d).toNat
  let s := { s with chip := { s.chip with
    firnStart := shift s.chip.firnStart, drainEnd := shift s.chip.drainEnd, restarts := s.chip.restarts.map shift } }
  let s := { s with mb := { s.mb with
    outstanding := s.mb.outstanding.map fun (o : Outst) => { o with since := shift o.since } } }
  let s := { s with boot := { s.boot with
    rx := s.boot.rx.map fun (r : AvRx) => { r with started := shift r.started }
    tx := s.boot.tx.map fun (p : Nat × AvTx) => (p.1, { p.2 with since := shift p.2.since }) } }
  let s := { s with pwr := { s.pwr with
    switching := s.pwr.switching.map fun (x : DomSwitch) => { x with since := shift x.since }
    rotSince := shift s.pwr.rotSince, thermalAt := s.pwr.thermalAt.map shift } }
  let s := { s with port := { s.port with
    busy := s.port.busy.map fun (p : Nat × Nat) => (p.1, shift p.2)
    addr := s.port.addr.map fun (e : MacEntry) => { e with seen := shift e.seen } } }
  let s := { s with key := { s.key with lfsrAt := s.key.lfsrAt + d } }
  let s := { s with cal := { s.cal with began := s.cal.began + d, edgeAt := s.cal.edgeAt.map fun (u : Int) => u + d } }
  let s := { s with pair := { s.pair with
    activeSince := s.pair.activeSince + d, aliveAt := s.pair.aliveAt + d, resetAt := s.pair.resetAt + d
    ilSince := s.pair.ilSince + d, linkSince := s.pair.linkSince + d, swapAt := s.pair.swapAt + d
    resyncAt := s.pair.resyncAt + d } }
  let s := { s with cyc := { s.cyc with
    subs := s.cyc.subs.map fun (p : Nat × SubRun) => (p.1, { p.2 with since := shift p.2.since }) } }
  { s with mtr := { s.mtr with
    nextEnd := s.mtr.nextEnd.map shift
    pulse := s.mtr.pulse.map fun (p : Nat × PulseRun) => (p.1, { p.2 with stop := shift p.2.stop, next := shift p.2.next }) } }

/-- The step is taken in place of the sum `s` stands at (R293, R294): the new value, TIME_STEP_OLD and _NEW, the frames
with launch times and the capture FIFOs dropped, the state STEPPED (LOCKED with REFSRC 0), the record. -/
def State.takeStep (s : State) (val : W64) (source : Nat) : State :=
  let old := s.time.ns
  let d : Int := (val.toNat : Int) - old.toNat
  let t := s.time
  let s := { s with time := { t with
    ns := val, frac := 0, pendStep := none, lastUpd := t.lastUpd.map fun u => u + d, ppsInAt := t.ppsInAt + d,
    evOut := t.evOut.map (fun (p : Nat × Int) => (p.1, p.2 + d)), ppsOut := t.ppsOut.map fun u => u + d } }
  let s := s.shiftSince d
  let s := { s with solv := { s.solv with runs := s.solv.runs.map fun (p : Nat × SolvRun) =>
    let e := ((old.toNat : Int) - p.2.tStart - (p.2.steps.map fun (q : Nat × Int) => q.2).sum).toNat
    (p.1, { p.2 with steps := p.2.steps ++ [(e, d)] }) } }
  let s := (s.wr64 0x60050 old).wr64 0x60058 val
  -- The next millisecond instant is the first whole millisecond at or after the new value (R409).
  let s := { s with log := { s.log with msNext := (val.toNat + 999999) / 1000000 } }
  -- The next rotation instant keeps its distance (R481).
  let s := if s.rd64 aRotNext = 0 then s else s.wr64 aRotNext (w64 (((s.rd64 aRotNext).toNat : Int) + d).toNat)
  let s := s.setBit 0x60004 5 false
  let s := (List.range 4).foldl State.stepDrop s
  let s := (List.range 4).foldl (fun t k => t.flushFifo k true) s
  let s := s.setTimeState (if s.time.ptp.refsrc = 0 then 2 else 1)
  s.postHw 0x0701 (lo32 old) (lo32 val) (w32 source)

/-- A pending step is taken at the first edge whose sum would make NS reach STEP_AT (R293). -/
def State.stepDue (s : State) : State :=
  match s.time.pendStep with
  | some (at_, val) => ((s.reach at_.toNat).edges 1).takeStep val 0
  | none => s

/-- One TIMECLK edge (R284), or the step in its place (R293). -/
def State.tick (s : State) : State :=
  match s.time.pendStep with
  | some (at_, val) => if (s.edges 1).now ≥ at_.toNat then (s.edges 1).takeStep val 0 else s.edges 1
  | none => s.edges 1

/-- `n` TIMECLK edges. -/
def State.timeEdges (s : State) : Nat → State
  | 0 => s
  | n + 1 => s.tick.timeEdges n

end Sys2Proof.Machine
end

