-- ==== Sys2Proof/Machine/CalOps.lean ====
section
/-! DEFINITION. The calendar: dates, what it counts, alarms, adjustments, captures (10). -/

namespace Sys2Proof.Machine

/-- CAL_STATUS, and register `o` of the CAL block. -/
abbrev aCalStatus : Nat := 0x70008
def calReg (o : Nat) : Nat := 0x70000 + o

/-- Change the calendar's state. -/
def State.setCal (s : State) (f : CalSt → CalSt) : State := { s with cal := f s.cal }

/-! ### Dates (R315) -/

/-- Seconds from 2000-01-01 00:00:00 to the end of 2099. -/
def calSpan : Nat := 36525 * 86400

/-- A number of two digits in BCD, and back. -/
def toBcd (n : Nat) : Nat := n / 10 * 16 + n % 10
def ofBcd (b : Nat) : Nat := b / 16 * 10 + b % 16
/-- Both digits are decimal. -/
def isBcd (b : Nat) : Bool := decide (b % 16 ≤ 9 ∧ b / 16 ≤ 9)

/-- The lengths of the months of year 2000 + `y`. -/
def monthDays (y : Nat) : List Nat := [31, if y % 4 = 0 then 29 else 28, 31, 30, 31, 30, 31, 31, 30, 31, 30, 31]

/-- The month from 1 and the day from 1 of a day of the year, counted from 0 along the months that are left. -/
def splitDay : List Nat → Nat → Nat → Nat × Nat
  | [], m, d => (m, d + 1)
  | n :: rest, m, d => if d < n then (m, d + 1) else splitDay rest (m + 1) (d - n)

/-- Year, month and day of a day number. -/
def dateOf (d : Nat) : Nat × Nat × Nat :=
  let r := d % 1461
  let y := d / 1461 * 4 + (if r < 366 then 0 else (r - 366) / 365 + 1)
  let doy := if r < 366 then r else (r - 366) % 365
  let p := splitDay (monthDays y) 1 doy
  (y, p.1, p.2)

/-- The weekday of a day number, 1 Monday to 7 Sunday: 2000-01-01 was a Saturday. -/
def wdayOf (d : Nat) : Nat := (d + 5) % 7 + 1

/-- The seven fields in BCD, SEC to YEAR with WDAY in fourth place. -/
def fieldsOf (t : Nat) : List Nat :=
  let x := t % 86400
  let (y, m, d) := dateOf (t / 86400)
  [toBcd (x % 60), toBcd (x / 60 % 60), toBcd (x / 3600), wdayOf (t / 86400), toBcd d, toBcd m, toBcd y]

/-- Field `f` of the calendar at a second. -/
def fieldOf (t f : Nat) : Nat := (fieldsOf t).getD f 0

/-- The second of a date and time in BCD; none where R315 has no such value. -/
def secsOf (sec min hour day month year : Nat) : Option Nat :=
  let y := ofBcd year
  let m := ofBcd month
  let d := ofBcd day
  if isBcd sec && isBcd min && isBcd hour && isBcd day && isBcd month && isBcd year && decide (ofBcd sec < 60) &&
      decide (ofBcd min < 60) && decide (ofBcd hour < 24) && decide (1 ≤ m ∧ m ≤ 12) && decide (1 ≤ d) &&
      decide (d ≤ (monthDays y).getD (m - 1) 0) then
    some ((y * 365 + (y + 3) / 4 + ((monthDays y).take (m - 1)).sum + (d - 1)) * 86400 + ofBcd hour * 3600 + ofBcd min * 60 + ofBcd sec)
  else none

/-- The W0 form of R322: SEC, MIN, HOUR, VALID, DST, DST_REPEAT. -/
def State.calW0 (s : State) (b : List Nat) : W32 :=
  w32 (b.getD 0 0 + b.getD 1 0 * 2 ^ 8 + b.getD 2 0 * 2 ^ 16 + b2n (s.bit aCalStatus 0) * 2 ^ 24 + b2n (s.bit aCalStatus 1) * 2 ^ 25 +
    b2n (s.bit aCalStatus 2) * 2 ^ 26)
/-- The W1 form: DAY, MONTH, YEAR, WDAY. -/
def calW1 (b : List Nat) : W32 := w32 (b.getD 4 0 + b.getD 5 0 * 2 ^ 8 + b.getD 6 0 * 2 ^ 16 + b.getD 3 0 % 8 * 2 ^ 24)

/-- VALID. -/
def State.calValid (s : State) : Bool := s.bit aCalStatus 0

/-! ### Alarms (R328 to R330) -/

/-- The value that alarm `k` holds for field `f`. -/
def State.almField (s : State) (k f : Nat) : Nat :=
  let t0 := calReg (0x80 + 16 * k)
  let t1 := calReg (0x84 + 16 * k)
  match f with
  | 0 => s.fld t0 7 0
  | 1 => s.fld t0 15 8
  | 2 => s.fld t0 23 16
  | 3 => s.fld t0 26 24
  | 4 => s.fld t1 7 0
  | 5 => s.fld t1 15 8
  | _ => s.fld t1 23 16

/-- Field `f` is ignored, or has value `v`. -/
def State.almTakes (s : State) (k f v : Nat) : Bool := s.bit (calReg (0x88 + 16 * k)) f || s.almField k f == v

/-- A second matches alarm `k`. -/
def State.almMatches (s : State) (k t : Nat) : Bool := (List.range 7).all fun f => s.almTakes k f (fieldOf t f)

/-- A second of a day, from `lo` to `hi` inclusive, matches alarm `k` in SEC, MIN and HOUR. -/
def State.almTime (s : State) (k lo hi : Nat) : Bool :=
  (List.range 24).any fun h => s.almTakes k 2 (toBcd h) && (List.range 60).any fun m => s.almTakes k 1 (toBcd m) &&
    (List.range 60).any fun x => s.almTakes k 0 (toBcd x) && decide (lo ≤ h * 3600 + m * 60 + x ∧ h * 3600 + m * 60 + x ≤ hi)

/-- A day matches alarm `k` in WDAY, DAY, MONTH and YEAR. -/
def State.almDay (s : State) (k d : Nat) : Bool := [3, 4, 5, 6].all fun f => s.almTakes k f (fieldOf (d * 86400) f)

/-- Some second strictly between two matches alarm `k` (R329). -/
def State.almBetween (s : State) (k old new : Nat) : Bool :=
  decide (old + 1 < new) &&
  (List.range ((new - 1) / 86400 - (old + 1) / 86400 + 1)).any fun j =>
    let d := (old + 1) / 86400 + j
    s.almDay k d && s.almTime k (old + 1 - d * 86400) (if d = (new - 1) / 86400 then (new - 1) % 86400 else 86399)

/-- Alarm `k` fires (R328). -/
def State.fire (s : State) (k : Nat) : State := (s.setBit aCalStatus (8 + k) true).event 12

/-- The alarms at an edge on which the calendar takes `new` (R328), and on a forward adjustment from `old` (R329). -/
def State.alarms (s : State) (old new : Nat) (forward : Bool) : State :=
  if !s.calValid then s
  else [0, 1].foldl (fun t k =>
    if !t.bit (calReg (0x88 + 16 * k)) 8 then t
    else if t.almMatches k new then t.fire k
    else if forward && t.almBetween k old new then
      ((t.fire k).setBit aCalStatus (10 + k) true).postHw 0x0801 (w32 k) (w32 ((t.calW0 (fieldsOf old)).toNat % 2 ^ 24))
        (w32 ((t.calW0 (fieldsOf new)).toNat % 2 ^ 24))
    else t) s

/-! ### What the calendar takes -/

/-- In STATION the group registers show the live calendar (R320); in HEAD they hold the last capture (R321). -/
def State.showCal (s : State) : State :=
  if s.isHead then s
  else (List.range 7).foldl (fun t f => t.wr (calReg (0x10 + 4 * f)) (w32 (fieldOf t.cal.secs f))) s

/-- The calendar takes a value: DST_REPEAT ends at the value of R327. -/
def State.takeSecs (s : State) (t : Nat) : State :=
  let s := if s.cal.repeatAt = some t then (s.setCal fun c => { c with repeatAt := none }).setBit aCalStatus 2 false else s
  (s.setCal fun c => { c with secs := t }).showCal

/-- The second that a roll-over begins (R315). -/
def State.nextSec (s : State) : Nat := if s.cal.secs + 1 = calSpan then 0 else s.cal.secs + 1

/-- The AONCLK edges in `d` ns of the time base, at 32,768 in a second (DESIGN CHOICE, log 83). -/
def aonEdges (d : Int) : Nat := (d * 32768 / 1000000000).toNat

/-- The prescaler's count (R316): AONCLK edges since it restarted, up to the last of the second; while AONCLK has stopped, the
count at which it stands. -/
def State.presc (s : State) : Nat := s.cal.held.getD (min (s.cal.len - 1) (aonEdges ((s.now : Int) - s.cal.began)))

/-- The time passes in which the prescaler counts to the length of the second (R316): AONCLK may run 1,000 ppm fast by the time
base (DESIGN CHOICE, log 83). Where it has stopped, it runs again. -/
def State.countOut (s : State) : State :=
  if s.cal.held.isSome then s else s.reach (s.cal.began + (s.cal.len : Int) * 999000000 / 32768).toNat

/-- A write of CAL_CTRL lands before the AONCLK edge at which one before it has acted: less than a period of AONCLK has passed
(DESIGN CHOICE, log 83). -/
def State.sameEdge (s : State) : Bool := s.cal.edgeAt.any fun (t : Int) => decide ((s.now : Int) - t < 30518)

/-- The prescaler restarts at a roll-over with the length of the second that begins (R316); the century (R315). -/
def State.startSecond (s : State) : State :=
  let trim := (BitVec.ofNat 16 (s.fld 0x70050 15 0)).toInt
  let a := s.cal.acc + trim * 32768
  let k := a.tdiv 10000000
  let s := s.countOut
  let s := s.setCal fun c => { c with
    acc := a - k * 10000000, len := (32768 - k).toNat, began := s.now, held := none, edgeAt := none }
  if s.cal.secs + 1 = calSpan then (s.setBit aCalStatus 4 true).postHw 0x0806 0 0 0 else s

/-- CAL_CAP_NS as latched at this AONCLK edge (R321): the third TIMECLK edge after the first, less 12 ns. -/
def State.latchCap (s : State) : State :=
  let s := s.timeEdges 3
  s.wr64 0x70060 (w64 (s.now - 12))

/-- MTR_ZCCNTs of a source. -/
def State.crossings (s : State) (y : Nat) : Nat := (s.rd (0x5002C + 4 * y)).toNat

/-- The measurement ends without a result. -/
def State.endTrim (s : State) (r : TrimRun) (st : Nat) : State :=
  (s.setCal fun c => { c with meas := none }).finishId r.id st 0 0 0

/-- The window of a measurement opens (R332, R333). -/
def State.openTrim (s : State) (r : TrimRun) : State :=
  if r.source = 2 ∧ s.timeState ≠ 2 then s.endTrim r eState
  else
    let f := kget 0 s.loop.meter (64 * r.source + 22)
    let bad := s.loop.meterBad.contains (64 * r.source + 22) || !dLe (dOfInt 45) f || !dLe f (dOfInt 65)
    if r.lost ∨ (r.source ≠ 2 ∧ bad) then s.endTrim r 0x0101
    else
      let s := s.latchCap
      let x := { r with left := some r.seconds, ns := (s.rd64 0x70060).toNat, zc := s.crossings r.source,
                        fnom := if dLe f (dOfInt 55) then 50 else 60 }
      s.setCal fun c => { c with meas := some x }

/-- A roll-over edge passes for the measurement: it opens, or counts, and at its last edge latches (R332). -/
def State.trimEdge (s : State) : State :=
  match s.cal.meas with
  | none => s
  | some r =>
    match r.left with
    | none => s.openTrim r
    | some 0 => s
    | some (n + 1) =>
      if n = 0 then
        let s := s.latchCap
        let x := { r with left := some 0, endNs := (s.rd64 0x70060).toNat, endZc := s.crossings r.source }
        s.setCal fun c => { c with meas := some x }
      else s.setCal fun c => { c with meas := some { r with left := some n } }

/-- A roll-over edge (R316). -/
def State.rollover (s : State) : State :=
  let old := s.cal.secs
  let new := s.nextSec
  (((s.startSecond).takeSecs new).alarms old new false).trimEdge

/-! ### Commit, shift, capture -/

/-- The second that the staging registers hold, if R323 accepts them. -/
def State.calStaged (s : State) : Option Nat :=
  let f := fun o => s.fld (calReg o) 7 0
  secsOf (f 0x30) (f 0x34) (f 0x38) (f 0x40) (f 0x44) (f 0x48)

/-- A COMMIT acts at an AONCLK edge, on which a roll-over may fall (R323, R327, R329, R330). -/
def State.calCommit (s : State) (roll : Bool) : State :=
  match s.calStaged with
  | none => (if roll then s.rollover else s).setBit aCalStatus 14 true
  | some new =>
    let old := s.cal.secs
    let was := s.calValid
    let w := s.calW0 (fieldsOf old)
    let s := s.setCal fun c => { c with repeatAt := none, began := s.now, held := none, edgeAt := some (s.now : Int) }
    let s := ((s.setBit aCalStatus 2 false).setBit aCalStatus 1 (s.bit 0x7004C 0)).setBit aCalStatus 0 true
    let s := if new < old then s.setBit aCalStatus 3 true else s
    let s := (s.takeSecs new).alarms old new (was && decide (new > old))
    s.postHw 0x0803 w (s.calW0 (fieldsOf new)) (calW1 (fieldsOf new))

/-- The masters that may write the *Cal* fields. -/
def calWriter (m : Master) : Bool := m == .firn || m == .cyc0 || m == .cyc1 || m == .cyc2 || m == .cyc3

/-- The row behind this one is a COMMIT of the same AONCLK edge, since no time passes between two rows without an instant
(DESIGN CHOICE, log 83). -/
def State.commitWins (s : State) : Bool :=
  match s.pending with
  | .calCommit m _ :: _ => calWriter m && (s.regDenied m 0x70004 true).isNone && s.calStaged.isSome
  | _ => false

/-- A shift request is refused (R325), or discarded by a COMMIT of its edge (R326). -/
def State.shiftRefused (s : State) (fwd roll : Bool) : Bool :=
  s.sameEdge || s.commitWins || !s.calValid || s.bit aCalStatus 1 == fwd || (!fwd && decide ((if roll then s.nextSec else s.cal.secs) < 3600))

/-- A shift acts at an AONCLK edge, on which a roll-over may fall (R325, R327, R329). -/
def State.calShift (s : State) (fwd roll : Bool) : State :=
  let old := s.cal.secs
  let s := if roll then s.startSecond else s
  let base := if roll then (if old + 1 = calSpan then 0 else old + 1) else old
  let b := fieldsOf base
  let new := if fwd then (base + 3600) % calSpan else base - 3600
  let s := (s.setBit aCalStatus 1 fwd).setBit aCalStatus 2 (!fwd)
  let s := (s.setCal fun c => { c with secs := new, repeatAt := (if fwd then none else some base), edgeAt := some (s.now : Int) }).showCal
  let s := s.alarms old new fwd
  let s := if roll then s.trimEdge else s
  s.postHw 0x0802 (i32 (if fwd then 1 else -1)) (w32 (b.getD 2 0)) (w32 (b.getD 4 0 + 256 * b.getD 5 0))

/-- A shift request through CAL_CTRL (R325). -/
def State.askShift (s : State) (fwd roll : Bool) : State :=
  if s.shiftRefused fwd roll then (if roll then s.rollover else s).setBit aCalStatus 13 true else s.calShift fwd roll

/-- CAPTURE in HEAD (R321): the fields and the prescaler's count after any roll-over on the edge, and the time base. -/
def State.calCapture (s : State) (roll : Bool) : State :=
  if !s.isHead then (if roll then s.rollover else s)
  else
    let s := if roll then s.rollover else s
    let s := (List.range 7).foldl (fun t f => t.wr (calReg (0x10 + 4 * f)) (w32 (fieldOf t.cal.secs f))) s
    ((s.wr 0x70068 (w32 s.presc)).latchCap).setBit aCalStatus 12 true

/-- The seven bytes that a master reads from the group (R320, R321). -/
def State.groupBytes (s : State) (m : Nat) : Bytes :=
  (kfind s.cal.shadows m).getD ((List.range 7).map fun f => BitVec.ofNat 8 (s.fld (calReg (0x10 + 4 * f)) 7 0))

/-- A master's shadow is free again (R320). -/
def State.freeShadow (s : State) (m : Nat) : State := s.setCal fun c => { c with shadows := kdel c.shadows m }

/-- A group register is read by a master (R320, R321): the byte it returns, and the state after it. -/
def State.readGroup (s : State) (m f : Nat) : Byte × State :=
  let b := s.groupBytes m
  let s := if s.isHead then s else if f = 6 then s.freeShadow m else s.setCal fun c => { c with shadows := kset c.shadows m b }
  (b.getD f 0, s)

/-- A command of Firn completes after the edge at which its request has acted: a later write lands behind it (R324). -/
def State.pastEdge (s : State) : State := s.setCal fun c => { c with edgeAt := none }

end Sys2Proof.Machine
end

