-- ==== Sys2Proof/Machine/Cal.lean ====
section
/-! DEFINITION. The CAL class commands and the events of the calendar clock (10). -/

namespace Sys2Proof.Machine

/-- CAL_READ (R322). -/
def execCalRead (i : Issue) (s : State) : Out :=
  .next (s.hostCmd { op := 0x0801, plen := 0 } i fun s =>
    let s := if s.isHead then s.calCapture i.env.roll else s
    let b := (s.groupBytes 0).map fun x => x.toNat
    let s := if s.isHead then s else s.freeShadow 0
    s.complete i eOk (s.calW0 b) (calW1 b) (if s.isHead then s.rd 0x70060 else 0))

/-- Byte `k` of a value of eight bytes. -/
def byteOf (v : W64) (k : Nat) : Nat := v.toNat / 256 ^ k % 256

/-- CAL_WRITE (R324). -/
def execCalWrite (i : Issue) (values : W64) (commit : Byte) (s : State) : Out :=
  .next (s.hostCmd { op := 0x0802, plen := 9 } i fun s =>
    let f := byteOf values
    s.checked i [((secsOf (f 0) (f 1) (f 2) (f 4) (f 5) (f 6)).isNone || f 3 != 0 || decide (f 7 > 1 ∨ commit.toNat > 1), eParam)]
      fun s =>
        let s := s.wrAll [(0x70030, w32 (f 0)), (0x70034, w32 (f 1)), (0x70038, w32 (f 2)), (0x70040, w32 (f 4)),
                          (0x70044, w32 (f 5)), (0x70048, w32 (f 6)), (0x7004C, w32 (f 7))]
        (if commit = 1 then (s.calCommit i.env.roll).pastEdge else s).done i eOk)

/-- CAL_DST_SHIFT (R325, R326). -/
def execCalDstShift (i : Issue) (direction : Byte) (s : State) : Out :=
  .next (s.hostCmd { op := 0x0803, plen := 1 } i fun s =>
    s.checked i [(direction != 1 && direction != 0xFF, eParam)] fun s =>
      let fwd := direction == 1
      let no := s.shiftRefused fwd i.env.roll
      ((s.askShift fwd i.env.roll).pastEdge).done i (if no then eState else eOk))

/-- A field of an alarm lies in R315's range. -/
def almInRange (f v : Nat) : Bool :=
  let n := ofBcd v
  isBcd v && match f with
    | 0 => decide (n < 60)
    | 1 => decide (n < 60)
    | 2 => decide (n < 24)
    | 3 => decide (1 ≤ n ∧ n ≤ 7)
    | 4 => decide (1 ≤ n ∧ n ≤ 31)
    | 5 => decide (1 ≤ n ∧ n ≤ 12)
    | _ => true

/-- CAL_ALARM_SET (R331). -/
def execCalAlarmSet (i : Issue) (alarm : Byte) (values : W64) (mask : Byte) (s : State) : Out :=
  .next (s.hostCmd { op := 0x0804, plen := 10 } i fun s =>
    let k := alarm.toNat
    let v := byteOf values
    let used := fun f => !mask.getLsbD f
    let dateBad := used 4 && used 5 && decide (ofBcd (v 4) > (monthDays 0).getD (ofBcd (v 5) - 1) 0)
    s.checked i [(decide (k > 1 ∨ v 7 > 1) || mask.getLsbD 7, eParam),
                 ((List.range 7).any (fun f => used f && !almInRange f (v f)) || dateBad, eParam)] fun s =>
      let s := s.wrAll [(calReg (0x80 + 16 * k), w32 (v 0 + v 1 * 2 ^ 8 + v 2 * 2 ^ 16 + v 3 % 8 * 2 ^ 24)),
                        (calReg (0x84 + 16 * k), w32 (v 4 + v 5 * 2 ^ 8 + v 6 * 2 ^ 16)),
                        (calReg (0x88 + 16 * k), w32 (mask.toNat + v 7 * 256))]
      ((s.setBit aCalStatus (8 + k) false).setBit aCalStatus (10 + k) false).done i eOk)

/-- CAL_TRIM_MEASURE (R332, R333): a mains frequency that is BAD when it starts loses the reference. -/
def execCalTrimMeasure (i : Issue) (source : Byte) (seconds : W16) (s : State) : Out :=
  .next (s.hostCmd { op := 0x0805, plen := 3, async := true } i fun s =>
    s.checked i [(decide (source.toNat > 2 ∨ seconds.toNat < 10), eParam), (!s.calValid || s.cal.meas.isSome, eState)] fun s =>
      let lost := source != 2 && s.loop.meterBad.contains (64 * source.toNat + 22)
      let r : TrimRun := { id := s.mb.serial, source := source.toNat, seconds := seconds.toNat, lost := lost }
      (s.startAsync (.calTrimMeasure i source seconds) i).setCal fun c => { c with meas := some r })

/-- CAL_TRIM_SET (R316, R333). -/
def execCalTrimSet (i : Issue) (trim : W16) (s : State) : Out :=
  .next (s.hostCmd { op := 0x0806, plen := 2 } i fun s =>
    s.checked i [(decide (trim.toInt < -5000 ∨ trim.toInt > 5000), eParam)] fun s =>
      let old := (BitVec.ofNat 16 (s.fld 0x70050 15 0)).toInt
      let s := s.wr 0x70050 (w32 trim.toNat)
      (s.postFirn 0x0805 (i32 old) (i32 trim.toInt) (i32 s.cal.lastE)).done i eOk)

/-- CALENDAR_ROLLOVER (R316). -/
def execCalendarRollover (s : State) : Out := .next s.rollover

/-- A write of CAL_CTRL, on whose edge a second may roll over (`roll`): what it asks for, where the master may write it. -/
def State.atCal (s : State) (m : Master) (roll : Bool) (body : State → State) : State :=
  let other := fun (t : State) => if roll then t.rollover else t
  s.atReg m 0x70004 (fun s => if calWriter m then body s else other s) other

/-- CAL_COMMIT (R323): open to FIRN and CYC0 to CYC3. -/
def execCalCommit (master : Master) (roll : Bool) (s : State) : Out :=
  .next (s.atCal master roll fun s => s.calCommit roll)

/-- CAL_CAPTURE (R321): in STATION it is ignored. -/
def execCalCapture (master : Master) (roll : Bool) (s : State) : Out :=
  .next (s.atCal master roll fun s => s.calCapture roll)

/-- DST_FWD (R325). -/
def execDstFwd (master : Master) (roll : Bool) (s : State) : Out :=
  .next (s.atCal master roll fun s => s.askShift true roll)

/-- DST_BACK (R325). -/
def execDstBack (master : Master) (roll : Bool) (s : State) : Out :=
  .next (s.atCal master roll fun s => s.askShift false roll)

/-- CAL_GROUP_READ (R320, R321). -/
def execCalGroupRead (master : Master) (field : Byte) (s : State) : Out :=
  .next (if field.toNat > 6 then s else s.atRead master (0x70010 + 4 * field.toNat) fun s =>
    let p := s.readGroup (masterId master) field.toNat
    p.2.answer [p.1, 0, 0, 0])

/-- SHADOW_RELEASE (R320): 600,000 FABCLK after the freeze. -/
def execShadowRelease (master : Master) (s : State) : Out := .next (s.freeShadow (masterId master))

/-- TRIM_WINDOW_CLOSE (R332): once the last roll-over edge of the window has passed, the error is computed. A quotient
whose divisor is not positive has no stated value; it is free (DESIGN CHOICE, log 4). -/
def execTrimWindowClose (s : State) : Out :=
  .next (match s.cal.meas with
    | some r =>
      if r.left ≠ some 0 then s
      else if r.lost then s.endTrim r 0x0101
      else
        let n : Int := if r.source = 2 then (r.endNs : Int) - r.ns else (((r.endZc + 2 ^ 32 - r.zc) % 2 ^ 32 : Nat) : Int)
        let want : Int := if r.source = 2 then (r.seconds : Int) * 1000000000 else (r.seconds : Int) * r.fnom
        let x := (want - n) * 10000000
        let m := (2 * x.natAbs + n.toNat) / (2 * n.toNat)
        let e : Int := if n ≤ 0 then s.drawn.toInt else if x < 0 then -(m : Int) else m
        let s := if n ≤ 0 then s.draw else s
        (s.setCal fun c => { c with meas := none, lastE := e }).finishId r.id eOk (i32 e) 0 0
    | none => s)

/-- OSCSTOP (R318): VALID clears, and with it a trim measurement ends. The prescaler stands at the count of 1 ms ago, since when no
AONCLK edge has come. -/
def execOscstop (s : State) : Out :=
  .next (
    let n := s.cal.held.getD (min (s.cal.len - 1) (aonEdges ((s.now : Int) - s.cal.began - 1000000)))
    let s := ((s.setBit aCalStatus 0 false).setBit aCalStatus 5 true).setCal fun c => { c with newLoss := 1, held := some n }
    match s.cal.meas with
    | some r => s.endTrim r eState
    | none => s)

/-- VBAT_MEASURE (R319): made while either feed is present. -/
def execVbatMeasure (low : Bool) (s : State) : Out :=
  .next (if s.bit 0x90030 0 || s.bit 0x90030 1 then s.setBit aCalStatus 7 low else s)

end Sys2Proof.Machine
end

