-- ==== Sys2Proof/Machine/Ecdsa.lean ====
section
/-! DEFINITION. Verification of an ECDSA P-256 signature over SHA-256 (FIPS 186-5, SP 800-186): the signatures of containers
(15, R421) and of debug responses (16, R465). Points are Jacobian: (X, Y, Z) with Z = 0 for the point at infinity, the
coordinates packed into one number of three 256-bit fields. -/

namespace Sys2Proof.Machine

/-- The field, the order of the group, the constant term of the curve and its generator. -/
def ecP : Nat := 2 ^ 256 - 2 ^ 224 + 2 ^ 192 + 2 ^ 96 - 1
def ecN : Nat := 2 ^ 256 - 2 ^ 224 + 2 ^ 192 - 0x4319055258E8617B0C46353D039CDAAF
def ecB : Nat := 0x5AC635D8AA3A93E7B3EBBD55769886BC651D06B0CC53B0F63BCE3C3E27D2604B
def ecGx : Nat := 0x6B17D1F2E12C4247F8BCE6E563A440F277037D812DEB33A0F4A13945D898C296
def ecGy : Nat := 0x4FE342E2FE1A7F9B8EE7EB4A7C0F9E162BCE33576B315ECECBB6406837BF51F5

/-- A point from its coordinates, and the coordinates of a point. -/
def ecPack (x y z : Nat) : Nat := (x * 2 ^ 256 + y) * 2 ^ 256 + z
def ecX (q : Nat) : Nat := q / 2 ^ 256 / 2 ^ 256
def ecY (q : Nat) : Nat := q / 2 ^ 256 % 2 ^ 256
def ecZ (q : Nat) : Nat := q % 2 ^ 256

/-- Difference in the field. -/
def ecSub (a b : Nat) : Nat := (a + (ecP - b % ecP)) % ecP

/-- Twice a point. -/
def ecDouble (q : Nat) : Nat :=
  let d := ecZ q * ecZ q % ecP
  let g := ecY q * ecY q % ecP
  let b := ecX q * g % ecP
  let a := 3 * ecSub (ecX q) d * (ecX q + d) % ecP
  let x := ecSub (a * a) (8 * b)
  ecPack x (ecSub (a * ecSub (4 * b) x) (8 * g * g)) (ecSub ((ecY q + ecZ q) * (ecY q + ecZ q)) (g + d))

/-- The sum of two points. -/
def ecAdd (p q : Nat) : Nat :=
  if ecZ p = 0 then q
  else if ecZ q = 0 then p
  else
    let a := ecZ p * ecZ p % ecP
    let b := ecZ q * ecZ q % ecP
    let u := ecX p * b % ecP
    let s := ecY p * b % ecP * ecZ q % ecP
    let h := ecSub (ecX q * a) u
    let r := ecSub (ecY q * a % ecP * ecZ p) s
    if h = 0 then (if r = 0 then ecDouble p else 0)
    else
      let hh := h * h % ecP
      let hhh := h * hh % ecP
      let x := ecSub (r * r) (hhh + 2 * u * hh)
      ecPack x (ecSub (r * ecSub (u * hh) x) (s * hhh)) (h * ecZ p % ecP * ecZ q % ecP)

/-- `a` times `p` plus `b` times `q`, over the `n` most significant of 256 bits; `both` is `p` plus `q`. -/
def ecMix (a b p q both : Nat) : Nat → Nat
  | 0 => 0
  | n + 1 =>
    let acc := ecDouble (ecMix a b p q both n)
    match a.testBit (255 - n), b.testBit (255 - n) with
    | true, true => ecAdd acc both
    | true, false => ecAdd acc p
    | false, true => ecAdd acc q
    | false, false => acc

/-- `a` to the power of the `n` most significant of the 256 bits of `e`, modulo the order of the group. -/
def ecPow (a e : Nat) : Nat → Nat
  | 0 => 1
  | n + 1 =>
    let x := ecPow a e n
    if e.testBit (255 - n) then x * x % ecN * a % ecN else x * x % ecN

/-- A signature, r then s of 32 bytes each, of a run of bytes verifies under a public key, X then Y. -/
def ecdsaOk (key msg sig : Bytes) : Bool :=
  let x := beNat (key.take 32)
  let y := beNat (sliceB key 32 32)
  let r := beNat (sig.take 32)
  let s := beNat (sliceB sig 32 32)
  key.length == 64 && sig.length == 64 && decide (0 < r ∧ r < ecN ∧ 0 < s ∧ s < ecN ∧ x < ecP ∧ y < ecP) &&
  y * y % ecP == ecSub (x * x * x + ecB) (3 * x) &&
  (let w := ecPow s (ecN - 2) 256
   let g := ecPack ecGx ecGy 1
   let q := ecPack x y 1
   let k := ecMix (beNat (sha256 msg) * w % ecN) (r * w % ecN) g q (ecAdd g q) 256
   let z := ecZ k * ecZ k % ecP
   ecZ k != 0 && (r * z % ecP == ecX k || (decide (r + ecN < ecP) && (r + ecN) * z % ecP == ecX k)))

end Sys2Proof.Machine
end

