-- ==== Sys2Proof/Machine/KeyOps.lean ====
section
/-! DEFINITION. The key tree of the Guard: slots, validity, generations, and what an invalidation ends elsewhere
(16, R451 to R460). -/

namespace Sys2Proof.Machine

/-- An empty slot (R456). -/
def emptySlot : KeySlot :=
  { key := List.replicate 32 0, parent := 0, depth := 0, usage := 0, gen := 0, pgen := 0, valid := false, bad := false,
    fixed := false }

/-- Slot `n`. -/
def State.slot (s : State) (n : Nat) : KeySlot := (kfind s.key.slots n).getD emptySlot

/-- Set slot `n`. -/
def State.setSlot (s : State) (n : Nat) (k : KeySlot) : State :=
  { s with key := { s.key with slots := kset s.key.slots n k } }

/-- A slot is valid (R453), looking at most `f` parents up: depth 8 needs 9. -/
def State.validUp (s : State) : Nat → Nat → Bool
  | 0, _ => false
  | f + 1, n =>
    let k := s.slot n
    k.valid && !k.bad && (n == 0 || (s.validUp f k.parent && k.pgen == (s.slot k.parent).gen))

/-- A slot is valid (R453). -/
def State.slotValid (s : State) (n : Nat) : Bool := s.validUp 10 n

/-- Slot `a` is an ancestor of slot `n`, looking at most `f` parents up. -/
def State.ancestorUp (s : State) (a : Nat) : Nat → Nat → Bool
  | 0, _ => false
  | f + 1, n => n != 0 && (s.slot n).valid && ((s.slot n).parent == a || s.ancestorUp a f (s.slot n).parent)

/-- The slots that descend from slot `a`. -/
def State.descendants (s : State) (a : Nat) : List Nat := ((List.range 128).filter fun n => s.ancestorUp a 10 n)

/-- The derivation record of slot `n` stands under slot `a`, looking at most `f` parents up. -/
def recordUnder (l : List DerivRec) (a : Nat) : Nat → Nat → Bool
  | 0, _ => false
  | f + 1, n => l.any fun r => r.target == n && (r.parent == a || recordUnder l a f r.parent)

/-- The descendants of slot `a` that are valid. -/
def State.validDescendants (s : State) (a : Nat) : Nat := ((s.descendants a).filter s.slotValid).length

/-- A port's transmit SA, if one is installed. -/
def State.txSa (s : State) (p : Nat) : Option MacSa := s.port.sas.find? fun a => a.port == p && a.dir == 0

/-- Show a port's SAs in PORT_Pp_SEC, PORT_Pp_STAT.SECON and PORT_Pp_TXPN. -/
def State.showSas (s : State) (p : Nat) : State :=
  let rx := ((s.port.sas.filter fun a => a.port == p && a.dir == 1 && !a.dead).map fun a => 2 ^ (a.an % 4)).sum
  let s := s.setFld (pReg p 0x12C) 7 4 rx
  match s.txSa p with
  | some a => ((s.setFld (pReg p 0x12C) 1 0 a.an).setBit (pReg p 0x104) 4 (!a.dead)).wr64 (pReg p 0x130) (w64 a.pn)
  | none => s.setBit (pReg p 0x104) 4 false

/-- The SA's key slot has become invalid (R354): the SA stops, a frame in transmission ends with an inverted FCS, and
an SA_REVOKED record names it. -/
def State.revokeSa (s : State) (a : MacSa) : State :=
  let s := { s with port := { s.port with
    sas := s.port.sas.map fun b => if b = a then { b with dead := true } else b } }
  let s := if a.dir = 0 then s.cutFrame a.port else s
  let s := (s.setBit (pReg a.port 0x12C) 9 true).showSas a.port
  s.postHw 0x0905 (w32 a.port) (w32 a.dir) (w32 a.an)

/-- A seal in flight whose slot is invalid stops; its command completes with E_REVOKED (R417, R459). -/
def State.stopSeals (s : State) : State :=
  let gone := s.log.seals.filter fun q => !s.slotValid q.slot
  let s := { s with log := { s.log with seals := s.log.seals.filter fun q => s.slotValid q.slot } }
  gone.foldl (fun t q => t.finishId q.id eRevoked 0 0 0) s

/-- After a change of a slot (R453, R458): the key material of invalid slots is zeroed, the SAs and operations that use
them stop (R354, R459). -/
def State.settleKeys (s : State) : State :=
  let bad := (List.range 128).filter fun n => !s.slotValid n && (s.slot n).valid
  let s := bad.foldl (fun t n => t.setSlot n { t.slot n with key := List.replicate 32 0 }) s
  let dead := s.port.sas.filter fun a => !a.dead && !s.slotValid a.slot
  (dead.foldl State.revokeSa s).stopSeals

/-- The labels of the fixed slots: "UBMS-DEC" and "UBMS-AVL" (R452). -/
def labelDec : Bytes := [0x55, 0x42, 0x4D, 0x53, 0x2D, 0x44, 0x45, 0x43]
def labelAvl : Bytes := [0x55, 0x42, 0x4D, 0x53, 0x2D, 0x41, 0x56, 0x4C]

/-- Fill a slot with a key derived from its parent (R451, R455): it keeps its own GEN. -/
def State.deriveInto (s : State) (target parent : Nat) (usage : Byte) (label : Bytes) (fixed : Bool) : State :=
  let p := s.slot parent
  s.setSlot target { key := deriveKey p.key label usage (p.depth + 1), parent := parent, depth := p.depth + 1,
                     usage := usage, gen := (s.slot target).gen, pgen := p.gen, valid := true, bad := (s.slot target).bad,
                     fixed := fixed }

/-- The Guard derives slots 1 and 2 (R452); without a valid root they are empty. -/
def State.deriveFixed (s : State) : State :=
  if s.slotValid 0 then
    let s := if (s.slot 1).bad then s else s.deriveInto 1 0 0x04 labelDec true
    if (s.slot 2).bad then s else s.deriveInto 2 0 0x05 labelAvl true
  else
    let s := s.setSlot 1 { emptySlot with bad := (s.slot 1).bad }
    s.setSlot 2 { emptySlot with bad := (s.slot 2).bad }

/-- A slot's generation goes up by one; past 0xFF_FFFF the slot is marked BAD instead (R458). -/
def bumpGen (k : KeySlot) : KeySlot := if k.gen ≥ 0xFFFFFF then { k with bad := true } else { k with gen := k.gen + 1 }

/-- Two draws of the Guard's random generator: the challenge of R465, a free value (DESIGN CHOICE, log 4). -/
def State.newChallenge (s : State) : State :=
  let a := s.drawn
  let s := s.draw
  let b := s.drawn
  let s := s.draw
  { s with key := { s.key with challenge := leBytes 8 a.toNat ++ leBytes 8 b.toNat } }

/-- One advance of the mesh LFSR (R462), x^16 + x^14 + x^13 + x^11 + 1: the feedback enters at bit 0. -/
def lfsrStep (x : W16) : W16 :=
  (x <<< 1) ||| (if ((x.getLsbD 15 ^^ x.getLsbD 13) ^^ x.getLsbD 12) ^^ x.getLsbD 10 then 1 else 0)

/-- `n` advances of the mesh LFSR. -/
def lfsrAfter (x : W16) : Nat → W16
  | 0 => x
  | n + 1 => lfsrAfter (lfsrStep x) n

/-- The level of TAMP_DRV after `n` advances (R462): the LFSR's output is its highest bit (DESIGN CHOICE, log 84). -/
def State.meshBit (s : State) (n : Nat) : Bool := (lfsrAfter s.key.lfsr n).getLsbD 15

/-- PD0 AON gains power (R462): the mesh LFSR takes a seed of the Guard's random generator, a free value. -/
def State.seedMesh (s : State) : State :=
  { s.draw with key := { s.key with lfsr := BitVec.ofNat 16 s.drawn.toNat, lfsrAt := s.now } }

end Sys2Proof.Machine
end

