-- ==== Sys2Proof/Machine/Container.lean ====
section
/-! DEFINITION. The Ubmesa container: its table layout, its digests and its decryption (15, R419 to R423). -/

namespace Sys2Proof.Machine

/-- A section entry (R419). -/
structure Section where
  idx : Nat
  ty : Nat
  enc : Bool
  off : Nat
  len : Nat
  digest : Bytes
  tag : Bytes
  deriving DecidableEq, Repr

/-- The header fields of a container (R419). -/
def cLength (b : Bytes) : Nat := leAt b 8 4
def cVersion (b : Bytes) : Nat := leAt b 12 4
def cSvn (b : Bytes) : Nat := leAt b 16 4
def cCfgFormat (b : Bytes) : Nat := leAt b 20 2
def cKeyId (b : Bytes) : Nat := leAt b 22 1
def cNsect (b : Bytes) : Nat := leAt b 23 1
def cFlags (b : Bytes) : Byte := b.getD 7 0

/-- Entry `i` of the section table. -/
def cSection (b : Bytes) (i : Nat) : Section :=
  let e := sliceB b (64 + 64 * i) 64
  { idx := i, ty := leAt e 0 1, enc := (e.getD 1 0).getLsbD 0, off := leAt e 4 4, len := leAt e 8 4,
    digest := sliceB e 16 32, tag := sliceB e 48 16 }

/-- The section table. -/
def cSections (b : Bytes) : List Section := (List.range (cNsect b)).map (cSection b)

/-- A run of bytes is 0. -/
def zeroB (b : Bytes) (o n : Nat) : Bool := (List.range n).all fun i => b.getD (o + i) 0 == 0

/-- The reserved bytes of a section entry are 0, and its TAG is 0 without ENC (R419). -/
def entryClean (b : Bytes) (i : Nat) : Bool :=
  let e := sliceB b (64 + 64 * i) 64
  decide ((e.getD 1 0).toNat < 2) && zeroB e 2 2 && zeroB e 12 4 && ((e.getD 1 0).getLsbD 0 || zeroB e 48 16)

/-- Sections from `at_` on lie in ascending OFFSET without overlap, bytes between them are 0, and all end at `stop`
(R420). -/
def sectionsLie (b : Bytes) (stop : Nat) : Nat → List Section → Bool
  | at_, [] => decide (at_ ≤ stop) && zeroB b at_ (stop - at_)
  | at_, x :: t =>
    decide (at_ ≤ x.off) && x.off % 64 == 0 && decide (x.off + x.len ≤ stop) && zeroB b at_ (x.off - at_) &&
      sectionsLie b stop (x.off + x.len) t

/-- Step 1 of R423: MAGIC, FORMAT, KIND and the table layout of R419 and R420. `top` bounds LENGTH; `types` are the
section types, `needed` those required. -/
def cLayout (b : Bytes) (kind top : Nat) (types needed : List Nat) : Bool :=
  let l := cLength b
  let n := cNsect b
  let ss := cSections b
  sliceB b 0 4 == [0x55, 0x42, 0x4D, 0x53] && leAt b 4 2 == 1 && leAt b 6 1 == kind &&
  ((cFlags b) &&& 0xF9) == 0 && l % 64 == 0 && decide (192 ≤ l ∧ l ≤ top) && decide (l ≤ b.length) &&
  cVersion b != 0 && decide (cKeyId b ≤ 1) && decide (1 ≤ n ∧ n ≤ 32) && zeroB b 34 30 &&
  (kind == 1 || (cCfgFormat b == 0 && leAt b 32 2 == 0)) && decide (64 + 64 * n + 64 ≤ l) &&
  ((List.range n).all (entryClean b)) && sectionsLie b (l - 64) (64 + 64 * n) ss &&
  ss.all (fun x => types.contains x.ty) && needed.all (fun k => ss.any fun x => x.ty == k)

/-- Each section type stands at most once. -/
def cOnce (b : Bytes) : Bool := decide ((cSections b).map fun x => x.ty).Nodup

/-- Step 2 of R423: FLAGS allows the personality: [1] HEAD, [2] STATION. -/
def cAllows (flags : Byte) (head : Bool) : Bool := flags.getLsbD (if head then 1 else 2)

/-- The stored bytes of a section. -/
def cStored (b : Bytes) (x : Section) : Bytes := (b.drop x.off).take x.len

/-- Step 5 of R423: SIGNATURE is that of bytes 0 to LENGTH - 65 under the key that KEYID selects of the two in Bedrock's ROM
(R421). -/
def cSigned (keys : List Bytes) (b : Bytes) : Bool :=
  let n := cLength b - 64
  ecdsaOk (keys.getD (cKeyId b) []) (b.take n) (sliceB b n 64)

/-- Step 6 of R423: every DIGEST matches. -/
def cDigests (b : Bytes) : Bool := (cSections b).all fun x => sha256 (cStored b x) == x.digest

/-- The IV of a section (R422). -/
def cIv (b : Bytes) (x : Section) : Bytes := sliceB b 24 8 ++ beBytes 4 (x.idx + 1)

/-- Step 7 of R423 under an image-decryption key: every GCM tag matches. -/
def cTags (ks : List Bytes) (b : Bytes) : Bool :=
  (cSections b).all fun x => !x.enc || gcmTag ks (cIv b x) (sliceB b (64 + 64 * x.idx) 16) (cStored b x) == x.tag

/-- The plaintext of a section (R422). -/
def cPlain (ks : List Bytes) (b : Bytes) (x : Section) : Bytes :=
  let m := cStored b x
  if x.enc then xorB m (gcmStream ks (cIv b x) m) else m

/-- The round keys of the image-decryption key, slot 1 (R452). -/
def State.decKeys (s : State) : List Bytes := aesKeys (s.slot 1).key

/-- The Guard can decrypt a container: it has no encrypted section, or slot 1 is valid (R453, R464). -/
def State.canDecrypt (s : State) (b : Bytes) : Bool := ((cSections b).all fun x => !x.enc) || s.slotValid 1

/-- The GCM tags of a container hold; with no valid slot 1 an encrypted section cannot be checked (R464). -/
def State.cTagsOk (s : State) (b : Bytes) : Bool := s.canDecrypt b && cTags s.decKeys b

/-- A slot image's layout: KIND 1, at most 6 MB, section types 1 to 7 with 1 to 5 required, each at most once. -/
def imageLayout (b : Bytes) : Bool := cLayout b 1 0x600000 [1, 2, 3, 4, 5, 6, 7] [1, 2, 3, 4, 5] && cOnce b

end Sys2Proof.Machine
end

