-- ==== Sys2Proof/Machine/LogOps.lean ====
section
/-! DEFINITION. The engine of the Strata log: records, the ring, rate limits, the intake, flushes and seals (14). -/

namespace Sys2Proof.Machine

/-- The next sequence number (R405). -/
def State.logNext (s : State) : Nat := (s.rd64 0xB0010).toNat
/-- Records in the ring that no flush has copied (R412). -/
def State.unflushed (s : State) : Nat := s.logNext - s.log.tail
/-- The shared SRAM address of the ring position of record `q` (R412). -/
def State.ringAddr (s : State) (q : Nat) : Nat := (s.rd 0xB0024).toNat + 32 * (q % 4096)
/-- The MRAM address of the slot of record `q` (R412). -/
def mramAddr (q : Nat) : Nat := 0x11200000 + 32 * (q % 262144)

/-- Codes of classes FAULT and LOG are exempt from the rate limits (R409). -/
def exempt (code : Nat) : Bool := code / 256 == 0x0B || code / 256 == 0x0C

/-- The 32 bytes of a record (R404). -/
def logRecord (code seq : Nat) (src : Master) (tunset : Bool) (rsat : Bool) (rep : Nat) (time : W64) (p0 p1 p2 : W32) :
    Bytes :=
  let b := leBytes 2 code ++
    leBytes 1 (masterId src + b2n tunset * 16 + b2n (exempt code) * 32 + b2n rsat * 64) ++ leBytes 1 rep ++
    leBytes 4 seq ++ leBytes 8 time.toNat ++ leBytes 4 p0.toNat ++ leBytes 4 p1.toNat ++ leBytes 4 p2.toNat
  b ++ leBytes 4 (crc32c b)

/-- The engine writes a record into the ring under the next sequence number (R405, R412). -/
def State.putRecord (s : State) (code : Nat) (src : Master) (tunset : Bool) (time : W64) (p0 p1 p2 : W32) : State :=
  let q := s.logNext
  let s := s.wrMem (s.ringAddr q) (logRecord code q src tunset false 0 time p0 p1 p2)
  let s := s.wr64 0xB0010 (w64 (q + 1))
  { s with log := { s.log with written := true, oldest := some (s.log.oldest.getD q) } }

/-- A record of the engine's own (R407): SOURCE HWENG, time of now. -/
def State.ownRecord (s : State) (code : Nat) (p0 p1 p2 : W32) : State :=
  s.putRecord code .hweng (s.timeState == 0) s.time.ns p0 p1 p2

/-- The LOST record (R408), when postings have been lost and the ring has a position. -/
def State.writeLost (s : State) : State :=
  if s.log.unset || s.log.lostPend == 0 || decide (s.unflushed ≥ 4096) then s
  else
    let l := s.log
    let s := s.putRecord 0x0C01 .hweng l.lostTunset l.lostTime (w32 l.lostPend)
      (w32 (l.lostCode.toNat + masterId l.lostSource * 0x10000)) (s.rd 0xB0020)
    ({ s with log := { s.log with lostPend := 0 } } : State).event 11

/-! ### Rate entries (R409 to R411) -/

/-- The entry that a limited code has, among entries 0 to 1,022. -/
def State.rateOf (s : State) (code : Nat) : Option Nat :=
  (s.regs.find? fun p => decide (0xB1000 ≤ p.1 ∧ p.1 < 0xB1000 + 8 * 1023) && (p.1 - 0xB1000) % 8 == 0 &&
    p.2 == w32 (0x80000000 + code)).map fun p => (p.1 - 0xB1000) / 8

/-- The lowest of entries 0 to 1,022 that no code has. -/
def State.rateFree (s : State) : Option Nat := (List.range 1023).find? fun e => !s.bit (0xB1000 + 8 * e) 31

/-- RATE and BURST of an entry. -/
def State.rateLim (s : State) (e : Nat) : Nat × Nat := (s.fld (0xB1004 + 8 * e) 9 0, s.fld (0xB1004 + 8 * e) 23 16)

/-- An entry as it starts: full (R409). -/
def fullEntry (burst : Nat) : RateEntry :=
  { tokens := burst * 1000, lastSeq := none, suppressed := 0, suppCode := 0, suppSource := .firn, suppP0 := 0,
    suppTime := 0, suppTunset := false }

/-- The counts of an entry. -/
def State.rateEntry (s : State) (e : Nat) : RateEntry := (kfind s.log.rates e).getD (fullEntry (s.rateLim e).2)

/-- Set the counts of an entry. -/
def State.setRate (s : State) (e : Nat) (r : RateEntry) : State :=
  { s with log := { s.log with rates := kset s.log.rates e r } }

/-- Give a free entry to a code (R409): entry 1,023 serves the codes that get none. -/
def State.takeRate (s : State) (code : Nat) : State × Nat :=
  match s.rateOf code with
  | some e => (s, e)
  | none =>
    match s.rateFree with
    | some e =>
      let s := s.wr (0xB1000 + 8 * e) (w32 (0x80000000 + code))
      (s.setRate e (fullEntry (s.rateLim e).2), e)
    | none => (s, 1023)

/-- Set the limits of an entry; the token count is capped at the new BURST (R411). -/
def State.setLimits (s : State) (e rate burst : Nat) : State :=
  let r := s.rateEntry e
  (s.wr (0xB1004 + 8 * e) (w32 (rate + burst * 65536))).setRate e { r with tokens := min r.tokens (burst * 1000) }

/-- Limits for a code (R409, R411): those of the entry it has, or of a new one, which starts full. -/
def State.limitCode (s : State) (code rate burst : Nat) : State :=
  let had := (s.rateOf code).isSome
  let (s, e) := s.takeRate code
  let s := s.setLimits e rate burst
  if had then s else s.setRate e (fullEntry burst)

/-! ### Intake (R407 to R410) -/

/-- Complete the LOG_WRITE that waits for a posting's record (R418). -/
def State.tellWriter (s : State) (p : Posting) (w0 : W32) : State :=
  match p.waiter with
  | some i => (s.complete i eOk w0 0 0).settleSrc i.src
  | none => s

/-- Write the posting's record, and tell the LOG_WRITE that waits for it. -/
def State.writePosting (s : State) (p : Posting) : State :=
  let q := s.logNext
  (s.putRecord p.code.toNat p.source p.tunset p.time p.p0 p.p1 p.p2).tellWriter p (w32 q)

/-- The last record of an entry can take a further occurrence (R410): it is unflushed and has the same CODE, SOURCE
and P0. -/
def State.foldable (s : State) (p : Posting) (q : Nat) : Bool :=
  let r := s.rdMem (s.ringAddr q) 32
  decide (s.log.tail ≤ q) && leAt r 0 2 == p.code.toNat && leAt r 2 1 % 16 == masterId p.source &&
    leAt r 16 4 == p.p0.toNat

/-- Fold a further occurrence into record `q` (R410): REPEAT, or RSAT when REPEAT stands at 255, and the CRC. -/
def State.foldInto (s : State) (q : Nat) : State :=
  let r := s.rdMem (s.ringAddr q) 28
  let rep := leAt r 3 1
  let fl := leAt r 2 1
  let b := sliceB r 0 2 ++
    (if rep = 255 then leBytes 1 (fl % 64 + 64 + fl / 128 * 128) ++ leBytes 1 255 else leBytes 1 fl ++ leBytes 1 (rep + 1)) ++
    sliceB r 4 24
  s.wrMem (s.ringAddr q) (b ++ leBytes 4 (crc32c b))

/-- The engine takes one posting: written, folded or suppressed (R407, R409, R410). -/
def State.takePosting (s : State) (p : Posting) : State :=
  if exempt p.code.toNat then s.writePosting p
  else
    let (s, e) := s.takeRate p.code.toNat
    let r := s.rateEntry e
    if (s.rateLim e).1 = 0 ∨ r.tokens ≥ 1000 then
      let s := if r.suppressed = 0 then s else
        s.putRecord 0x0C02 .hweng r.suppTunset r.suppTime (w32 (r.suppCode.toNat + masterId r.suppSource * 0x10000))
          (w32 r.suppressed) r.suppP0
      let q := s.logNext
      let s := s.setRate e { r with tokens := if (s.rateLim e).1 = 0 then r.tokens else r.tokens - 1000,
                                    lastSeq := some q, suppressed := 0 }
      s.writePosting p
    else
      match r.lastSeq.filter (s.foldable p) with
      | some q => (s.foldInto q).tellWriter p (w32 q)
      | none =>
        let r := { r with suppressed := r.suppressed + 1, suppCode := p.code, suppSource := p.source, suppP0 := p.p0,
                          suppTime := if r.suppressed = 0 then p.time else r.suppTime,
                          suppTunset := if r.suppressed = 0 then p.tunset else r.suppTunset }
        (s.setRate e r).tellWriter p 0xFFFFFFFF

/-- A LOG_WRITE that waits enters the FIFO as soon as it has room, with the time of that edge (R406, R408). -/
def State.admitWrites (s : State) : State :=
  match s.log.waitWrites with
  | p :: t =>
    if s.log.fifo.length < 64 then
      let fifo := s.log.fifo ++ [{ p with time := s.time.ns, tunset := s.timeState == 0 }]
      { s with log := { s.log with waitWrites := t, fifo := fifo } }
    else s
  | [] => s

/-- One turn of the intake engine (R407, R408, R412): a LOST record that is due, then the FIFO's first entry while two
ring positions are free. While the count is unset the engine takes nothing (R405). -/
def State.intake (s : State) : State :=
  let s := s.writeLost
  if s.log.unset || decide (s.unflushed > 4094) then s
  else
    match s.log.fifo with
    | [] => s
    | p :: t => (({ s with log := { s.log with fifo := t } } : State).takePosting p).admitWrites

/-- Turns of the intake engine until the FIFO is empty or the engine waits; `n` bounds them. -/
def State.drain (s : State) : Nat → State
  | 0 => s
  | n + 1 => if s.log.fifo.isEmpty then s else s.intake.drain n

/-! ### Flushes (R413, R414) -/

/-- A LOG_FLUSH command. -/
def isLogFlush : Instr → Bool
  | .logFlush _ => true
  | _ => false

/-- A command that waits for a flush that starts after it (R413, R417): LOG_FLUSH or LOG_SEAL. -/
def wantsFlush : Instr → Bool
  | .logFlush _ | .logSeal _ _ _ _ => true
  | _ => false

/-- The trigger of the first fault stands once its FAULT_FIRST posting has left the FIFO, so that the flush covers its
record (R393, R413). -/
def State.faultPosted (s : State) : Bool := s.log.firstFlush && !(s.log.fifo.any fun p => p.code == 0x0B01)

/-- A flush starts, if flushes are enabled and none runs: it covers every record unflushed now; the commands that asked
for it are bound to it (R413). While one runs, another is due at its end. -/
def State.startFlush (s : State) : State :=
  if !s.bit 0xB0004 0 then s
  else if s.log.flush.isSome then { s with log := { s.log with flushAgain := true } }
  else
    { s with
      log := { s.log with flush := some s.logNext, flushAgain := false, msSince := 0,
                          firstFlush := s.log.firstFlush && !s.faultPosted }
      mb := { s.mb with outstanding := s.mb.outstanding.map fun o => if wantsFlush o.cmd then { o with ref := 1 } else o } }

/-- A trigger of R413 stands: the first fault's posting, 60,000 milliseconds, 3,072 unflushed records, or a command that
waits; the power-fail warning starts one itself (R414). -/
def State.flushDue (s : State) : Bool :=
  s.faultPosted || decide (s.log.msSince ≥ 60000) || decide (s.unflushed ≥ 3072) || s.log.flushAgain ||
  (s.mb.outstanding.any fun o => wantsFlush o.cmd && o.ref == 0)

/-- LOG_STATE (14): the FIFO's entries, the unflushed records, of which 4,096 show as 0xFFF with RINGFULL, FLUSHING. A pause of
R414 begins and ends inside POWER_FAIL_WARNING, so PFPAUSE reads 0 (DESIGN CHOICE, log 27). -/
def State.logState (s : State) : W32 :=
  w32 (s.log.fifo.length % 128 + min 0xFFF s.unflushed * 256 + b2n (decide (s.unflushed ≥ 4096)) * 2 ^ 20 +
    b2n s.log.flush.isSome * 2 ^ 21)

/-- Copy the records from `q` on, `n` of them, from the ring to MRAM in ascending sequence (R413). -/
def State.copyRecords (s : State) (q : Nat) : Nat → State
  | 0 => s
  | n + 1 => (s.wrMem (mramAddr q) (s.rdMem (s.ringAddr q) 32)).copyRecords (q + 1) n

/-- The sequence number that a low word stands for: the most recent one with those low bits (R405). -/
def State.seqOf (s : State) (x : Nat) : Nat :=
  if x ≥ 2 ^ 32 then x
  else
    let newest := s.logNext - 1
    let c := newest / 2 ^ 32 * 2 ^ 32 + x
    if c ≤ newest then c else if c ≥ 2 ^ 32 then c - 2 ^ 32 else c

/-- The flush that runs ends (R413): its records stand in MRAM, LOG_FLUSHSEQ and the count advance, MB_EVENT bit 11 is
set, the commands that waited for it complete, seals go on to their MAC. -/
def State.endFlush (s : State) : State :=
  match s.log.flush with
  | none => s
  | some e =>
    let s := s.copyRecords s.log.tail (e - s.log.tail)
    let s := if s.log.tail < e then s.wr64 0xB0018 (w64 (e - 1)) else s
    let oldest := s.log.oldest.map fun o => max o (e - 262144)
    let s := { s with log := { s.log with flush := none, tail := max s.log.tail e, oldest := oldest } }
    let s := (s.count 0xB0028 1).event 11
    let s := (s.mb.outstanding.filter fun o => isLogFlush o.cmd && o.ref == 1).foldl (fun t o => t.finish o eOk 0 0 0) s
    -- Of the seals that this flush served, those whose range is not wholly in MRAM are refused; the others are hashed (R417).
    let served := fun (q : SealOp) => s.mb.outstanding.any fun o => o.id == q.id && o.ref == 1
    let bad := s.log.seals.filter fun (q : SealOp) => !q.hashing && served q &&
      !(decide (q.last < s.log.tail) && s.log.oldest.any fun o => decide (o ≤ q.first))
    let left := (s.log.seals.filter fun q => !bad.contains q).map fun (q : SealOp) =>
      if served q then { q with hashing := true } else q
    let s := { s with log := { s.log with seals := left } }
    let s := bad.foldl (fun (t : State) (q : SealOp) => t.finishId q.id eParam 0 0 0) s
    if s.flushDue then s.startFlush else s

/-- A record as LOG_READ finds it (R416): in the ring while unflushed, otherwise in its MRAM slot; none where the CRC or
the sequence number fails. -/
def State.heldRecord (s : State) (q : Nat) : Option Bytes :=
  let r := s.rdMem (if s.log.tail ≤ q then s.ringAddr q else mramAddr q) 32
  if leAt r 28 4 = crc32c (r.take 28) ∧ leAt r 4 4 = q % 2 ^ 32 then some r else none

/-- The filter of LOG_READ passes a code (R416). -/
def filterPasses (filter code : Nat) : Bool :=
  filter == 0 || (filter % 256 == 0 && code / 256 == filter / 256) || code == filter

/-- The records that LOG_READ returns from sequence `q` on, `n` numbers examined, at most `m` records (R416). -/
def State.selectRecords (s : State) (filter q : Nat) : Nat → Nat → List Bytes
  | 0, _ => []
  | _, 0 => []
  | n + 1, m + 1 =>
    match s.heldRecord q with
    | some r =>
      if filterPasses filter (leAt r 0 2) then r :: s.selectRecords filter (q + 1) n m
      else s.selectRecords filter (q + 1) n (m + 1)
    | none => s.selectRecords filter (q + 1) n (m + 1)

/-- The slots of the log partition that hold any byte, ascending: the others hold no valid record. -/
def State.usedSlots (s : State) : List Nat :=
  ((s.mem.filter fun c => decide (0x11200000 ≤ c.1 ∧ c.1 < 0x11A00000)).map fun c => (c.1 - 0x11200000) / 32).eraseDups

/-- The records that a scan of the MRAM slots finds valid, as their low sequence words (R415). -/
def State.scanLog (s : State) : List Nat :=
  s.usedSlots.filterMap fun k =>
    let r := s.rdMem (0x11200000 + 32 * k) 32
    if leAt r 28 4 = crc32c (r.take 28) ∧ leAt r 4 4 % 262144 = k then some (leAt r 4 4) else none

end Sys2Proof.Machine
end

