-- ==== Sys2Proof/Machine/Key.lean ====
section
/-! DEFINITION. The KEY class commands, tamper, debug unlock and the JTAG port (16, R451 to R467). -/

namespace Sys2Proof.Machine

/-- The lowest slot from 4 up that is neither valid nor BAD (R455). -/
def State.freeSlot (s : State) : Option Nat :=
  (List.range 128).find? fun n => decide (4 ≤ n) && !s.slotValid n && !(s.slot n).bad

/-- The slot that a KEY_DERIVE names: 0xFF stands for the lowest free one. -/
def State.deriveTarget (s : State) (target : Byte) : Option Nat :=
  if target = 0xFF then s.freeSlot else some target.toNat

/-- The checks of KEY_DERIVE with a parent slot, in the order of R455. -/
def State.deriveStatus (s : State) (parent target usage : Byte) (n : Nat) : Nat :=
  let p := parent.toNat
  let t := target.toNat
  if p > 127 then eParam
  else if !s.slotValid p then eRevoked
  else if !((s.slot p).usage == 0 || (s.slot p).usage == 1) || !(usage == 1 || usage == 2 || usage == 3) ||
      decide ((s.slot p).depth + 1 > 8) || !decide (1 ≤ n ∧ n ≤ 64) ||
      !(target == 0xFF || decide (4 ≤ t ∧ t ≤ 127)) || (target != 0xFF && s.slotValid t) then eParam
  else if target != 0xFF && (s.slot t).bad then eIntegrity
  else if (s.deriveTarget target).isNone then eNospace
  else eOk

/-- Store a derivation record, unless debug is active (R455). -/
def State.recordDerivation (s : State) (target parent : Nat) (usage : Byte) (label : Bytes) : State :=
  if s.key.debug then s
  else { s with key := { s.key with
    records := (s.key.records.filter fun r => r.target ≠ target) ++ [⟨target, parent, usage, label⟩] } }

/-- The root that a label buffer wraps under the device provisioning key (R457): IV, ROOT_ID as the additional data, ciphertext
and tag. -/
def State.unwrapRoot (s : State) (l : Bytes) : Option Bytes :=
  gcmOpen s.key.deviceKey (sliceB l 0 12) (sliceB l 12 4) (sliceB l 16 32) (sliceB l 48 16)

/-- Install a root (R457): the root that the label buffer wraps, a new generation, ROOT_ID, the latched tamper sources
cleared, slots 1 and 2 derived. -/
def State.installRoot (s : State) (l : Bytes) : State :=
  let g := bumpGen (s.slot 0)
  let s := s.setSlot 0 { emptySlot with key := (s.unwrapRoot l).getD [], gen := g.gen,
                                        bad := g.bad, valid := true }
  let s := { s with key := { s.key with rootId := w32 (leAt l 12 4), latched := 0, zeroized := false } }
  let s := (s.deriveFixed).settleKeys
  s.postGuard 0x0E05 s.key.rootId (w32 g.gen) 0

/-- A slot fails its integrity check (R454): it is marked BAD and its descendants lose validity; for slot 0 the root is
zeroed. -/
def State.keyBad (s : State) (n : Nat) : State :=
  let d := s.validDescendants n
  let k := s.slot n
  if n = 0 then
    let s := s.setSlot 0 { k with key := List.replicate 32 0, valid := false, bad := true }
    (s.settleKeys).postGuard 0x0E03 (w32 k.gen) 0 0
  else
    let s := s.setSlot n { k with bad := true }
    (s.settleKeys).postGuard 0x0E02 (w32 n) (w32 d) 0

/-- KEY_DERIVE (R455, R457). A BAD slot 0 is no target of an installation either (R454); a parent that fails its ICV is marked
BAD. -/
def execKeyDerive (i : Issue) (parent : Byte) (target : Byte) (usage : Byte) (label : Buf) (s : State) : Out :=
  .next (s.hostCmd { op := 0x0E01, plen := 11 } i fun s =>
    s.checked i [(!s.bufOk i.host false label, eAccess)] fun s =>
      let l := s.rdBuf label
      if parent = 0xFF then
        s.checked i [(target != 0 || usage != 0 || l.length != 64, eParam),
                     (s.slotValid 0 || s.key.live != 0 || s.key.debug, eAccess),
                     ((s.slot 0).bad || (s.unwrapRoot l).isNone, eIntegrity)] fun s =>
          let s := s.installRoot l
          s.complete i eOk (w32 (s.slot 0).gen) 0 0
      else
        let st := s.deriveStatus parent target usage l.length
        s.checked i [(st != eOk, st)] fun s =>
          if !i.env.icv then (s.keyBad parent.toNat).done i eIntegrity
          else
          let t := (s.deriveTarget target).getD 0
          let s := (s.deriveInto t parent.toNat usage l false).settleKeys
          let s := s.recordDerivation t parent.toNat usage l
          s.complete i eOk (w32 (t * 2 ^ 24 + (s.slot t).pgen)) 0 0)

/-- Invalidate a slot (R458): the root takes a new generation and slots 1 and 2 are derived again; another slot loses
VALID and its key; descendants become invalid, and their derivation records go, with those of descendants whose slots are
empty. -/
def State.invalidate (s : State) (n : Nat) : State :=
  let d := s.descendants n
  let k := bumpGen (s.slot n)
  let s := s.setSlot n (if n = 0 then k else { k with valid := false, key := List.replicate 32 0 })
  let keep := fun (r : DerivRec) => r.target != n && !d.contains r.target && !recordUnder s.key.records n 9 r.target
  let s := { s with key := { s.key with records := s.key.records.filter keep } }
  (if n = 0 then s.deriveFixed else s).settleKeys

/-- KEY_INVALIDATE (R458). -/
def execKeyInvalidate (i : Issue) (slot : Byte) (s : State) : Out :=
  .next (s.hostCmd { op := 0x0E02, plen := 1 } i fun s =>
    let n := slot.toNat
    s.checked i [(decide (1 ≤ n ∧ n ≤ 3) || decide (n > 127), eParam)] fun s =>
      let d := s.validDescendants n
      let s := s.invalidate n
      (s.postGuard 0x0E04 (w32 n) (w32 d) (w32 (s.slot n).gen)).complete i eOk (w32 d) 0 0)

/-- KEY_SLOT_INFO (R467). -/
def execKeySlotInfo (i : Issue) (slot : Byte) (s : State) : Out :=
  .next (s.hostCmd { op := 0x0E03, plen := 1 } i fun s =>
    let n := slot.toNat
    s.checked i [(decide (n > 127), eParam)] fun s =>
      let k := s.slot n
      s.complete i eOk
        (w32 (k.parent % 128 + b2n (s.slotValid n) * 128 + k.usage.toNat * 256 + k.depth % 16 * 65536 +
          b2n k.bad * 2 ^ 20 + b2n k.fixed * 2 ^ 21))
        (w32 k.gen) (if n = 0 then s.key.rootId else w32 k.pgen))

/-- KEY_TAMPER_STATUS (R467). -/
def execKeyTamperStatus (i : Issue) (s : State) : Out :=
  .next (s.hostCmd { op := 0x0E04, plen := 0 } i fun s =>
    s.complete i eOk (w32 s.key.latched.toNat) (w32 s.key.live.toNat)
      (w32 (b2n (s.slotValid 0) + b2n s.key.zeroized * 2 + b2n s.key.debug * 4)))

/-- The mode byte of a tamper input (R461). -/
def State.tamperMode (s : State) (n : Nat) : Nat := s.key.modes.toNat / 2 ^ (8 * n) % 256

/-- Set the mode byte of a tamper input. -/
def State.setTamperMode (s : State) (n mode : Nat) : State :=
  { s with key := { s.key with modes := w64 (s.key.modes.toNat - s.tamperMode n * 2 ^ (8 * n) + mode % 256 * 2 ^ (8 * n)) } }

/-- The status of a KEY_TAMPER_CONFIG (R461). -/
def State.tamperStatus (s : State) (n mode : Nat) : Nat :=
  if n > 7 ∨ mode / 4 % 16 ≠ 0 ∨ (n ≥ 4 ∧ mode % 4 ≥ 2) then eParam
  else if s.key.live.getLsbD n || (BitVec.ofNat 8 (s.tamperMode n)).getLsbD 6 then eState
  else eOk

/-- KEY_TAMPER_CONFIG (R461). -/
def execKeyTamperConfig (i : Issue) (input : Byte) (mode : Byte) (s : State) : Out :=
  .next (s.hostCmd { op := 0x0E05, plen := 2 } i fun s =>
    let st := s.tamperStatus input.toNat mode.toNat
    s.checked i [(st != eOk, st)] fun s => (s.setTamperMode input.toNat mode.toNat).done i eOk)

/-- ZEROIZE (R463): the root, every slot's key, and the keys of every MACsec SA. The keyless slots stay as they are. -/
def State.zeroize (s : State) : State :=
  let z := List.replicate 32 (0 : Byte)
  let slots := s.key.slots.map fun (p : Nat × KeySlot) => (p.1, { p.2 with key := z, valid := p.1 != 0 && p.2.valid })
  let s := { s with key := { s.key with
    slots := slots, masked := s.key.masked.map fun (k : KeySlot) => { k with key := z, valid := false }, zeroized := true } }
  s.settleKeys

/-- An input is armed: its KIND is not off, and inputs 4 to 7 neither after the power-fail warning nor while PORST_N is low
(R461). -/
def State.armed (s : State) (n : Nat) : Bool :=
  s.tamperMode n % 4 != 0 && !(decide (n ≥ 4) && (s.pwr.pfw || s.chip.porstLow))

/-- LOG_ONLY of a tamper input. -/
def State.tamperLogOnly (s : State) (n : Nat) : Bool := (BitVec.ofNat 8 (s.tamperMode n)).getLsbD 7

/-- The report of a tamper by a running Firn (R463): fault source 80 unless its input was LOG_ONLY, and the record. -/
def State.tellTamper (s : State) (n : Nat) (logOnly : Bool) (reading : W32) : State :=
  (if logOnly then s else s.raise 80).postFirn 0x0E01 (w32 n) (w32 (b2n !logOnly)) reading

/-- A tamper on an input (R463): the latch; unless LOG_ONLY is set, ZEROIZE; the report, which waits for Firn's next start
while Firn does not run. -/
def State.tamper (s : State) (n : Nat) : State :=
  let only := s.tamperLogOnly n
  let s := { s with key := { s.key with latched := s.key.latched ||| (1#8 <<< n) } }
  let s := if only then s else s.zeroize
  if s.chip.running && !s.recovery then s.tellTamper n only 0
  else { s with key := { s.key with missed := s.key.missed ++ [(n, only, s.calW0 (fieldsOf s.cal.secs))] } }

/-- The advances of the mesh generator since it was seeded (R462). -/
def State.meshCount (s : State) : Nat := (((s.now : Int) - s.key.lfsrAt).toNat * 4096) / 1000000000

/-- An armed input's samples are a tamper (R461, R462): a switch at its tamper level on 4 consecutive AONCLK edges; a mesh whose
samples after the last two advances both differ from the bit that was driven. The monitors of inputs 4 to 7 decide for
themselves. -/
def State.detects (s : State) (n : Nat) (levels : List Bool) : Bool :=
  s.armed n && (decide (n ≥ 4) ||
    match s.tamperMode n % 4 with
    | 1 => levels == [true, true, true, true]
    | 2 => levels == [false, false, false, false]
    | 3 => decide (1 ≤ s.meshCount) && levels == [!s.meshBit (s.meshCount - 1), !s.meshBit s.meshCount]
    | _ => false)

/-- TAMPER (R461 to R463): an input's samples, and which sources are live from here on. -/
def execTamper (input : Byte) (pin : TamperPin) (s : State) : Out :=
  .next (
    let s := { s with key := { s.key with live := pin.live } }
    if input.toNat < 8 && s.detects input.toNat pin.levels then s.tamper input.toNat else s)

/-- KEY_BAD (R454). -/
def execKeyBad (slot : Byte) (s : State) : Out :=
  .next (if slot.toNat < 128 then s.keyBad slot.toNat else s)

/-! ### Debug (R465, R466) -/

/-- An accepted response (R466): a new generation of the root, the real root masked, the test root in force, slots 1 and
2 derived from it, DEBUG and its record. -/
def State.debugOn (s : State) (scope : W32) : State :=
  let root := bumpGen (s.slot 0)
  let s := { s with key := { s.key with masked := some root } }
  let s := s.setSlot 0 { root with key := Config.testRoot, valid := true }
  let s := { s with key := { s.key with debug := true, scope := scope } }
  ((s.deriveFixed).settleKeys).postGuard 0x0E06 scope 0 0

/-- A refused response (R465): counted, recorded with its cause, and a new challenge drawn. -/
def State.debugRefused (s : State) (cause : Nat) : State :=
  let s := { s with key := { s.key with refused := s.key.refused + 1 } }
  (s.postGuard 0x0E07 (w32 s.key.refused) (w32 cause) 0).newChallenge

/-- DEBUG_PUBKEY is all zero or absent (R465). -/
def State.noDebugKey (s : State) : Bool := s.conf.debugKey.all fun b => b == 0

/-- A response's signature verifies with DEBUG_PUBKEY, over its bytes 0 to 23, of which the last four are 0 (R465). -/
def State.responseOk (s : State) (resp : Bytes) : Bool :=
  zeroB resp 20 4 && ecdsaOk s.conf.debugKey (resp.take 24) (sliceB resp 24 64)

/-- A response reaches the Guard (R465): the state after it and the status of KEY_DEBUG_UNLOCK. A response that finds debug
active or three refused draws a new challenge as every refused one does; for it the manual has no cause, and it is neither
counted nor recorded (DESIGN CHOICE, log 86). -/
def State.debugResponse (s : State) (resp : Bytes) : State × Nat :=
  if s.key.debug || decide (s.key.refused ≥ 3) then (s.newChallenge, eAccess)
  else if s.noDebugKey then (s.debugRefused 3, eAccess)
  else if sliceB resp 0 16 ≠ s.key.challenge then (s.debugRefused 1, eIntegrity)
  else if !s.responseOk resp then (s.debugRefused 2, eIntegrity)
  else (s.debugOn (w32 (leAt resp 16 4)), eOk)

/-- KEY_DEBUG_UNLOCK (R465): a buffer of other than 88 bytes is no response (DESIGN CHOICE, log 86). -/
def execKeyDebugUnlock (i : Issue) (buf : Buf) (s : State) : Out :=
  .next (s.hostCmd { op := 0x0E06, plen := 8 } i fun s =>
    s.checked i [(buf.len.toNat != 88, eParam), (!s.bufOk i.host false buf, eAccess)] fun s =>
      let r := s.debugResponse (s.rdBuf buf)
      r.1.done i r.2)

/-- Load the JTAG instruction register and the data that the scan shifts out. -/
def State.jtagScan (s : State) (ir : BitVec 5) (dr : Bytes) : State := { s with jtag := { ir := ir, dr := dr } }

/-- DBG_CHAL: JTAG instruction 0x10 reads the challenge (16, JTAG instructions). -/
def execDbgChal (s : State) : Out := .next (s.jtagScan 0x10 s.key.challenge)

/-- DBG_RESP (R465): JTAG instruction 0x11 writes a response: its bytes 0 to 23, and its signature. -/
def execDbgResp (head : Bytes) (sig : Bytes) (s : State) : Out :=
  .next (((s.jtagScan 0x11 []).debugResponse (head ++ sig)).1)

/-- BYPASS: one bit, 0 (IEEE 1149.1). -/
def execBypass (s : State) : Out := .next (s.jtagScan 0x1F [0])

/-- The IDCODE word: stepping 0, part 0x7240, the vendor's code, 1 (16, JTAG instructions). -/
def idcode : W32 := w32 (0x7240 * 4096 + Config.jedecCode.toNat * 2 + 1)

/-- IDCODE. -/
def execIdcode (s : State) : Out := .next (s.jtagScan 0x01 (leBytes 4 idcode.toNat))

/-- SAMPLE/PRELOAD: the boundary register's bits are not in the manual; a free value stands for what is sampled. -/
def execSamplePreload (s : State) : Out := .next ((s.jtagScan 0x02 (leBytes 8 s.drawn.toNat)).draw)

/-- EXTEST, CLAMP or HIGHZ, where TEST_EN was high at PORST_N or debug is active with SCOPE[2]; otherwise the
instruction is not available and the TAP selects BYPASS (PRESUMED, log 17). -/
def execExtest (instr : Byte) (s : State) : Out :=
  .next (
    let ok := s.chip.straps.testEn || (s.key.debug && s.key.scope.getLsbD 2)
    if ok && (instr == 0x00 || instr == 0x04 || instr == 0x05) then s.jtagScan (BitVec.ofNat 5 instr.toNat) []
    else s.jtagScan 0x1F [0])

/-- TAP_RESET: TRST_N low resets the TAP alone (17, reset types), which selects IDCODE (PRESUMED, log 17). -/
def execTapReset (s : State) : Out := .next (s.jtagScan 0x01 [])

end Sys2Proof.Machine
end

