-- ==== Sys2Proof/Machine/LogBlk.lean ====
section
/-! DEFINITION. The LOG class commands and the log engine's events (14). -/

namespace Sys2Proof.Machine

/-- LOG_READ (R416). -/
def execLogRead (i : Issue) (first : W64) (count : W32) (filter : W16) (buf : Buf) (s : State) : Out :=
  .next (s.hostCmd { op := 0x0C01, plen := 22 } i fun s =>
    s.checked i [(!(decide (1 ≤ count.toNat ∧ count.toNat ≤ 4096)) || decide (buf.len.toNat < 32), eParam),
                 (!s.bufOk i.host true buf, eAccess)] fun s =>
      let from_ := max (s.seqOf first.toNat) (s.log.oldest.getD s.logNext)
      let l := s.selectRecords filter.toNat from_ (s.logNext - from_) (min count.toNat (buf.len.toNat / 32))
      (s.wrMem (s.winAddr buf.off) l.flatten).complete i eOk (w32 l.length) 0 0)

/-- LOG_STATUS (R418). -/
def execLogStatus (i : Issue) (s : State) : Out :=
  .next (s.hostCmd { op := 0x0C02, plen := 0 } i fun s =>
    s.complete i eOk (if s.log.written then w32 (s.logNext - 1) else 0) (w32 (s.log.oldest.getD 0)) (s.rd 0xB0020))

/-- LOG_FLUSH (R413): completes when a flush that started after it has ended. -/
def execLogFlush (i : Issue) (s : State) : Out :=
  .next (s.hostCmd { op := 0x0C03, plen := 0, async := true } i fun s => (s.startAsync (.logFlush i) i).startFlush)

/-- A code that a rate entry may serve (R405, R409): not exempt and not reserved. -/
def limitedCode (c : Nat) : Bool :=
  !exempt c && decide (1 ≤ c / 256 ∧ c / 256 ≤ 15) && decide (1 ≤ c % 256 ∧ c % 256 ≤ 0x7F)

/-- LOG_RATE_SET (R411). -/
def execLogRateSet (i : Issue) (code : W16) (rate : W16) (burst : W16) (s : State) : Out :=
  .next (s.hostCmd { op := 0x0C04, plen := 6 } i fun s =>
    s.checked i [(!limitedCode code.toNat || decide (rate.toNat > 1000) || decide (burst.toNat = 0 ∨ burst.toNat > 255),
                  eParam),
                 ((s.rateOf code.toNat).isNone && s.rateFree.isNone, eNospace)] fun s =>
      let s := s.limitCode code.toNat rate.toNat burst.toNat
      (s.setConf fun c => { c with
        rates := c.rates.filter (fun r => r.code ≠ code) ++ [⟨code, rate.toNat, burst.toNat⟩] }).done i eOk)

/-- LOG_SEAL (R417): flushes, then waits for the Guard's MAC. -/
def execLogSeal (i : Issue) (slot : Byte) (first : W64) (last : W64) (s : State) : Out :=
  .next (s.hostCmd { op := 0x0C05, plen := 17, async := true } i fun s =>
    let f := s.seqOf first.toNat
    let l := s.seqOf last.toNat
    s.checked i [(decide (slot.toNat > 127) || decide (l < f) || decide (l - f + 1 > 262143), eParam),
                 (!s.slotValid slot.toNat, eRevoked),
                 ((s.slot slot.toNat).usage != 0x03, eParam)] fun s =>
      let id := s.mb.serial
      let s := s.startAsync (.logSeal i slot first last) i
      ({ s with log := { s.log with seals := s.log.seals ++ [⟨id, slot.toNat, f, l, false⟩] } } : State).startFlush)

/-- LOG_WRITE (R418): posts a user code; the command completes with its record's sequence number once the engine has
taken the posting, and waits for room where the FIFO is full (R408). -/
def execLogWrite (i : Issue) (code : W16) (p0 : W32) (p1 : W32) (p2 : W32) (s : State) : Out :=
  .next (s.hostCmd { op := 0x0C06, plen := 14 } i fun s =>
    s.checked i [(!decide (0x0C80 ≤ code.toNat ∧ code.toNat ≤ 0x0CFF), eParam)] fun s =>
      let p : Posting := { code := code, source := hostMaster i.host, tunset := false, time := 0, p0 := p0, p1 := p1,
                           p2 := p2, waiter := some i }
      (({ s with log := { s.log with waitWrites := s.log.waitWrites ++ [p] } } : State).admitWrites).drain 128)

/-- A master that has a banked LOG_TPOST copy: a tile role or FIRN (R406). -/
def poster (m : Master) : Bool := (0x03FD : BitVec 16).getLsbD (masterId m)

/-- LOG_POST (R406): a write of LOG_TPOST_CODE posts with the writer's own P0 to P2. -/
def execLogPost (master : Master) (code : W16) (s : State) : Out :=
  .next (s.atReg master 0xB004C fun s => if poster master then
    s.postAs master code.toNat (s.rd (bankKey 0xB0040 (masterId master))) (s.rd (bankKey 0xB0044 (masterId master)))
      (s.rd (bankKey 0xB0048 (masterId master)))
    else s)

/-- LOG_INTAKE_ENTRY (R407). -/
def execLogIntakeEntry (s : State) : Out := .next s.intake

/-- A flush has begun since the reset. -/
def State.flushBegun (s : State) : Bool := s.log.flush.isSome || s.rd 0xB0028 != 0

/-- `n` millisecond instants have passed (R409, R413): each gives every entry its RATE, capped at its BURST, and counts toward
the 60 s flush. -/
def State.milliseconds (s : State) (n : Nat) : State :=
  let rates := s.log.rates.map fun p =>
    (p.1, { p.2 with tokens := min ((s.rateLim p.1).2 * 1000) (p.2.tokens + n * (s.rateLim p.1).1) })
  { s with log := { s.log with rates := rates, msNext := s.log.msNext + n,
                               msSince := if s.bit 0xB0004 0 || s.flushBegun then s.log.msSince + n else 0 } }

/-- RATE_REFILL (R409): the millisecond instants up to the one at `at_`, where NS has reached it and it has not passed before. -/
def execRateRefill (at_ : Nat) (s : State) : Out :=
  .next (
    let s := s.reach at_
    let k := at_ / 1000000
    if at_ % 1000000 ≠ 0 ∨ s.now < at_ ∨ k < s.log.msNext then s else s.milliseconds (k + 1 - s.log.msNext))

/-- FLUSH_START (R413): a flush starts on a trigger that stands. -/
def execFlushStart (s : State) : Out := .next (if s.flushDue then s.startFlush else s)

/-- FLUSH_COMPLETE (R413). -/
def execFlushComplete (s : State) : Out := .next s.endFlush

/-- The records of a range as stored in MRAM, CRC failures included (R417). -/
def State.storedRange (s : State) (first n : Nat) : Bytes :=
  (List.range n).flatMap fun k => s.rdMem (mramAddr (first + k)) 32

/-- SEAL_TAG (R417): the Guard finishes the MAC of the first seal in hand, and the engine writes SEAL_RANGE and SEAL_TAG
with consecutive numbers while the ring has two positions. -/
def execSealTag (s : State) : Out :=
  .next (match s.log.seals.find? fun q => q.hashing with
    | none => s
    | some q =>
      if s.log.unset || decide (s.unflushed > 4094) then s
      else
        let n := q.last - q.first + 1
        let mac := hmac256 (s.slot q.slot).key (leBytes 8 q.first ++ leBytes 8 q.last ++ s.storedRange q.first n)
        let s := { s with log := { s.log with seals := s.log.seals.filter fun r => r != q } }
        let s := s.ownRecord 0x0C04 (w32 q.first) (w32 q.last) (w32 n)
        let tag := s.logNext
        let s := s.ownRecord 0x0C05 (w32 (leAt mac 0 4)) (w32 (leAt mac 4 4)) (w32 (leAt mac 8 4))
        s.finishId q.id eOk (w32 tag) 0 0)

end Sys2Proof.Machine
end

