-- ==== Sys2Proof/Machine/AccessOps.lean ====
section
/-! DEFINITION. Access tables: the targets, the checks of an entry, and a refused transaction (16, R447 to R450; 02,
R73). -/

namespace Sys2Proof.Machine

/-- The last offset of a target and its granularity; none where the code names no table (16). -/
def State.targetShape (s : State) (t : Nat) : Option (Nat × Nat) :=
  match t with
  | 0 => some (0x01FFFFFF, 4096)
  | 1 => some (0x01FFFFFF, 4096)
  | 2 => some (0x0087FFFF, 4096)
  | 3 => some (ddrBytes s.chip.ddrSize - 1, 65536)
  | _ => if 0x11 ≤ t ∧ t ≤ 0x20 ∧ t ≠ 0x1D then some (0xFFFF, 256) else none

/-- The areas that Firn has allocated in shared SRAM (R75): everything below 0x0040_0000, where the model lets the mirror
staging area of R381, the log ring of R412 and the records and buffers of SEQ, the NET roles and MTR lie (DESIGN CHOICE,
log 73), the runtime areas of R220, and the log ring and the CPU port's rings as their base registers place them. -/
def State.allocs (s : State) : List (Nat × Nat) :=
  [(0, 0x488000), (0x500000, 0x1000000)] ++
  ([(0xB0024, 131072), (0x80010, 8192), (0x80018, 8192)].filterMap fun p =>
    let a := (s.rd p.1).toNat
    if a = 0 then none else some (a, a + p.2))

/-- R73's limits for a region of a host in shared SRAM: inside the window, no execute right, clear of Firn's
allocations. -/
def State.hostRegionOk (s : State) (e : AccEntry) : Bool :=
  e.target != 0 ||
  (decide (s.window ≤ e.start ∧ e.stop < s.window + 0x1000000) && !e.rights.getLsbD 2 &&
    s.allocs.all fun p => decide (e.stop < p.1 ∨ p.2 ≤ e.start))

/-- An entry respects the granularity and the bounds of its target, and its reserved rights bits are 0 (R447). -/
def State.entryShape (s : State) (e : AccEntry) : Bool :=
  match s.targetShape e.target with
  | some (top, g) =>
    e.start % g == 0 && (e.stop + 1) % g == 0 && decide (e.start ≤ e.stop ∧ e.stop ≤ top) && (e.rights &&& 0x78) == 0
  | none => false

/-- The rights that a target's column lists (16): X only at shared SRAM and LPDDR4X. -/
def rightsListed (e : AccEntry) : Bool := !e.rights.getLsbD 2 || e.target == 0 || e.target == 3

/-- Every right of an entry has a hardwired path over the whole region (R21): a path to a target covers one interval of it,
so the region's two ends decide. -/
def State.rightsPathed (s : State) (e : AccEntry) : Bool :=
  let m := masterOf e.master
  (List.range 3).all fun k => !e.rights.getLsbD k || (s.hasPath m e.target k e.start && s.hasPath m e.target k e.stop)

/-- Write access to MRAM is granted only to a master that R27 names as a writer of every partition that the region
touches. -/
def writersKept (e : AccEntry) : Bool :=
  e.target != 1 || !e.rights.getLsbD 1 ||
  (mramWriter (masterOf e.master) e.start && mramWriter (masterOf e.master) e.stop &&
    decide (e.start < 0x00E00000) == decide (e.stop < 0x00E00000))

/-- An entry does not grant W and X together. -/
def notWX (e : AccEntry) : Bool := !(e.rights.getLsbD 1 && e.rights.getLsbD 2)

/-- The entry checks of R448. -/
def State.entryOk (s : State) (e : AccEntry) : Bool :=
  s.entryShape e && rightsListed e && s.rightsPathed e && (!e.rights.getLsbD 2 || decide (2 ≤ e.master ∧ e.master ≤ 9)) &&
  notWX e &&
  writersKept e &&
  !(e.master == 0 || e.master == 1 || e.master == 10) &&
  (!(e.master == 11 || e.master == 12) || s.hostRegionOk e)

/-- The entry of a target, a master and a region; an entry that nothing has written is all zeros. -/
def State.accEntry (s : State) (t m r : Nat) : AccEntry :=
  (s.acc.find? fun e => e.target == t && e.master == m && e.region == r).getD ⟨t, m, r, 0, 0, 0⟩

/-- Write an entry on one edge (R449). -/
def State.putEntry (s : State) (e : AccEntry) : State :=
  { s with acc := s.acc.filter (fun x => !(x.target == e.target && x.master == e.master && x.region == e.region)) ++ [e] }

/-- An entry goes to the staging registers (R449). -/
def State.stageEntry (s : State) (e : AccEntry) : State :=
  s.wrAll [(0x10, w32 (e.target + e.master * 256 + e.region * 65536)), (0x14, w32 e.start), (0x18, w32 e.stop),
           (0x1C, w32 e.rights.toNat)]

/-- FABRIC_AT_CTRL.LOAD (R449): the entry that FABRIC_AT_SEL names goes to the staging registers. -/
def State.atLoad (s : State) : State :=
  let e := s.accEntry (s.fld 0x10 5 0) (s.fld 0x10 11 8) (s.fld 0x10 19 16)
  s.wrAll [(0x14, w32 e.start), (0x18, w32 e.stop), (0x1C, w32 e.rights.toNat)]

/-- The entry that FABRIC_AT_SEL and the staging registers hold. -/
def State.atStaged (s : State) : AccEntry :=
  ⟨s.fld 0x10 5 0, s.fld 0x10 11 8, s.fld 0x10 19 16, (s.rd 0x14).toNat, (s.rd 0x18).toNat, BitVec.ofNat 8 (s.fld 0x1C 7 0)⟩

/-- FABRIC_AT_CTRL.COMMIT (R447, R449): the staged entry is written, or refused with ERR where it breaks R447, R21 or the
W-and-X rule, where it adds a writer that R27 does not name, or where the entry is locked (R448). -/
def State.atCommit (s : State) : State :=
  let e := s.atStaged
  let ok := s.entryShape e && s.rightsPathed e && notWX e && writersKept e && !(s.accEntry e.target e.master e.region).rights.getLsbD 7
  (if ok then s.putEntry e else s).setBit 0x20 2 (!ok)

end Sys2Proof.Machine
end

