-- ==== Sys2Proof/Machine/ImgOps.lean ====
section
/-! DEFINITION. Image slots, the boot record and the relay of Avalanche (15). -/

namespace Sys2Proof.Machine

/-- BOOT registers. -/
abbrev aBootState : Nat := 0xC0004
abbrev aBootCnt : Nat := 0xC0008
abbrev aMinSvn : Nat := 0xC0010
abbrev aRoleVer : Nat := 0xC001C
abbrev aCfgFmt : Nat := 0xC0020
abbrev aAvId : Nat := 0xC0024
abbrev aAvHeld : Nat := 0xC0028

/-- Slot states (15). -/
abbrev slEmpty := 0
abbrev slWriting := 1
abbrev slStaged := 2
abbrev slTrial := 3
abbrev slGood := 4
abbrev slFailed := 5

/-- The state of a slot. -/
def State.slotState (s : State) (k : Nat) : Nat := s.fld aBootState (4 * k + 3) (4 * k)
def State.setSlotState (s : State) (k x : Nat) : State := s.setFld aBootState (4 * k + 3) (4 * k) x
/-- The running slot, 0 for A and 1 for B. -/
def State.running (s : State) : Nat := s.fld aBootState 8 8
/-- The other slot. -/
def State.inactive (s : State) : Nat := 1 - s.running
/-- VERSION in a slot. -/
def State.slotVersion (s : State) (k : Nat) : W32 := s.rd (0xC0014 + 4 * k)
/-- Boot attempts of a slot. -/
def State.attempts (s : State) (k : Nat) : Nat := s.fld aBootCnt (4 * k + 3) (4 * k)
def State.setAttempts (s : State) (k n : Nat) : State := s.setFld aBootCnt (4 * k + 3) (4 * k) n
/-- SVN of a slot, in the boot record. -/
def State.slotSvn (s : State) (k : Nat) : W32 := if k = 0 then s.boot.svnA else s.boot.svnB
def State.setSlotSvn (s : State) (k : Nat) (v : W32) : State :=
  { s with boot := if k = 0 then { s.boot with svnA := v } else { s.boot with svnB := v } }
/-- The MRAM address of a slot (R27). -/
def slotBase (k : Nat) : Nat := 0x10000000 + 0x600000 * k

/-- BOOT_STATE's slot states, running slot and KEY0_OFF, which the boot record holds. -/
def bootKept : W32 := 0x9FF

/-- What the boot record holds, under a sequence number (R424). Of a reception it holds the blocks last saved (R434). -/
def State.bootImage (s : State) (seq : Nat) : BootRec where
  seq := seq
  state := s.rd aBootState &&& bootKept
  cnt := s.rd aBootCnt
  minSvn := s.rd aMinSvn
  verA := s.slotVersion 0
  verB := s.slotVersion 1
  svnA := s.boot.svnA
  svnB := s.boot.svnB
  rx := s.boot.rx.map fun (r : AvRx) => { r with held := r.saved, block := 0, frags := [] }
  actAt := s.boot.actAt

/-- The sequence number of a copy of the boot record; a copy that is not valid comes before every other. -/
def copySeq (c : Option BootRec) : Nat := (c.map fun r => r.seq).getD 0

/-- The higher sequence number of the two copies. -/
def State.bootSeq (s : State) : Nat := max (copySeq s.boot.copies.1) (copySeq s.boot.copies.2)

/-- The valid copy with the higher sequence number (R424). -/
def State.bootCopy (s : State) : Option BootRec :=
  if copySeq s.boot.copies.1 < copySeq s.boot.copies.2 then s.boot.copies.2 else s.boot.copies.1

/-- An update of the boot record (R424): the copy with the lower sequence number takes it, under the higher number plus 1. -/
def State.bootWrite (s : State) : State :=
  let r := s.bootImage (s.bootSeq + 1)
  let c := s.boot.copies
  { s with boot := { s.boot with copies := if copySeq c.1 < copySeq c.2 then (some r, c.2) else if copySeq c.2 < copySeq c.1 then (c.1, some r)
                                           else (some r, c.2) } }

/-- Bedrock reads the boot record (R424). Without a valid copy both slots are STAGED with attempt count 0; what the record
held beside that reads 0 then (DESIGN CHOICE, log 88). -/
def State.readBoot (s : State) : State :=
  match s.bootCopy with
  | some r =>
    let s := (s.wr aBootState ((s.rd aBootState &&& ~~~bootKept) ||| r.state)).wrAll
      [(aBootCnt, r.cnt), (aMinSvn, r.minSvn), (0xC0014, r.verA), (0xC0018, r.verB),
       (aAvId, match r.rx with | some x => if x.held.length = (x.length + 4095) / 4096 then 0 else x.image | none => 0),
       (aAvHeld, match r.rx with | some x => if x.held.length = (x.length + 4095) / 4096 then 0 else w32 x.held.length | none => 0)]
    { s with boot := { s.boot with svnA := r.svnA, svnB := r.svnB, rx := r.rx, actAt := r.actAt } }
  | none =>
    let s := (s.wr aBootState ((s.rd aBootState &&& ~~~bootKept) ||| 0x22)).wrAll
      [(aBootCnt, 0), (aMinSvn, 0), (0xC0014, 0), (0xC0018, 0), (aAvId, 0), (aAvHeld, 0)]
    { s with boot := { s.boot with svnA := 0, svnB := 0, rx := none, actAt := none } }

/-- A store to MRAM by anything but an update of the boot record spoils the copies that it touches. -/
def State.spoilBoot (s : State) (a n : Nat) : State :=
  let hit := fun (k : Nat) => decide (a < 0x10C01000 + 4096 * k ∧ 0x10C00000 + 4096 * k < a + n)
  let c := s.boot.copies
  if hit 0 || hit 1 then
    { s with boot := { s.boot with copies := (if hit 0 then none else c.1, if hit 1 then none else c.2) } }
  else s

/-- A slot's content is lost: its bytes are as nothing has written them (R428). -/
def State.loseSlot (s : State) (k : Nat) : State :=
  { s with mem := s.mem.filter fun c => !(decide (slotBase k ≤ c.1) && decide (c.1 < slotBase k + 0x600000)) }

/-- A slot becomes WRITING: VERSION and SVN go with the content. -/
def State.makeWriting (s : State) (k : Nat) : State :=
  ((s.setSlotState k slWriting).wr (0xC0014 + 4 * k) 0).setSlotSvn k 0

/-- The container bytes in a slot: as many as its header states, at most a slot. -/
def State.slotBytes (s : State) (k : Nat) : Bytes :=
  s.rdMem (slotBase k) (min 0x600000 (max 64 (s.rdLe (slotBase k + 8) 4)))

/-- Steps 1, 2 and 6 of R423 on a slot: the first that fails. -/
def State.slotCheck (s : State) (k : Nat) : Option Nat :=
  let b := s.slotBytes k
  if !imageLayout b then some 1 else if !cAllows (cFlags b) s.isHead then some 2
  else if !cDigests b then some 6 else none

/-- KEYID is allowed (R427). -/
def State.keyIdOk (s : State) (b : Bytes) : Bool := !(s.bit aBootState 11 && cKeyId b == 0)

/-- The verification of a slot (R423): the first step that fails. -/
def State.slotVerify (s : State) (k : Nat) : Option Nat :=
  let b := s.slotBytes k
  if !imageLayout b then some 1
  else if !cAllows (cFlags b) s.isHead then some 2
  else if !s.keyIdOk b then some 3
  else if cSvn b < (s.rd aMinSvn).toNat then some 4
  else if !cSigned s.boot.romKeys b then some 5
  else if !cDigests b then some 6
  else if !s.cTagsOk b then some 7
  else none

/-- A slot becomes STAGED with the container that it holds (R430, R435): VERSION and SVN, attempt count 0 (R445). -/
def State.makeStaged (s : State) (k source : Nat) : State :=
  let b := s.slotBytes k
  let s := ((s.setSlotState k slStaged).setAttempts k 0).setSlotSvn k (w32 (cSvn b))
  let s := (s.wr (0xC0014 + 4 * k) (w32 (cVersion b))).bootWrite
  s.postFirn 0x0D04 (w32 k) (w32 (cVersion b)) (w32 source)

/-! ### Avalanche (R431 to R438) -/

/-- The downstream neighbour at T1L port `p` (R431); 0: none. -/
def State.downAddr (s : State) (p : Nat) : W16 := s.conf.downAddr.getD p 0

/-- The key of Avalanche's CMACs, slot 2 (R432, R452). -/
def State.avlKey (s : State) : Bytes := (s.slot 2).key

/-- NBLOCK of a length (R432). -/
def nBlocks (n : Nat) : Nat := (n + 4095) / 4096

/-- The CMAC of a block (R432). -/
def State.blockCmac (s : State) (image : W32) (b : Nat) (data : Bytes) : Bytes :=
  cmac256 s.avlKey (beBytes 4 image.toNat ++ beBytes 2 b ++ data)

/-- The first 28 bytes of an announce body (R431). -/
def annBody (image : W32) (len : Nat) (flags : Byte) (version svn : W32) (at_ : W64) : Bytes :=
  beBytes 4 image.toNat ++ beBytes 4 len ++ beBytes 2 (nBlocks len) ++ [flags, 0] ++ beBytes 4 version.toNat ++
    beBytes 4 svn.toNat ++ beBytes 8 at_.toNat

/-- IMAGE_ID and LENGTH of a transfer. -/
def AvTx.image (x : AvTx) : W32 := w32 (beNat (sliceB x.ann 0 4))
def AvTx.length (x : AvTx) : Nat := beNat (sliceB x.ann 4 4)

/-- The 4,096 bytes of block `b` of a slot; the last block is padded with zeros (R432). -/
def State.blockData (s : State) (slot len b : Nat) : Bytes :=
  let n := min 4096 (len - 4096 * b)
  s.rdMem (slotBase slot + 4096 * b) n ++ List.replicate (4096 - n) 0

/-- Launch an Avalanche frame on queue 1 (R435). -/
def State.sendAv (s : State) (p dst subtype : Nat) (cmd : Bool) (body : Bytes) : State :=
  s.sendOwn p 1 0 (s.fieldFrame dst subtype cmd body)

/-- Send a transfer's announce (R431); without a valid slot 2 no CMAC can be formed (R453) and none leaves. -/
def State.sendAnnounce (s : State) (p : Nat) (x : AvTx) : State :=
  if s.slotValid 2 then s.sendAv p (s.downAddr p).toNat 0x30 true (x.ann ++ cmac256 s.avlKey x.ann) else s

/-- Send the four fragments of a block, with the CMAC under a valid slot 2 (R453). -/
def State.sendBlock (s : State) (p : Nat) (x : AvTx) (b : Nat) : State :=
  if !s.slotValid 2 then s else
  let d := s.blockData x.slot x.length b
  (List.range 4).foldl (fun t f =>
    t.sendAv p (t.downAddr p).toNat 0x31 false (beBytes 4 x.image.toNat ++ beBytes 2 b ++ [BitVec.ofNat 8 f, 0] ++
      sliceB d (1024 * f) 1024 ++ (if f = 3 then s.blockCmac x.image b d else []))) s

/-- The unit holds block `b` of an image in a slot: its own image, or a block received (R435). -/
def State.holdsBlock (s : State) (slot b : Nat) : Bool :=
  match s.boot.rx with
  | some r => r.slot != slot || r.held.contains b
  | none => true

/-- Set a transfer. -/
def State.setTx (s : State) (p : Nat) (x : AvTx) : State := { s with boot := { s.boot with tx := kset s.boot.tx p x } }

/-- Send the blocks of a transfer that its window, the blocks held and the queue's room allow (R434, R435). -/
def State.pump (s : State) (p : Nat) : Nat → State
  | 0 => s
  | n + 1 =>
    match kfind s.boot.tx p with
    | some x =>
      if x.announced && !x.suspended && decide (x.sent < x.next + 8) && decide (x.sent < nBlocks x.length) &&
          s.holdsBlock x.slot x.sent && s.slotValid 2 && decide ((s.queue p 1).length + 4 ≤ 64) && s.hasRoom p 1 4496 then
        ((s.sendBlock p x x.sent).setTx p { x with sent := x.sent + 1 }).pump p n
      else s
    | none => s

/-- The section of a role component in the running slot matches its DIGEST (R441, R482). -/
def State.componentOk (s : State) (c : Nat) : Bool :=
  let b := s.slotBytes s.running
  ((cSections b).filter fun x => x.ty == c).all fun x => sha256 (cStored b x) == x.digest

/-- The component that carries the firmware of a role (R420). -/
def roleComponent (k : Nat) : Nat := if k ≤ 3 then 2 else if k ≤ 5 then 3 else k - 2

/-- A transfer to the neighbour at port `p` starts with its announce. -/
def State.startTx (s : State) (p slot : Nat) (ann : Bytes) : State :=
  let x : AvTx := { slot := slot, ann := ann, next := 0, sent := 0, resends := 0, suspended := false, announced := false,
                     since := s.now }
  (s.sendAnnounce p x).setTx p x

/-- The relay does not run: a NET role has lost its firmware (R485; DEDUCED, log 24), or Firn restarts (R438). Bedrock's own
reception needs no role. -/
def State.avStopped (s : State) : Bool :=
  s.bit 0x10010 1 || (!s.recovery && (s.pwr.lost.getLsbD 4 || s.pwr.lost.getLsbD 5))

/-- A frame of Avalanche reaches the relay; `low` is what the relay does of a failed claim check. -/
def State.avReceived (s : State) (h : FrameHeader) (subtype : Nat) (cmd : Bool) (body : State → State)
    (low : State → State := id) : State :=
  s.received h subtype cmd (fun s => if s.avStopped then s else body s) (fun s => if s.avStopped then s else low s)

/-- The lowest block not held (R434). -/
def AvRx.nextBlock (r : AvRx) : Nat := ((List.range (nBlocks r.length)).find? fun b => !r.held.contains b).getD (nBlocks r.length)

/-- Answer with AV_ACK (R434). -/
def State.sendAck (s : State) (p : Nat) (dst : W16) (image : W32) (next held state : Nat) : State :=
  s.sendAv p dst.toNat 0x32 false (beBytes 4 image.toNat ++ beBytes 2 next ++ beBytes 2 held ++
    [BitVec.ofNat 8 state, 0, 0, 0])

/-- The acknowledgement of a reception as it stands. -/
def State.ackRx (s : State) (p : Nat) (r : AvRx) (state : Nat) : State :=
  s.sendAck p r.sender r.image r.nextBlock r.held.length state

/-- Set the reception and show it in BOOT_AV_ID and BOOT_AV_HELD; a complete one is no longer being received. -/
def State.setRx (s : State) (r : AvRx) (open_ : Bool) : State :=
  ({ s with boot := { s.boot with rx := some r } } : State).wrAll
    [(aAvId, if open_ then r.image else 0), (aAvHeld, if open_ then w32 r.held.length else 0)]

/-- The slot into which Avalanche receives (R433, R444): the inactive slot; in recovery A, or B when A is the only GOOD
slot. -/
def State.avSlot (s : State) : Nat :=
  if s.recovery then (if s.slotState 0 = slGood ∧ s.slotState 1 ≠ slGood then 1 else 0) else s.inactive

/-- Avalanche is receiving into a slot. -/
def State.receiving (s : State) (k : Nat) : Bool :=
  match s.boot.rx with
  | some r => r.slot == k && s.slotState k == slWriting
  | none => false

/-- The last block has been received (R435): the container is checked; STAGED with its record, AV_DONE and vector 0, or
FAILED. -/
def State.avComplete (s : State) (p : Nat) (r : AvRx) : State :=
  let s := s.setRx { r with saved := r.held } false
  if (s.slotCheck r.slot).isNone then
    let s := if r.activateAt = 0 then s else { s with boot := { s.boot with actAt := some (r.image, r.slot, r.activateAt) } }
    let s := (s.makeStaged r.slot 1).postFirn 0x0D06 r.image (w32 r.held.length) (w32 ((s.now - r.started) / 1000000))
    (s.event 0).ackRx p r 1
  else ((s.setSlotState r.slot slFailed).bootWrite).ackRx p r 2

/-- Pump the relay of every port that takes blocks from a slot. -/
def State.pumpAll (s : State) : State := [0, 1].foldl (fun t p => t.pump p 8) s

/-- A block with all four fragments and its CMAC is in hand (R434): stored when the CMAC passes, discarded otherwise. -/
def State.avBlock (s : State) (p : Nat) (r : AvRx) : State :=
  let d := (List.range 4).flatMap fun f => (kfind r.frags f).getD []
  if s.blockCmac r.image r.block d == (kfind r.frags 4).getD [] && s.slotValid 2 then
    let s := s.wrMem (slotBase r.slot + 4096 * r.block) (d.take (min 4096 (r.length - 4096 * r.block)))
    let held := insNat r.held r.block
    let r := { r with held := held, frags := [] }
    if held.length = nBlocks r.length then (s.avComplete p r).pumpAll
    else
      let save := decide (held.length % 64 = 0)
      let s := s.setRx (if save then { r with saved := held } else r) true
      (((if save then s.bootWrite else s).ackRx p r 0).pumpAll)
  else (s.setRx { r with frags := [] } true).ackRx p r 0

end Sys2Proof.Machine
end

