-- ==== Sys2Proof/Machine/PairOps.lean ====
section
/-! DEFINITION. The pair unit: states, claims, the mirror engine, what enters and leaves each state (12). -/

namespace Sys2Proof.Machine

/-- PAIR registers. -/
abbrev aPairCtrl : Nat := 0x90004
abbrev aClaim : Nat := 0x9000C
abbrev aPClaim : Nat := 0x90010
abbrev aEpoch : Nat := 0x90014
abbrev aIl : Nat := 0x90018
abbrev aHbMiss : Nat := 0x9001C
abbrev aMseq : Nat := 0x90020
abbrev aMbytes : Nat := 0x90024
abbrev aBacklog : Nat := 0x90028
abbrev aFeed : Nat := 0x90030

/-- The valid level of PAIR_IL_IN (R370). -/
def State.ilIn (s : State) : Bool := s.bit aIl 1
/-- The pair link is up. -/
def State.pairLink (s : State) : Bool := s.linkUp 3
/-- The partner's field address. -/
def State.partner (s : State) : Nat := s.pair.cfg.partner.toNat

/-- EPOCH takes a value, and the claim and the stored copy with it (R365, R366). -/
def State.setEpoch (s : State) (e : Nat) : State :=
  ((s.wr aEpoch (w32 e)).wr aClaim (w32 (e * 256 + s.pair.cfg.unitId.toNat))).setConf fun c => { c with epoch := e }

/-- What holds the outputs without FREEZE: start-up before RUN, and the pair states of R369. -/
def State.holdDue (s : State) : Bool :=
  !s.bit 0xA0004 0 || !(s.pairState == 0 || s.pairState == 2)

/-- FAULT_STATE.HOLD follows what holds the outputs. -/
def State.settleHold (s : State) : State :=
  if s.bit 0xA0008 1 = s.holdDue then s else s.setHold s.holdDue

/-- The pair unit changes state (R385, R369, R370): MB_EVENT bit 13, the record, PAIR_IL_OUT, MB_STATUS.STANDBY, the hold
and the fault source of CLASH. -/
def State.setPairState (s : State) (n : Nat) : State :=
  let old := s.pairState
  if old = n then s
  else
    let s := (((s.setFld aPairState 3 0 n).event 13).setBit aIl 0 (n == 2)).settleHold
    let s := (s.status 7 (n != 0 && n != 2)).postHw 0x0A01 (w32 old) (w32 n) (s.rd aClaim)
    if n = 8 then s.level 72 true else s

/-! ### Frames on the pair link -/

/-- A frame of a subtype to the partner. -/
def State.toPartner (s : State) (subtype : Nat) (body : Bytes) : Bytes := s.fieldFrame s.partner subtype false body

/-- The FLAGS of this unit's heartbeats (R373): SYNCED is PAIR_STATE.SYNCED at a standby and, at the active, that it has
not marked the standby unsynced (R380). -/
def State.hbFlags (s : State) (pfail : Bool) : Nat :=
  b2n s.frozen + 2 * b2n (if s.pairState = 2 then !s.pair.mirrorOff else s.bit aPairState 8) + 4 * b2n (s.bit aIl 0) +
  8 * b2n s.ilIn + 16 * b2n (s.bit aFeed 0) + 32 * b2n (s.bit aFeed 1) + 64 * b2n s.pair.cfg.primary + 128 * b2n pfail

/-- Launch a heartbeat with a launch time, or at once with 0 (R373): port 3, queue 7, under DROP. -/
def State.sendHeartbeat (s : State) (launch : Nat) (pfail : Bool) : State :=
  if !s.pair.alive || s.pair.pfail || !s.paired then s
  else
    let n := (s.pair.hbSeq + 1) % 65536
    let s := { s with pair := { s.pair with hbSeq := n } }
    s.sendOwn 3 7 launch (strict := true) (s.toPartner 0x40
      ([BitVec.ofNat 8 s.pairState, BitVec.ofNat 8 (s.hbFlags pfail)] ++ beBytes 2 n ++ beBytes 4 (s.rd aPClaim).toNat ++
        beBytes 4 (s.rd aMseq).toNat ++ beBytes 4 (s.rd aEpoch).toNat ++ beBytes 8 (if launch = 0 then s.now else launch)))

/-- PAIR_BACKLOG shows the bytes that wait. -/
def State.showBacklog (s : State) : State := s.wr aBacklog (w32 (s.pair.backlog.map fun b => b.length).sum)

/-- Frames that wait move to the port while its queue has room; `n` bounds how many. -/
def State.pairRefill (s : State) : Nat → State
  | 0 => s
  | n + 1 =>
    match s.pair.backlog with
    | b :: t =>
      if s.pairLink && s.hasRoom 3 5 b.length then
        (({ s with pair := { s.pair with backlog := t } } : State).sendOwn 3 5 0 b).pairRefill n
      else s
    | [] => s

/-- The mirror engine moves what it can to the port. -/
def State.pairDrain (s : State) : State := (s.pairRefill 65).showBacklog

/-- Frames of the pair unit to the partner, in order behind those that wait. -/
def State.pairSend (s : State) (l : List Bytes) : State :=
  ({ s with pair := { s.pair with backlog := s.pair.backlog ++ l } } : State).pairDrain

/-! ### The mirror (R377 to R381) -/

/-- PAIR_MIRk_BASE and _LEN. -/
def State.region (s : State) (k : Nat) : Nat × Nat := ((s.rd (0x90100 + 8 * k)).toNat, (s.rd (0x90104 + 8 * k)).toNat)

/-- The body of MIRROR_TABLE. -/
def State.tableBody (s : State) : Bytes :=
  (List.range 80).flatMap fun k => beBytes 4 (s.region k).1 ++ beBytes 4 (s.region k).2

/-- Groups of at most 20; `n` bounds how many. -/
def groups20 {α : Type} (l : List α) : Nat → List (List α)
  | 0 => []
  | n + 1 => if l.isEmpty then [] else l.take 20 :: groups20 (l.drop 20) n

/-- A line that travels: its offset and its 64 bytes. -/
abbrev MirrorLine := Nat × Bytes

/-- Lines of shared SRAM as they travel. -/
def State.sramLines (s : State) (l : List Nat) : List MirrorLine := l.map fun n => (n * 64, s.rdMem (n * 64) 64)

/-- The frames of a point: MIRROR_DATA frames of up to 20 lines, and MIRROR_END (12). -/
def State.pointFrames (s : State) (mseq flags : Nat) (lines : List MirrorLine) : List Bytes :=
  ((groups20 lines lines.length).map fun g =>
    s.toPartner 0x41 (beBytes 4 mseq ++ [BitVec.ofNat 8 g.length, BitVec.ofNat 8 flags, 0, 0] ++
      g.flatMap fun l => beBytes 4 l.1 ++ l.2)) ++
  [s.toPartner 0x42 (beBytes 4 mseq ++ beBytes 4 lines.length ++ [BitVec.ofNat 8 flags, 0, 0, 0])]

/-- A point of given lines goes out under the next MSEQ. -/
def State.sendPoint (s : State) (flags : Nat) (lines : List MirrorLine) : State :=
  let m := ((s.rd aMseq).toNat + 1) % 2 ^ 32
  (s.wr aMseq (w32 m)).pairSend (s.pointFrames m flags lines)

/-- A waiting frame belongs to a resync point. -/
def isResyncFrame (b : Bytes) : Bool :=
  (subtypeOf b == 0x41 && ((fieldPart b).getD 21 0).getLsbD 1) || (subtypeOf b == 0x42 && ((fieldPart b).getD 24 0).getLsbD 1)

/-- Bytes that wait unsent and count for R380: those of resync points do not. -/
def State.waitingBytes (s : State) : Nat :=
  ((s.pair.backlog.filter fun b => !isResyncFrame b).map fun b => b.length).sum

/-- The standby loses sync (R380): no more lines go out until a resync. -/
def State.mirrorFail (s : State) (cause : Nat) : State :=
  let s := { s with pair := { s.pair with mirrorOff := true, backlog := [] } }
  ((s.showBacklog).setBit aPairState 13 true).postHw 0x0A05 (w32 cause) (s.rd aMbytes) (s.rd aMseq)

/-- A mirror point (R378, R380) that also carries drift lines, which count with `volume` bytes (R178). -/
def State.mirrorPointWith (s : State) (drift : List MirrorLine) (volume : Nat) : State :=
  if s.pairState != 2 || s.pair.mirrorOff then s
  else
    let lines := s.sramLines s.pair.dirty ++ drift
    let total := (s.rd aMbytes).toNat + 64 * s.pair.dirty.length + volume
    if total > 0x800000 then s.mirrorFail 1
    else if 64 * lines.length > 0x200000 then s.mirrorFail 2
    else
      let s := ({ s with pair := { s.pair with dirty := [] } } : State).wr aMbytes (w32 total)
      let s := s.sendPoint 0 lines
      if s.waitingBytes > 0x400000 then s.mirrorFail 3 else s

/-- A mirror point (R378). -/
def State.mirrorPoint (s : State) : State := s.mirrorPointWith [] 0

/-- The lines that a run touches. -/
def linesOf (a n : Nat) : List Nat :=
  if n = 0 then [] else (List.range ((a + n - 1) / 64 - a / 64 + 1)).map fun i => a / 64 + i

/-- A result record whose header lies in a carry range goes out as a point of its own (R379). -/
def State.carryRecord (s : State) (a n : Nat) : State :=
  if s.pairState != 2 || s.pair.mirrorOff then s
  else if (List.range 16).any fun k =>
      let r := s.region (64 + k)
      decide (r.1 ≤ a ∧ a < r.1 + r.2) then
    let s := s.sendPoint 1 (s.sramLines (linesOf a n))
    if s.waitingBytes > 0x400000 then s.mirrorFail 3 else s
  else s

/-- Cut a list into runs of at most `m`; `n` bounds how many. -/
def runsOf (m : Nat) (l : List Nat) : Nat → List (List Nat)
  | 0 => []
  | n + 1 => if l.isEmpty then [] else l.take m :: runsOf m (l.drop m) n

/-- The active answers a resync request (R384): the table, every line of every region and carry range as resync points of
at most 2 MB, RESYNC_END. -/
def State.sendResync (s : State) : State :=
  let lines := (List.range 80).flatMap fun k => linesOf (s.region k).1 (s.region k).2
  let s := { s with pair := { s.pair with mirrorOff := false, dirty := [] } }
  let s := s.pairSend [s.toPartner 0x47 s.tableBody]
  let runs := runsOf 32768 lines (lines.length / 32768 + 1)
  let s := (if runs.isEmpty then [[]] else runs).foldl (fun t r => t.sendPoint 2 (t.sramLines r)) s
  s.pairSend [s.toPartner 0x46 (beBytes 4 (s.rd aMseq).toNat)]

/-! ### Entering states -/

/-- The larger of the own epoch and the partner's last (R366). -/
def State.topEpoch (s : State) : Nat := max (s.rd aEpoch).toNat s.pair.pEpoch

/-- EPOCH cannot rise (R366). -/
def State.epochAtEnd (s : State) : Bool := decide (s.topEpoch ≥ 0xFFFFFF)

/-- A unit whose epoch is at its end does not become active (R366). -/
def State.epochStop (s : State) : State :=
  (s.setBit aPairState 14 true).postHw 0x0A09 (w32 s.topEpoch) 0 0

/-- Enter ACTIVE with the claim as it stands: the standby's flags end, and a heartbeat goes out at once (R370, R373). -/
def State.enterActive (s : State) : State :=
  let s := (s.setBit aPairState 8 false).setBit aPairState 10 false
  let s := { s with pair := { s.pair with activeSince := s.now, deferred := 0, staged := none, offer := none, frozenRun := 0,
                                          rsEnd := none, rsFirst := false } }
  (s.setPairState 2).sendHeartbeat 0 false

/-- A unit that was a standby goes on from the drift state that the mirror has brought, and sends no plan of a period whose
rounds it did not run (R178, R179). It runs rounds from the current period on where the mirror shows that its partner ran
them: drift lines have come, and in this period or the one before where the unit is synced (DESIGN CHOICE, log 65). -/
def State.takeOverDrift (s : State) : State :=
  if s.pairState = 1 then s
  else
    let k := (s.periodAt s.now).getD 0
    let runs := s.drift.hd.linesAt.any fun t => s.pairState != 3 || decide (k ≤ (s.periodAt t).getD 0 + 1)
    { s with drift := { s.drift with hd := { s.drift.hd with mirrored := true, ran := false, final := 0, waiting := []
                                                             started := if runs then some k else none } } }

/-- A unit that leaves or takes the active role has failed no mirror (R380). -/
def State.mirrorAnew (s : State) : State := { s with pair := { s.pair with mirrorOff := false } }

/-- A unit becomes active (R366). -/
def State.becomeActive (s : State) : State :=
  if s.epochAtEnd then s.epochStop else (s.mirrorAnew.takeOverDrift.setEpoch (s.topEpoch + 1)).enterActive

/-- Send RESYNC_REQ and enter RESYNC (R384). -/
def State.requestResync (s : State) : State :=
  let s := s.pairSend [s.toPartner 0x45 (beBytes 4 (s.rd aEpoch).toNat)]
  let s := { s with pair := { s.pair with rsFirst := true, rsEnd := none, staged := none, resyncAt := s.now } }
  s.setPairState 5

/-- An UNSYNCED unit requests a resync at once where AUTO_RESYNC is 1 and the link is up (R384). -/
def State.autoResync (s : State) : State :=
  if s.pairState == 4 && s.pair.cfg.autoResync && s.pairLink && s.pair.alive then s.requestResync else s

/-- Enter UNSYNCED. -/
def State.enterUnsynced (s : State) : State :=
  let s := s.mirrorAnew.setBit aPairState 8 false
  let s := { s with pair := { s.pair with staged := none, offer := none, rsEnd := none } }
  (s.setPairState 4).autoResync

/-- Enter STANDBY with SYNCED set. -/
def State.enterStandby (s : State) : State := (s.mirrorAnew.setBit aPairState 8 true).setPairState 3

/-- An ACTIVE unit demotes itself (R372). -/
def State.demote (s : State) (partnerClaim : W32) (cause : Nat) : State :=
  (s.postHw 0x0A02 (s.rd aClaim) partnerClaim (w32 cause)).enterUnsynced

/-- A standby under the loss condition with PAIR_IL_IN valid low takes over, or says why not (R374 to R376); it says so
once for each loss. -/
def State.takeOver (s : State) (say : Bool) : State :=
  let st := s.pairState
  if !(st == 3 || st == 4 || st == 5) || s.ilIn || !s.pair.loss || !s.pair.alive then s
  else
    let no := fun (c : Nat) => if say then s.postHw 0x0A04 (w32 st) (w32 c) 0 else s
    if st != 3 && !s.pair.cfg.takeUnsynced then no 1
    else if s.frozen then no 2
    else if s.epochAtEnd then (if say then (no 3).epochStop else s)
    else s.becomeActive

/-- The loss condition begins to hold at a standby (R374): LINK_LOST while PAIR_IL_IN is valid high, a takeover else. -/
def State.lossBegins (s : State) : State :=
  let st := s.pairState
  if !(st == 3 || st == 4 || st == 5) then s
  else
    let s := { s with pair := { s.pair with loss := true } }
    if s.ilIn then (s.setBit aPairState 10 true).postHw 0x0A03 (s.rd aHbMiss) (s.rd aPClaim) 0
    else s.takeOver true

/-- A check has found no heartbeat, the `n`-th in a row (R374): from the fifth on an ACTIVE unit shows PARTNER_LOST, and the loss
condition of another begins where it does not hold already; a pending takeover is taken while it lasts. -/
def State.missed (s : State) (n : Nat) : State :=
  if n < 5 then s.takeOver false
  else if s.pairState == 2 then s.setBit aPairState 9 true
  else if s.pair.loss then s.takeOver false
  else s.lossBegins

/-- A standby whose offer's point is applied accepts once PAIR_IL_IN is valid low (R383, R375); one whose epoch is at its end
says so and stays (R366). -/
def State.tryAccept (s : State) : State :=
  match s.pair.offer with
  | some m =>
    if !(s.pairState == 3 && s.rd aMseq == m && !s.ilIn && !s.frozen) then s
    else if s.epochAtEnd then ({ s with pair := { s.pair with offer := none } } : State).epochStop
    else
      let old := s.pair.oldClaim
      let s := s.becomeActive
      let s := s.pairSend [s.toPartner 0x44 (beBytes 4 (s.rd aClaim).toNat)]
      s.postHw 0x0A07 old (s.rd aClaim) 0
  | none => s

/-- The old active gives up its voice for good (R383): STANDBY, the record, and PAIR_SWAP's completion. -/
def State.swapDone (s : State) (claim : W32) : State :=
  let s := (s.enterStandby).postHw 0x0A07 s.pair.oldClaim claim 0
  let id := s.pair.swapCmd
  let s := { s with pair := { s.pair with swapCmd := none } }
  match id with
  | some i => s.finishId i eOk claim 0 0
  | none => s

/-- The conditions of R382 under which a swap is taken. -/
def State.swapOk (s : State) : Bool :=
  s.pair.pState == 3 && s.pair.pFlags.getLsbD 1 && !s.frozen && !s.pair.pFlags.getLsbD 0 && s.pairLink &&
  !s.bit aPairState 12

/-- A swap is taken (R383 step 1). -/
def State.startSwap (s : State) (id : Option Nat) : State :=
  let s := s.mirrorPoint
  let s := s.pairSend [s.toPartner 0x43 (beBytes 4 (s.rd aMseq).toNat ++ beBytes 4 (s.rd aClaim).toNat)]
  let s := { s with pair := { s.pair with swapCmd := id, oldClaim := s.rd aClaim, swapAt := s.now } }
  s.setPairState 6

/-- A PAIR_RESYNC command. -/
def isPairResync (c : Instr) : Bool := match c with | .pairResync _ => true | _ => false

/-- Hooks of the pair link's state (R384). -/
def State.pairLinkUp (s : State) : State := s.pairDrain.autoResync
/-- The link of the pair fails: a resync in progress ends (R384). -/
def State.pairLinkDown (s : State) : State :=
  let s := { s with pair := { s.pair with linkSince := s.now } }
  if s.pairState == 5 then
    (s.enterUnsynced).finishAll isPairResync 0x0101 0 0 0
  else s

end Sys2Proof.Machine
end

