-- ==== Sys2Proof/Machine/LoopOps.lean ====
section
/-! DEFINITION. The loop engine: descriptors, sources, the control law, relay auto-tune and one evaluation (06). -/

namespace Sys2Proof.Machine

/-- Register `o` of loop `k`'s group. -/
def lReg (k o : Nat) : Nat := 0x34000 + 32 * k + o

/-- A loop's own state. -/
def State.lrun (s : State) (k : Nat) : LoopRun := kget {} s.loop.runs k
def State.setLrun (s : State) (k : Nat) (r : LoopRun) : State :=
  { s with loop := { s.loop with runs := kput {} s.loop.runs k r } }

/-- A written part of a loop: 0 and 1 the banks, 2 the configuration (R516). -/
def State.lpart (s : State) (k p : Nat) : Option Bytes := kfind s.loop.parts (k * 4 + p)
/-- A loop's configuration; zeros while unwritten. -/
def State.lcfg (s : State) (k : Nat) : Bytes := (s.lpart k 2).getD []
/-- The active bank of a loop. -/
def State.actBank (s : State) (k : Nat) : Nat := b2n (s.bit (0x30100 + 4 * (k / 32)) (k % 32))
/-- A bank's bytes; zeros while unwritten. -/
def State.lbank (s : State) (k p : Nat) : Bytes := (s.lpart k p).getD []
/-- A binary64 field of a part. -/
def dblAt (b : Bytes) (o : Nat) : Dbl := w64 (leAt b o 8)

/-- LOOP_STATk: the mode in force, and the pending bits. -/
def State.lmode (s : State) (k : Nat) : Nat := s.fld (lReg k 8) 2 0
def State.swapPend (s : State) (k : Nat) : Bool := s.bit (lReg k 8) 5
/-- The mode in force changes. -/
def State.setLmode (s : State) (k m : Nat) : State :=
  (s.setFld (lReg k 8) 2 0 m).setBit (0x30120 + 4 * (k / 32)) (k % 32) (m != 0)

/-- Fields of a configuration. -/
def cPeriod (b : Bytes) : Nat := leAt b 0 4
def cPhase (b : Bytes) : Nat := leAt b 4 4
def cFlag (b : Bytes) (i : Nat) : Bool := (b.getD 8 0).getLsbD i
def cDest (b : Bytes) : Nat := leAt b 10 1
def cDestIdx (b : Bytes) : Nat := leAt b 12 2

/-- FREEZE as the loops see it: FREEZE, or the hold of the pair states (R202, R369). -/
def State.loopFrozen (s : State) : Bool := s.frozen || !(s.pairState == 0 || s.pairState == 2)

/-! ### The load rule (R188) -/

/-- The loop is not OFF, or is about to leave OFF. -/
def State.loopLive (s : State) (k : Nat) : Bool := s.lmode k != 0 || ((s.lrun k).req.any fun q => q.1 != 0)

/-- Two loops can coincide. -/
def State.coincide (s : State) (j k : Nat) : Bool :=
  let a := s.lcfg j
  let b := s.lcfg k
  let g := Nat.gcd (cPeriod a) (cPeriod b)
  g != 0 && cPhase a % g == cPhase b % g

/-- How many of the loops of a list, other than `k`, can coincide with loop `k`. -/
def State.coincidents (s : State) (l : List Nat) (k : Nat) : Nat :=
  (l.filter fun j => j != k && s.coincide j k).length

/-- Why loop `k` may not leave OFF: the number of loops that could coincide with it, when some loop would exceed 55; none
when it may. -/
def State.loadFails (s : State) (k : Nat) : Option Nat :=
  let l := insNat ((List.range 256).filter s.loopLive) k
  if l.all fun j => decide (s.coincidents l j ≤ 55) then none else some (s.coincidents l k)

/-- The configuration or the active bank of a loop is unwritten (R516). -/
def State.loopUnset (s : State) (k : Nat) : Bool := (s.lpart k 2).isNone || (s.lpart k (s.actBank k)).isNone

/-! ### Requests (R201, R206) -/

/-- MODE_PEND follows the request. -/
def State.setReq (s : State) (k : Nat) (q : Option (Nat × Bool × Option Dbl)) : State :=
  (s.setLrun k { s.lrun k with req := q }).setBit (lReg k 8) 6 q.isSome

/-- A refused register request (R206): counted and logged. -/
def State.rejectCmd (s : State) (k : Nat) (bits : W32) (cause : Nat) : State :=
  (s.count 0x30018 1).postHw 0x0403 (w32 k) bits (w32 cause)

/-- LOOP_TUNE_STATE and LOOP_TUNE_LOOP. -/
def State.showTune (s : State) (k st periods : Nat) (active : Bool) : State :=
  (s.wr 0x30034 (w32 (st + periods * 256))).wr 0x30030 (w32 (k + 256 * b2n active))

/-- A tune ends, or a pending one is cancelled, with a state (R207, R209); the previous mode follows unless a request
waits. A loop whose tune was pending has not been in TUNE: LOOP_TUNE_LOOP keeps the one that was. -/
def State.endTune (s : State) (t : Tune) (st : Nat) : State :=
  let s := { s with loop := { s.loop with tune := none } }
  let say := fun (s : State) => s.postHw 0x0404 (w32 t.loop) (w32 st) (w32 t.periods)
  match t.prev with
  | some m =>
    let s := say (s.showTune t.loop st t.periods false)
    s.setLrun t.loop { s.lrun t.loop with after := some m }
  | none => say (s.wr 0x30034 (w32 st))

/-- The tune of a loop. -/
def State.tuneOf (s : State) (k : Nat) : Option Tune := s.loop.tune.filter fun t => t.loop == k

/-- A SETMODE request by a register write (R201, R206). -/
def State.cmdMode (s : State) (k m : Nat) (bump : Bool) : State :=
  let bits := w32 (8 + m % 8 + 16 * b2n bump)
  if m > 2 then s
  else if s.frozen then s.rejectCmd k bits 4
  else if m ≠ 0 ∧ !s.loopLive k then
    if s.loopUnset k then s.rejectCmd k bits 6
    else match s.loadFails k with
      | some n => (s.postFirn 0x0401 (w32 k) (w32 n) 2).rejectCmd k bits 5
      | none => s.setReq k (some (m, bump, none))
  else s.setReq k (some (m, bump, none))

/-- Why a swap is refused (R206): 1 OFF, 2 TUNE, 3 pending, 4 FREEZE, 7 inactive bank unwritten; 0 it is not. -/
def State.swapRefusal (s : State) (k : Nat) : Nat :=
  if s.lmode k = 0 then 1 else if s.lmode k = 3 then 2 else if s.swapPend k then 3 else if s.frozen then 4
  else if (s.lpart k (1 - s.actBank k)).isNone then 7 else 0

/-- A SWAP request by a register write (R206). -/
def State.cmdSwap (s : State) (k : Nat) : State :=
  match s.swapRefusal k with
  | 0 => s.setBit (lReg k 8) 5 true
  | c => s.rejectCmd k 0x20 c

/-- TUNE_ABORT (R207, R209): a pending tune is cancelled at once; one in progress ends at its next sample. -/
def State.cmdAbort (s : State) (k : Nat) : State :=
  match s.tuneOf k with
  | some t => if t.prev.isNone then s.endTune t 5 else { s with loop := { s.loop with tune := some { t with abort := true } } }
  | none => s

/-! ### Sources (R189) -/

/-- The value and the BAD quality of a source entry at offset `o` of a configuration. -/
def State.source (s : State) (cfg : Bytes) (o : Nat) (const : Dbl) : Dbl × Bool :=
  let idx := leAt cfg (o + 2) 2
  let arg := leAt cfg (o + 4) 4
  match leAt cfg o 1 with
  | 0 => (const, false)
  | 1 => (kget 0 s.loop.src arg, false)
  | 2 => (kget 0 s.loop.src (0x100000 + arg), false)
  | 3 => (kget 0 s.loop.meter idx, s.loop.meterBad.contains idx)
  | 4 => (s.rd64 (0x38000 + 8 * idx), s.fld (0x3A000 + 4 * (idx / 16)) (2 * (idx % 16) + 1) (2 * (idx % 16)) == 2)
  | 5 => (s.rd64 (0x30600 + 8 * idx), false)
  | _ => (s.rd64 (lReg idx 0), s.lmode idx == 0)

/-- The lowest inner loop of loop `k` that is not in normal AUTO operation (R196). -/
def State.trackedInner (s : State) (k : Nat) : Option Nat :=
  (List.range 256).find? fun j =>
    let c := s.lcfg j
    (s.lpart j 2).isSome && leAt c 16 1 == 6 && leAt c 18 2 == k &&
    (s.lmode j != 2 || (s.lrun j).hold || (s.lrun j).frz)

/-! ### The control law (R197) -/

/-- What one evaluation of R197 gives: the new state, EXC, and RANGE_HI, RANGE_LO and RATE. -/
structure Law where
  run : LoopRun
  exc : Bool
  hi : Bool
  lo : Bool
  rate : Bool

/-- R197: normal without `ustar`, a transfer with it. -/
def loopLaw (bank : Bytes) (r : LoopRun) (sp pv ff : Dbl) (ustar : Option Dbl) (rateEn dreset : Bool) (ts : Nat) : Law :=
  let f := fun i => dblAt bank (8 * i)
  let kp := f 0
  let ki := f 1
  let kt := f 7
  let umin := f 9
  let umax := f 10
  let rmax := f 11
  let ep := dFma (f 4) sp (dNeg pv)
  let ed := dFma (f 5) sp (dNeg pv)
  let e := dSub sp pv
  let edPrev := if dreset then ed else r.edPrev
  let dPrev := if dreset then dZero else r.dPrev
  let dd := dSub ed edPrev
  let bdd := dMul (f 3) dd
  let d := dFma (f 2) dPrev bdd
  let a0 := dMul kp ep
  let a1 := dAdd a0 d
  let a2 := dFma (f 6) ff a1
  let v0 := dAdd a2 (f 8)
  let pre := [ep, ed, e, dd, bdd, d, a0, a1, a2, v0]
  match ustar with
  | none =>
    let v := dAdd v0 r.i
    let w := dMin (dMax v umin) umax
    let lo := dSub r.uPrev rmax
    let hi := dAdd r.uPrev rmax
    let u := if rateEn then dMin (dMax w lo) hi else w
    let i1 := dFma ki e r.i
    let sub := dSub u v
    let i2 := dFma kt sub i1
    let ops := pre ++ [v, i1, sub, i2] ++ (if rateEn then [lo, hi] else [])
    { run := { r with i := i2, dPrev := d, edPrev := ed, uPrev := u, v := v, tsLast := ts, dreset := false, hold := false,
                      numHold := false, frz := false, xfer := none, xman := false },
      exc := !ops.all dFinite, hi := dLt umax v, lo := dLt v umin, rate := !dEq u w }
  | some u =>
    let i := dSub u v0
    { run := { r with i := i, dPrev := d, edPrev := ed, uPrev := u, v := dAdd v0 i, tsLast := ts, dreset := false, hold := false,
                      numHold := false, frz := false, xfer := none, xman := false },
      exc := !(pre ++ [i]).all dFinite, hi := false, lo := false, rate := false }

/-! ### Relay auto-tune (R208, R209) -/

/-- One relay sample: the tune after it, the output, and the end state when it ends (3, 4 or 6; 0 none). -/
def relay (t : Tune) (e pv : Dbl) (u0 : Dbl) (dir : Bool) (ts : Nat) : Tune × Dbl × Nat :=
  let first := t.up.isNone
  let was := t.up.getD true
  let now := if first then dLe dZero e
             else if was && dLt e (dNeg t.h) then false
             else if !was && dLt t.h e then true
             else was
  let switched := !first && now != was
  let upward := switched && now
  let sd := if now != dir then t.d else dNeg t.d
  let u := dFma dOne sd u0
  let t := { t with up := some now, since := if switched then 0 else t.since + 1 }
  let t := if t.tFirst.isSome then { t with hi := dMax t.hi pv, lo := dMin t.lo pv } else t
  if upward then
    match t.tFirst with
    | none => ({ t with tFirst := some ts, tLast := ts, hi := pv, lo := pv }, u, 0)
    | some _ =>
      let t := { t with sum := dAdd t.sum (dSub t.hi t.lo), periods := t.periods + 1, tLast := ts, hi := pv, lo := pv }
      if t.periods = t.nc then
        (t, u, if dLt t.h (dDiv t.sum (dOfInt (2 * t.nc))) then 3 else 6)
      else (t, u, 0)
  else (t, u, if t.since ≥ 4096 then 4 else 0)

/-- a and Tu of a tune that has measured its periods (R209). -/
def Tune.amp (t : Tune) : Dbl := dDiv t.sum (dOfInt (2 * t.nc))
def Tune.tu (t : Tune) : Nat := (t.tLast - t.tFirst.getD 0) / t.nc

/-- The tune's progress shows. -/
def State.putTune (s : State) (t : Tune) : State :=
  ({ s with loop := { s.loop with tune := some t, tuned := true } } : State).showTune t.loop (if t.tFirst.isSome then 2 else 1) t.periods true

/-! ### One evaluation (R185, R515) -/

/-- A mode change takes effect (R201, R209): a transfer that an earlier change still owed is owed no more. -/
def State.changeMode (s : State) (k m : Nat) (bump : Bool) (man : Option Dbl) : State :=
  let old := s.lmode k
  let r0 := s.lrun k
  let r := if old = m then r0 else { r0 with xfer := none, xman := false }
  let s := (s.setLmode k m).setLrun k r
  let toMan := fun (t : State) (kept : Dbl) =>
    if bump then t.wr64 (lReg k 0x10) kept
    else match man with
      | some v => t.wr64 (lReg k 0x10) v
      | none => t
  if m = 0 then s.setLrun k { r with xfer := none, xman := false, hold := false, numHold := false }
  else if old = 3 then
    if m = 1 then toMan s r.u0 else s.setLrun k { r with xfer := some r.u0 }
  else if old = 0 then
    let s := s.setLrun k { r with dreset := true, xman := m == 2 }
    if m = 1 then toMan s (s.rd64 (lReg k 0))
    else match man with
      | some v => s.wr64 (lReg k 0x10) v
      | none => s
  else if m = 1 then
    if old = 1 then (if bump then s else toMan s 0) else toMan s (s.rd64 (lReg k 0))
  else if old = 1 then s.setLrun k { r with xfer := some r.uPrev }
  else s

/-- A request to leave OFF takes effect at its loop's sample (R201): a configuration written since it was admitted is held to
R188 too, and a loop that would break it stays OFF, with the record (DESIGN CHOICE, log 89). -/
def State.leaveOff (s : State) (k : Nat) (q : Nat × Bool × Option Dbl) : State :=
  match (if s.lmode k = 0 ∧ q.1 ≠ 0 then s.loadFails k else none) with
  | some n => (s.setReq k none).postFirn 0x0401 (w32 k) (w32 n) (w32 (2 - b2n q.2.2.isSome))
  | none => (s.setReq k none).changeMode k q.1 q.2.1 q.2.2

/-- The pending request of a loop takes effect at its sample, unless its tune is in progress (R201, R207, R209). -/
def State.takeReq (s : State) (k : Nat) : State :=
  match s.tuneOf k with
  | some t =>
    if t.prev.isSome then s
    else match (s.lrun k).req with
      | some q => (s.endTune t 5).leaveOff k q
      | none => s
  | none =>
    let r := s.lrun k
    match r.req, r.after with
    | some q, _ => (s.setLrun k { r with after := none }).leaveOff k q
    | none, some m => (s.setLrun k { r with after := none }).changeMode k m true none
    | none, none => s

/-- A pending tune starts at its loop's sample, or is cancelled by FREEZE (R207). -/
def State.enterTune (s : State) (k : Nat) : State :=
  match s.tuneOf k with
  | some t =>
    if t.prev.isSome then s
    else if s.loopFrozen then s.endTune t 5
    else
      let m := s.lmode k
      let r := s.lrun k
      ((s.setLrun k { r with u0 := r.uPrev }).setLmode k 3).putTune { t with prev := some m }
  | none => s

/-- A pending swap takes effect at its loop's sample (R206). -/
def State.takeSwap (s : State) (k : Nat) : State :=
  if s.swapPend k then
    let b := 1 - s.actBank k
    ((s.setBit (0x30100 + 4 * (k / 32)) (k % 32) (b == 1)).setBit (lReg k 8) 4 (b == 1)).setBit (lReg k 8) 5 false
  else s

/-- A loop writes transmit value `j` (R193); the value it replaces is kept for 400 µs, since R358 sends values as they
stood 200 µs before a launch. -/
def State.setTxval (s : State) (j : Nat) (v : W64) : State :=
  let a := 0x3C000 + 8 * j
  let old := (s.loop.txOld.filter fun e => decide (s.now < e.1 + 400000))
  ({ s with loop := { s.loop with txOld := (s.now, j, s.rd64 a) :: old } } : State).wr64 a v

/-- Transmit value `j` as it stood at an instant. -/
def State.txAt (s : State) (t j : Nat) : W64 :=
  match (s.loop.txOld.filter fun e => e.2.1 == j && decide (t < e.1)).getLast? with
  | some e => e.2.2
  | none => s.rd64 (0x3C000 + 8 * j)

/-- The PWM channels in the commit lists of the programs held (R194). -/
def State.cycPwms (s : State) : List Nat :=
  ([s.cyc.act, s.cyc.pend].filterMap id).flatMap fun p => p.tasks.flatMap fun t =>
    t.commit.flatMap fun e => if e.kind = 18 then (List.range e.count).map fun i => e.index + i else []

/-- The output of an evaluation goes to LOOP_OUTk and the destination (R193), and the flags of LOOP_STATk are updated: those
that a sample which holds, a NUMERR sample or a relay sample does not form, of which nothing is stated, read 0 after it
(DESIGN CHOICE, log 89). -/
def State.putOut (s : State) (k : Nat) (u : Dbl) (flags : Nat) : State :=
  let c := s.lcfg k
  let s := s.wr64 (lReg k 0) u
  let s := match cDest c with
    | 1 => s.drivePwm (cDestIdx c) u
    | 2 => s.setTxval (cDestIdx c) u
    | _ => s
  s.setFld (lReg k 8) 12 7 (flags / 128)

/-- A NUMERR sample (R200). -/
def State.numErr (s : State) (k ts : Nat) : State :=
  let r := s.lrun k
  let s := s.setLrun k { r with numHold := true, hold := false, frz := false }
  let s := ((s.putOut k r.uPrev 0).setBit (lReg k 8) 13 true).count 0x30010 1
  s.postHw 0x0402 (w32 k) (w32 ts) (w32 (ts / 2 ^ 32))

/-- The value that a transfer outputs, by the first cause of R515 that applies; none for a normal evaluation. -/
def State.ustar (s : State) (k : Nat) (swapped : Bool) (inner : Option Nat) : Option Dbl :=
  let c := s.lcfg k
  let r := s.lrun k
  let b := s.lbank k (s.actBank k)
  let lim := fun v => dMin (dMax v (dblAt b 72)) (dblAt b 80)
  let man := lim (s.rd64 (lReg k 0x10))
  if cDest c == 1 && s.loopFrozen then some (lim (s.safePwm (cDestIdx c)))
  else if r.frz then some r.uPrev
  else if s.lmode k = 1 then
    some (if cFlag c 0 then dMin (dMax man (dSub r.uPrev (dblAt b 88))) (dAdd r.uPrev (dblAt b 88)) else man)
  else match inner with
    | some j => some (lim (s.source (s.lcfg j) 24 0).1)
    | none =>
      if r.xman then some man
      else match r.xfer with
        | some u => some u
        | none => if r.hold || r.numHold || (swapped && cFlag c 1) then some r.uPrev else none

/-- The evaluation of a loop in MAN or AUTO, or of the freeze-tracking sample that ends a tune (R197 to R202). -/
def State.evalLaw (s : State) (k ts : Nat) (swapped : Bool) (inner : Option Nat) (sp pv ff : Dbl) : State :=
  let c := s.lcfg k
  let r := s.lrun k
  let frzTrk := cDest c == 1 && s.loopFrozen
  let u := s.ustar k swapped inner
  let l := loopLaw (s.lbank k (s.actBank k)) r sp pv ff u (cFlag c 0) (r.dreset || r.hold || r.numHold) ts
  if l.exc then s.numErr k ts
  else
    (s.setLrun k { l.run with frz := frzTrk }).putOut k l.run.uPrev
      (2048 * b2n frzTrk + 4096 * b2n inner.isSome + 128 * b2n l.hi + 256 * b2n l.lo + 512 * b2n l.rate)

/-- A sample that outputs a value of its own in TUNE (R208, R209): it ends a hold, whose restart of the derivative the next
evaluation of R197 owes (DEDUCED, log 79), and nothing is owed to an earlier FREEZE or change of mode. -/
def LoopRun.relayed (r : LoopRun) (u : Dbl) (ts : Nat) : LoopRun :=
  { r with uPrev := u, tsLast := ts, dreset := r.dreset || r.hold || r.numHold, hold := false, numHold := false, frz := false,
           xfer := none, xman := false }

/-- A relay sample of a loop in TUNE (R208, R209). -/
def State.evalRelay (s : State) (k ts : Nat) (t : Tune) (sp pv : Dbl) : State :=
  let r := s.lrun k
  let e := dSub sp pv
  let (t', u, st) := relay t e pv r.u0 (cFlag (s.lcfg k) 2) ts
  if !dFinite e || !dFinite u then (s.endTune t 5).numErr k ts
  else
    let s := (s.setLrun k (r.relayed u ts)).putOut k u 0
    if st = 0 then s.putTune t'
    else
      let s := s.endTune t' st
      if st = 4 then s
      else
        let s := (s.wr64 0x30038 (w64 t'.tu)).wr64 0x30040 t'.amp
        if st = 3 then { s with loop := { s.loop with proposal := some t' } } else s

/-- The evaluation of loop `k` at sample time `ts` (R185). A loop that goes OFF at this sample is not evaluated, and a swap
that is pending stays pending, with its command, until the next evaluation (DESIGN CHOICE, log 89). An outer loop whose
tracked PV is BAD holds whatever its mode (R196). -/
def State.evalLoop (s : State) (k ts : Nat) : State :=
  let s := s.takeReq k
  if s.lmode k = 0 then s
  else
    let s := s.enterTune k
    let swapped := s.swapPend k
    let s := s.takeSwap k
    let c := s.lcfg k
    let r := s.lrun k
    let sp := s.source c 16 (s.rd64 (lReg k 0x18))
    let pv := s.source c 24 0
    let ff := s.source c 32 0
    let inner := if s.lmode k = 3 then none else s.trackedInner k
    let ibad := inner.any fun j => (s.source (s.lcfg j) 24 0).2
    let bad := sp.2 || pv.2 || ff.2 || ibad
    let s :=
      match s.tuneOf k with
      | some t =>
        if bad then s.endTune t 5
        else if s.loopFrozen || t.abort || r.req.isSome then
          let s := s.endTune t 5
          if s.loopFrozen && cDest c == 1 then s.evalLaw k ts swapped none sp.1 pv.1 ff.1
          else if !dFinite (dSub sp.1 pv.1) then s.numErr k ts
          else (s.setLrun k ((s.lrun k).relayed r.u0 ts)).putOut k r.u0 0
        else s.evalRelay k ts t sp.1 pv.1
      | none => if bad then s else s.evalLaw k ts swapped inner sp.1 pv.1 ff.1
    let s :=
      if bad then
        let r := s.lrun k
        let s := if r.hold then s else s.count 0x30014 1
        (s.setLrun k { r with hold := true, frz := false }).putOut k r.uPrev 1024
      else s
    if swapped then
      (s.mb.outstanding.filter fun o => o.ref == k && match o.cmd with | .loopBankSwap _ _ => true | _ => false).foldl
        (fun t o => t.finish o eOk (w32 ts) (w32 (ts / 2 ^ 32)) 0) s
    else s

/-- The staged plan that ARM has taken is applied once its time is reached (R192). -/
def State.applyPlan (s : State) (t : Nat) : State :=
  match s.loop.plan with
  | some (l, eff) =>
    if t ≥ eff then
      let s := ((List.range 64).zip l).foldl (fun t p => t.wr64 (0x30600 + 8 * p.1) p.2) s
      ({ s with loop := { s.loop with plan := none } } : State).setBit 0x30058 1 false
    else s
  | none => s

/-- ARM (R192): the staged values and LOOP_PLAN_EFF become the pending plan. -/
def State.armPlan (s : State) : State :=
  let l := (List.range 64).map fun j => s.rd64 (0x30400 + 8 * j)
  ({ s with loop := { s.loop with plan := some (l, (s.rd64 0x30050).toNat) } } : State).setBit 0x30058 1 true

/-- Loops due at tick `n` (R182). -/
def State.dueLoops (s : State) (n : Nat) : List Nat :=
  (List.range 256).filter fun k =>
    let c := s.lcfg k
    (s.lpart k 2).isSome && (s.lmode k != 0 || (s.lrun k).req.isSome) && decide (cPeriod c ≠ 0) &&
    decide (((n : Int) - cPhase c) % (cPeriod c : Int) = 0)

end Sys2Proof.Machine
end

