-- ==== Sys2Proof/Machine/Loop.lean ====
section
/-! DEFINITION. The LOOP class commands and the rows of the loop engine (06). -/

namespace Sys2Proof.Machine

/-! ### Descriptors (R211) -/

/-- Pairs of image and offset that a configuration names (R190), in the numbering of the source table. -/
def cfgPairs (b : Bytes) : List Nat :=
  [16, 24, 32].filterMap fun o =>
    match leAt b o 1 with
    | 1 => some (leAt b (o + 4) 4)
    | 2 => some (0x100000 + leAt b (o + 4) 4)
    | _ => none

/-- A source entry of loop `k` keeps to R189 and R195. -/
def sourceOk (b : Bytes) (k o : Nat) (pv : Bool) : Bool :=
  let idx := leAt b (o + 2) 2
  let arg := leAt b (o + 4) 4
  leAt b (o + 1) 1 == 0 &&
  match leAt b o 1 with
  | 0 => !pv
  | 1 => arg % 8 == 0 && decide (arg ≤ 262136)
  | 2 => arg % 8 == 0 && decide (arg ≤ 262136)
  | 3 => decide (idx ≤ 255)
  | 4 => decide (idx ≤ 1023)
  | 5 => decide (idx ≤ 63)
  | 6 => decide (idx < k)
  | _ => false

/-- A configuration of loop `k` keeps to its table, R189, R194 and R195. -/
def State.loopCfgOk (s : State) (k : Nat) (b : Bytes) : Bool :=
  decide (1 ≤ cPeriod b ∧ cPeriod b ≤ 1000000 ∧ cPhase b < cPeriod b) && decide (leAt b 8 1 < 8) && decide (leAt b 9 1 ≤ 2) &&
  decide (cDest b ≤ 2) && leAt b 11 1 == 0 && leAt b 14 2 == 0 && leAt b 48 16 == 0 && dFinite (dblAt b 40) &&
  sourceOk b k 16 false && sourceOk b k 24 true && sourceOk b k 32 false &&
  (cDest b != 2 || decide (cDestIdx b ≤ 1023)) &&
  (cDest b != 1 || (decide (cDestIdx b ≤ 15) && !s.cycPwms.contains (cDestIdx b) &&
    (List.range 256).all fun j => j == k || cDest (s.lcfg j) != 1 || cDestIdx (s.lcfg j) != cDestIdx b))

/-- A bank keeps to R211. -/
def bankOk (b : Bytes) : Bool :=
  ((List.range 12).all fun j => dFinite (dblAt b (8 * j))) && dLe (dblAt b 72) (dblAt b 80) && dLt dZero (dblAt b 88)

/-- The pairs that all loops name, with a configuration in place of loop `k`'s. -/
def State.pairsWith (s : State) (k : Nat) (b : Bytes) : List Nat :=
  ((cfgPairs b) ++ (List.range 256).flatMap fun j => if j = k then [] else cfgPairs (s.lcfg j)).eraseDups

/-- The status of a write of a part of loop `k` (R190, R205, R211). -/
def State.descStatus (s : State) (k p : Nat) (b : Bytes) : Nat :=
  if k > 255 ∨ p > 2 ∨ b.length ≠ (if p = 2 then 64 else 96) then eParam
  else if p = 2 then
    if !s.loopCfgOk k b then eParam
    else if s.lmode k ≠ 0 then eState
    else if (s.pairsWith k b).length > 512 then eNospace
    else eOk
  else if !bankOk b then eParam
  else if p = s.actBank k ∧ s.lmode k ≠ 0 then eState
  else if p ≠ s.actBank k ∧ (s.swapPend k ∨ s.lmode k = 3) then eState
  else eOk

/-- Store a part of a loop; the source table keeps the pairs that are named. -/
def State.putPart (s : State) (k p : Nat) (b : Bytes) : State :=
  let s := { s with loop := { s.loop with parts := kset s.loop.parts (k * 4 + p) b } }
  if p = 2 then
    let l := s.pairsWith k b
    { s with loop := { s.loop with src := s.loop.src.filter fun q => l.contains q.1 } }
  else s

/-- LOOP_DESC_WRITE (R211). -/
def execLoopDescWrite (i : Issue) (loop : W16) (bank : Byte) (buf : Buf) (s : State) : Out :=
  .next (s.hostCmd { op := 0x0401, plen := 11 } i fun s =>
    let b := s.rdBuf buf
    let st := s.descStatus loop.toNat bank.toNat b
    s.checked i [(!s.bufOk i.host false buf, eAccess), (st != eOk, st)] fun s =>
      (s.putPart loop.toNat bank.toNat b).done i eOk)

/-- The bytes of part 3 of a loop. -/
def LoopRun.part3 (r : LoopRun) : Bytes :=
  bytesOf8 [r.i, r.dPrev, r.edPrev, r.uPrev, r.v, w64 r.tsLast, r.u0, 0]
where
  bytesOf8 (l : List W64) : Bytes := l.flatMap fun v => leBytes 8 v.toNat

/-- The bytes of a part of a loop; zeros while unwritten (R516). -/
def State.partBytes (s : State) (k p : Nat) : Bytes :=
  match p with
  | 0 => (s.lpart k 0).getD (List.replicate 96 0)
  | 1 => (s.lpart k 1).getD (List.replicate 96 0)
  | 2 => (s.lpart k 2).getD (List.replicate 64 0)
  | _ => LoopRun.part3 (s.lrun k)

/-- LOOP_DESC_READ (R211, R213): W0 is the part's length. A buf shorter than the part, of which no rule speaks, completes
with E_NOSPACE (DESIGN CHOICE, log 86). -/
def execLoopDescRead (i : Issue) (loop : W16) (bank : Byte) (buf : Buf) (s : State) : Out :=
  .next (s.hostCmd { op := 0x0402, plen := 11 } i fun s =>
    let b := s.partBytes loop.toNat bank.toNat
    s.checked i [(decide (loop.toNat > 255 ∨ bank.toNat > 3), eParam), (!s.bufOk i.host true buf, eAccess),
                 (decide (buf.len.toNat < b.length), eNospace)] fun s =>
      (s.wrMem (s.winAddr buf.off) b).complete i eOk (w32 b.length) 0 0)

/-! ### Commands -/

/-- LOOP_BANK_SWAP (R206). -/
def execLoopBankSwap (i : Issue) (loop : W16) (s : State) : Out :=
  .next (s.hostCmd { op := 0x0403, plen := 2, frozenNo := true, async := true } i fun s =>
    let k := loop.toNat
    s.checked i [(decide (k > 255), eParam), (s.swapRefusal k != 0, eState)] fun s =>
      (s.startAsync (.loopBankSwap i loop) i k).setBit (lReg k 8) 5 true)

/-- LOOP_MODE_SET (R188, R201, R213, R516). -/
def execLoopModeSet (i : Issue) (loop : W16) (mode : Byte) (manual : Dbl) (s : State) : Out :=
  .next (s.hostCmd { op := 0x0404, plen := 11, frozenNo := true } i fun s =>
    let k := loop.toNat
    let m := mode.toNat % 8
    let leaves := m != 0 && !s.loopLive k
    s.checked i [(decide (k > 255 ∨ m > 2) || (mode &&& 0x78) != 0 || !dFinite manual, eParam),
                 (leaves && s.loopUnset k, eState)] fun s =>
      match (if leaves then s.loadFails k else none) with
      | some n => (s.postFirn 0x0401 (w32 k) (w32 n) 1).done i 0x0101
      | none => (s.setReq k (some (m, mode.getLsbD 7, some manual))).done i eOk)

/-- LOOP_TUNE_START (R207). -/
def execLoopTuneStart (i : Issue) (loop : W16) (cycles : Byte) (amplitude : Dbl) (hysteresis : Dbl) (s : State) : Out :=
  .next (s.hostCmd { op := 0x0405, plen := 19, frozenNo := true } i fun s =>
    let k := loop.toNat
    let b := s.lbank k (s.actBank k)
    let u0 := (s.lrun k).uPrev
    let inside := fun v => dLe (dblAt b 72) v && dLe v (dblAt b 80)
    s.checked i [(decide (k > 255 ∨ ¬(2 ≤ cycles.toNat ∧ cycles.toNat ≤ 16)) || !dFinite amplitude || !dLt dZero amplitude ||
                   !dFinite hysteresis || !dLe dZero hysteresis || !inside (dAdd u0 amplitude) || !inside (dSub u0 amplitude),
                  eParam),
                 (!(s.lmode k == 1 || s.lmode k == 2) || s.loop.tune.isSome ||
                   (List.range 256).any (fun j => s.lmode j == 3), eState)] fun s =>
      ({ s with loop := { s.loop with tune := some { loop := k, nc := cycles.toNat, d := amplitude, h := hysteresis } } } :
        State).done i eOk)

/-- LOOP_TUNE_RESULT (R209, R213). -/
def execLoopTuneResult (i : Issue) (loop : W16) (s : State) : Out :=
  .next (s.hostCmd { op := 0x0406, plen := 2 } i fun s =>
    s.checked i [(decide (loop.toNat > 255), eParam)] fun s =>
      if s.loop.tuned ∧ s.fld 0x30030 7 0 = loop.toNat then s.complete i eOk (s.rd 0x30034) (s.rd 0x30038) (s.rd 0x3003C)
      else s.done i eOk)

/-- LOOP_STATUS (R213). -/
def execLoopStatus (i : Issue) (loop : W16) (s : State) : Out :=
  .next (s.hostCmd { op := 0x0407, plen := 2 } i fun s =>
    s.checked i [(decide (loop.toNat > 255), eParam)] fun s =>
      let k := loop.toNat
      s.complete i eOk (s.rd (lReg k 8)) (s.rd (lReg k 0)) (s.rd (lReg k 4)))

/-! ### Ticks -/

/-- LOOP_LOAD: the loops due in this tick, and the most since the last read. -/
def State.showLoad (s : State) (n : Nat) : State :=
  s.wr 0x3000C (w32 (max n (s.fld 0x3000C 7 0) % 256 + n % 256 * 256))

/-- The engine serves ticks (R182, R204, R4). -/
def State.ticks (s : State) (at_ : Nat) : Bool := at_ % 10000 == 0 && s.bit 0x30004 0 && !s.persMismatch

/-- LOOP_TICK (R182 to R185, R192): the tick at `at_`, a whole multiple of 10,000 ns; while RUN is 1 the plan is applied if
it is due, then the due loops are evaluated in ascending order. -/
def execLoopTick (at_ : Nat) (s : State) : Out :=
  .next (
    let s := s.reach at_
    if !s.ticks at_ then s
    else
      let s := s.applyPlan at_
      let due := s.dueLoops (at_ / 10000)
      let s := (s.count 0x30008 1).showLoad due.length
      due.foldl (fun t k => t.evalLoop k at_) s)

/-- PLAN_APPLY (R192): at a tick. -/
def execPlanApply (at_ : Nat) (s : State) : Out :=
  .next (let s := s.reach at_
         if s.ticks at_ then s.applyPlan at_ else s)

/-- PLAN_ARM (R192): a write by a master other than SEQ and Firn is ignored. -/
def execPlanArm (master : Master) (s : State) : Out :=
  .next (s.atReg master 0x30058 fun s => if master = .seq ∨ master = .firn then s.armPlan else s)

/-- The coefficients that Firn proposes, and Ku (R210). -/
def proposal (t : Tune) (dir : Bool) (period : Nat) : Dbl × List Dbl :=
  let a := t.amp
  let r := dSqrt (dFma (dNeg t.h) t.h (dMul a a))
  let ku := dDiv (dMul (dOfInt 4) t.d) (dMul 0x400921FB54442D18 r)
  let tus := dMul (dOfInt t.tu) (dOfRat 1 1000000000)
  let ts := dMul (dOfInt period) (dOfRat 1 100000)
  let q := dDiv ku (dOfRat 22 10)
  let kp := dMul (if dir then dNeg dOne else dOne) q
  let ti := dMul (dOfRat 22 10) tus
  let td := dDiv tus (dOfRat 63 10)
  let den := dFma (dOfInt 10) ts td
  (ku, [kp, dMul kp (dDiv ts ti), dDiv td den, dMul kp (dDiv (dMul (dOfInt 10) td) den), dDiv ts (dSqrt (dMul ti td))])

/-- TUNE_PROPOSED (R210): Firn writes the proposal into the inactive bank, or none when a value is not finite. -/
def execTuneProposed (s : State) : Out :=
  .next (match s.loop.proposal with
    | none => s
    | some t =>
      let s := { s with loop := { s.loop with proposal := none } }
      let c := s.lcfg t.loop
      let (ku, l) := proposal t (cFlag c 2) (cPeriod c)
      let s := s.wr64 0x30048 ku
      if (ku :: l).all dFinite then
        let b := s.lbank t.loop (s.actBank t.loop)
        let v := fun j => leBytes 8 (l.getD j 0).toNat
        let nb := v 0 ++ v 1 ++ v 2 ++ v 3 ++ sliceB b 32 24 ++ v 4 ++ sliceB b 64 32
        (s.putPart t.loop (1 - s.actBank t.loop) nb).postFirn 0x0405 (w32 t.loop) (hi32 ku) (w32 (t.tu / 1000000))
      else (s.setFld 0x30034 3 0 7).postFirn 0x0404 (w32 t.loop) 7 (w32 t.periods))

/-! ### Register requests -/

/-- The masters that LOOP_CMDk admits: CYC0 to CYC3, SEQ and Firn. -/
def loopWriter (m : Master) : Bool := (0x023D : BitVec 16).getLsbD (masterId m)

/-- A write of LOOP_CMDk. -/
def State.writeLoopCmd (s : State) (k : Nat) (v : W32) : State :=
  let s := if v.getLsbD 6 then s.cmdAbort k else s
  let s := if v.getLsbD 3 then s.cmdMode k (fldOf v 2 0) (v.getLsbD 4) else s
  if v.getLsbD 5 then s.cmdSwap k else s

/-- LOOP_SETMODE (R201). -/
def execLoopSetmode (master : Master) (loop : Byte) (mode : Byte) (bumpless : Bool) (s : State) : Out :=
  .next (s.atReg master (lReg loop.toNat 0xC) fun s => if loopWriter master then s.writeLoopCmd loop.toNat (w32 (8 + mode.toNat % 8 + 16 * b2n bumpless)) else s)

/-- LOOP_SWAP (R206). -/
def execLoopSwap (master : Master) (loop : Byte) (s : State) : Out :=
  .next (s.atReg master (lReg loop.toNat 0xC) fun s => if loopWriter master then s.writeLoopCmd loop.toNat 0x20 else s)

/-- TUNE_ABORT (R209). -/
def execTuneAbort (master : Master) (loop : Byte) (s : State) : Out :=
  .next (s.atReg master (lReg loop.toNat 0xC) fun s => if loopWriter master then s.writeLoopCmd loop.toNat 0x40 else s)

/-- The word index of LOOP_DADDR advances by 1. -/
def State.nextWord (s : State) : State := s.setFld 0x30020 14 10 (s.fld 0x30020 14 10 + 1)

/-- An access of LOOP_DDATA (R211): a word of parts 0 to 3; part 3 is read-only. -/
def State.ddata (s : State) (write : Bool) (v : W32) : State :=
  let k := s.fld 0x30020 7 0
  let p := s.fld 0x30020 9 8
  let o := 4 * s.fld 0x30020 14 10
  let b := s.partBytes k p
  if write then
    (if p < 3 ∧ o + 4 ≤ b.length then s.putPart k p (b.take o ++ leBytes 4 v.toNat ++ b.drop (o + 4)) else s).nextWord
  else { s.nextWord with bus := { data := sliceB b o 4, ur := false } }

/-- LOOP_DDATA_ACCESS (R211): Firn's alone. -/
def execLoopDdataAccess (master : Master) (write : Bool) (value : W32) (s : State) : Out :=
  .next (if write then s.atReg master 0x30024 fun s => if master = .firn then s.ddata true value else s
    else s.atRead master 0x30024 fun s => if master = .firn then s.ddata false 0 else s.answer (leBytes 4 (s.rd 0x30024).toNat))

end Sys2Proof.Machine
end

