-- ==== Sys2Proof/Machine/CycOps.lean ====
section
/-! DEFINITION. The cyclic program runtime: the program in a container, memory areas, latches, commits, retentive drains,
start, stop and on-line change (07). -/

namespace Sys2Proof.Machine

/-! ### Programs (R214, R217, R225, R244) -/

/-- Section types of a program container. -/
def progTypes : List Nat := [0x50, 0x51, 0x52, 0x53, 0x54, 0x55, 0x56, 0x57, 0x58, 0x59]
def progNeeded : List Nat := [0x50, 0x51, 0x54, 0x55, 0x56, 0x57]

/-- The sections of a type, in order, as plain bytes. -/
def progSections (ks : List Bytes) (b : Bytes) (ty : Nat) : List Bytes :=
  ((cSections b).filter fun x => x.ty == ty).map (cPlain ks b)

/-- The first section of a type. -/
def progSection (ks : List Bytes) (b : Bytes) (ty : Nat) : Bytes := ((progSections ks b ty).head?).getD []

/-- List entry `i` of a LATCH or COMMIT section (R225). -/
def listEnt (b : Bytes) (i : Nat) : ListEnt :=
  { kind := leAt b (16 * i) 1, count := leAt b (16 * i + 2) 2, index := leAt b (16 * i + 4) 4, image := leAt b (16 * i + 8) 4 }

/-- Task entry `i` of a TASKS section (07). -/
def taskDef (tasks latch commit : Bytes) (i : Nat) : TaskDef :=
  let o := 48 * i
  let u := fun k n => leAt tasks (o + k) n
  { task := u 0 1, role := u 1 1, prio := u 2 1, ovf := u 3 1, period := u 4 4, phase := u 8 4, inOff := u 12 4, inLen := u 16 4,
    outOff := u 20 4, outLen := u 24 4, retOff := u 28 4, retLen := u 32 4,
    latch := (List.range (u 38 2)).map fun j => listEnt latch (u 36 2 + j)
    commit := (List.range (u 42 2)).map fun j => listEnt commit (u 40 2 + j) }

/-- REMOTE entry `i` (R244). -/
def remoteEnt (b : Bytes) (i : Nat) : Remote :=
  let u := fun k n => leAt b (32 * i + k) n
  { ty := u 0 1, group := u 1 1, peer := u 2 2, count := u 4 2, rx := u 6 2, interval := u 8 4, phase := u 12 4, port := u 16 1,
    queue := u 17 1, stale := u 18 1, task := u 19 1, fb := u 20 4 }

/-- What a container holds, with the sections that the manual does not lay out. -/
def progOf (ks : List Bytes) (b : Bytes) (x : ProgExtra) : Program :=
  let h := progSection ks b 0x50
  let rem := progSection ks b 0x59
  { bytes := b.take (cLength b), ver := w32 (leAt h 0 4), base := w32 (leAt h 4 4), lineage := leAt h 12 4, gen := leAt h 16 2,
    retLen := leAt h 20 4, workLen := leAt h 24 4,
    tasks := (List.range (leAt h 10 1)).map (taskDef (progSection ks b 0x51) (progSection ks b 0x55) (progSection ks b 0x56)),
    remotes := (List.range (rem.length / 32)).map (remoteEnt rem), rodata := progSection ks b 0x53,
    code := (progSections ks b 0x52).flatten, extra := x }

/-- A required section is missing, or a section's length disagrees with its content: E_INTEGRITY (R214). A program that
changes another one on line needs MIGRATE. -/
def progWhole (ks : List Bytes) (b : Bytes) : Bool :=
  let n := fun t => (progSection ks b t).length
  let h := progSection ks b 0x50
  let roles := (progSections ks b 0x52).map fun c => leAt c 0 1
  let used := ((List.range (leAt h 10 1)).map fun i => leAt (progSection ks b 0x51) (48 * i + 1) 1).eraseDups
  cLayout b 2 0xFFFFFFFF progTypes (if leAt h 4 4 = 0 then progNeeded else progNeeded ++ [0x58]) &&
  decide (((cSections b).filter fun x => x.ty != 0x52).map fun x => x.ty).Nodup &&
  n 0x50 == 32 && n 0x51 == 48 * leAt h 10 1 && n 0x55 % 16 == 0 && n 0x56 % 16 == 0 && n 0x59 % 32 == 0 &&
  decide roles.Nodup && used.all fun r => roles.contains r

/-- The 8-byte words that an entry moves (R225); 0 for a kind that its list does not have. -/
def entWords (commit : Bool) (e : ListEnt) : Nat :=
  if commit then
    match e.kind with
    | 17 => 1
    | 18 | 19 | 20 | 21 | 22 => e.count
    | _ => 0
  else
    match e.kind with
    | 1 | 4 | 5 | 6 => e.count
    | 2 => e.count + (e.count + 7) / 8
    | 3 | 7 => 1
    | 8 | 9 => (e.count + 1) / 2
    | _ => 0

/-- How many elements the source or destination of an entry has; none where INDEX names no run of elements. -/
def entTop (kind : Nat) : Option Nat :=
  match kind with
  | 1 => some 256 | 2 => some 1024 | 4 => some 8 | 5 => some 256 | 6 => some 64 | 8 => some 128 | 9 => some 256
  | 18 => some 16 | 19 => some 256 | 20 => some 256 | _ => none

/-- An entry keeps to R225 and to its task's section of `len` bytes. -/
def entOk (commit : Bool) (len : Nat) (e : ListEnt) : Bool :=
  let w := entWords commit e
  decide (1 ≤ w) && decide (1 ≤ e.count ∧ e.count ≤ 1024) && e.image % 8 == 0 && decide (e.image + 8 * w ≤ len) &&
  ((entTop e.kind).all fun t => decide (e.index + e.count ≤ t)) &&
  (!(e.kind == 21 || e.kind == 22) || decide (e.index < 128 ∧ e.count ≤ 128))

/-- Every entry of a LATCH or COMMIT section keeps to R225, whether a task names it or not: a kind of its list, COUNT,
IMAGE, and 0 where the entry holds 0. -/
def entriesOk (commit : Bool) (b : Bytes) : Bool :=
  (List.range (b.length / 16)).all fun i =>
    let e := listEnt b i
    b.getD (16 * i + 1) 0 == 0 && leAt b (16 * i + 12) 4 == 0 && decide (1 ≤ entWords commit e) &&
    decide (1 ≤ e.count ∧ e.count ≤ 1024) && e.image % 8 == 0

/-- What an entry of a commit list writes: physical outputs, PWM channels, loop registers and command groups (R217), as
(class, number). -/
def entTargets (e : ListEnt) : List (Nat × Nat) :=
  match e.kind with
  | 17 => (List.range 24).map fun k => (17, k)
  | 18 | 19 | 20 => (List.range e.count).map fun i => (e.kind, e.index + i)
  | 21 => [(21, e.index)]
  | _ => []

/-- No two runs of a list overlap. -/
def disjointRuns : List (Nat × Nat) → Bool
  | [] => true
  | (o, n) :: t => (t.all fun q => n == 0 || q.2 == 0 || decide (o + n ≤ q.1) || decide (q.1 + q.2 ≤ o)) && disjointRuns t

/-- The targets of different tasks differ. -/
def targetsApart : List TaskDef → Bool
  | [] => true
  | t :: r =>
    let mine := t.commit.flatMap entTargets
    (r.all fun u => (u.commit.flatMap entTargets).all fun x => !mine.contains x) && targetsApart r

/-- A task entry keeps to its table and R217. -/
def taskOk (p : Program) (nl nc : Nat) (tasks : Bytes) (i : Nat) (t : TaskDef) : Bool :=
  decide (t.task ≤ 15 ∧ t.role ≤ 3 ∧ t.prio ≤ 15 ∧ 16 ≤ t.ovf ∧ t.ovf ≤ 64 ∧ 25 ≤ t.period ∧ t.period ≤ 1000000 ∧
    t.phase < t.period) &&
  ([t.inOff, t.inLen, t.outOff, t.outLen, t.retOff, t.retLen].all fun x => x % 64 == 0) &&
  decide (t.inOff + t.inLen ≤ 0x40000 ∧ t.outOff + t.outLen ≤ 0x40000 ∧ t.retOff + t.retLen ≤ p.retLen) &&
  decide (leAt tasks (48 * i + 36) 2 + leAt tasks (48 * i + 38) 2 ≤ nl ∧ leAt tasks (48 * i + 40) 2 + leAt tasks (48 * i + 42) 2 ≤ nc) &&
  t.latch.all (entOk false t.inLen) && t.commit.all (entOk true t.outLen)

/-- A REMOTE entry keeps to R244. -/
def remoteOk (p : Program) (r : Remote) : Bool :=
  decide (1 ≤ r.ty ∧ r.ty ≤ 4 ∧ r.group ≤ 127 ∧ 1 ≤ r.count ∧ r.count ≤ 128) &&
  (if r.ty ≤ 2 then decide (r.port ≤ 3 ∧ r.queue ≤ 7 ∧ r.task ≤ 15) else decide (r.rx + r.count ≤ 1024)) &&
  (!(r.ty == 1 || r.ty == 3) || decide (r.phase < r.interval)) &&
  (!(r.ty == 4) || decide (r.fb + 8 * r.count ≤ p.rodata.length))

/-- The publications of a program, and its subscriptions. -/
def Program.publications (p : Program) : List Remote := p.remotes.filter fun r => r.ty == 1
def Program.subscriptions (p : Program) : List Remote := p.remotes.filter fun r => r.ty == 3 || r.ty == 4

/-- The program keeps to every layout rule of the chapter; `groups` are the value groups of the CPU port (R358) and `pwms`
the PWM channels that loops drive (R194). -/
def progLayout (ks : List Bytes) (b : Bytes) (p : Program) (groups pwms : List Nat) : Bool :=
  let h := progSection ks b 0x50
  let tb := progSection ks b 0x51
  let nl := (progSection ks b 0x55).length / 16
  let nc := (progSection ks b 0x56).length / 16
  let senders := p.remotes.filter fun r => decide (r.ty ≤ 2)
  p.ver != 0 && decide (1 ≤ leAt h 10 1 ∧ leAt h 10 1 ≤ 16) && leAt h 11 1 == 0 && leAt h 18 2 == 0 && p.retLen % 64 == 0 &&
  decide (p.retLen ≤ 0x400000 ∧ p.workLen ≤ 0x400000 ∧ leAt h 28 4 ≤ 0x100000) &&
  entriesOk false (progSection ks b 0x55) && entriesOk true (progSection ks b 0x56) &&
  (((List.range p.tasks.length).zip p.tasks).all fun q => taskOk p nl nc tb q.1 q.2) &&
  decide (p.tasks.map fun t => t.task).Nodup && decide (p.tasks.map fun t => (t.role, t.prio)).Nodup &&
  disjointRuns (p.tasks.map fun t => (t.inOff, t.inLen)) && disjointRuns (p.tasks.map fun t => (t.outOff, t.outLen)) &&
  disjointRuns (p.tasks.map fun t => (t.retOff, t.retLen)) && targetsApart p.tasks &&
  (p.tasks.all fun t => (t.commit.flatMap entTargets).all fun x => x.1 != 18 || !pwms.contains x.2) &&
  decide (p.remotes.length ≤ 256 ∧ senders.length ≤ 128) && p.remotes.all (remoteOk p) &&
  disjointRuns (p.subscriptions.map fun r => (r.rx, r.count)) &&
  p.publications.all fun r => !groups.contains r.group

/-- The PWM channels that loops drive. -/
def State.loopPwms (s : State) : List Nat :=
  (List.range 256).filterMap fun k => if cDest (s.lcfg k) = 1 then some (cDestIdx (s.lcfg k)) else none

/-- The runtime version that the running Firn provides (R214, R419). -/
def State.runtimeVer (s : State) : Nat := s.rdLe (slotBase s.running + 32) 2

/-- A program is verified (R216, R423), but for MIN_SVN, which is a slot image's. -/
def State.progVerified (s : State) (p : Program) : Bool :=
  cAllows (cFlags p.bytes) s.isHead && s.keyIdOk p.bytes && cSigned s.boot.romKeys p.bytes && cDigests p.bytes && s.cTagsOk p.bytes

/-! ### The runtime's registers -/

abbrev aCycState : Nat := 0x40004
/-- Register `o` of task `t`'s group. -/
def tReg (t o : Nat) : Nat := 0x40000 + 0x20 * t + o
/-- CYC_RETMARKt. -/
def markReg (t : Nat) : Nat := 0x40300 + 4 * t

/-- CYC_STATE.STATE: 0 EMPTY, 1 STOPPED, 2 RUNNING, 3 CHANGING, 4 STOPPING, 5 HALTED. -/
def State.cycState (s : State) : Nat := s.fld aCycState 2 0
def State.setCycState (s : State) (n : Nat) : State := s.setFld aCycState 2 0 n

/-- CYC_TSTATt.PHASE: 0 idle, 1 latch waiting, 2 latching, 3 logic, 4 commit waiting, 5 committing, 6 stopped. -/
def State.tphase (s : State) (t : Nat) : Nat := s.fld (tReg t 0x104) 2 0
def State.setPhase (s : State) (t n : Nat) : State := s.setFld (tReg t 0x104) 2 0 n

/-- Task `t` is in its cycle. -/
def State.inCycle (s : State) (t : Nat) : Bool := decide (1 ≤ s.tphase t ∧ s.tphase t ≤ 5)

/-- The entry of a task in a program. -/
def Program.task? (p : Program) (t : Nat) : Option TaskDef := p.tasks.find? fun d => d.task == t

/-- The program that task `t`'s cycle in progress runs. -/
def State.progOfTask (s : State) (t : Nat) : Option Program := if s.cyc.onNew.contains t then s.cyc.pend else s.cyc.act
def State.defOfTask (s : State) (t : Nat) : Option TaskDef := (s.progOfTask t).bind fun p => p.task? t

/-- The tasks of both programs held. -/
def State.allTasks (s : State) : List Nat :=
  (([s.cyc.act, s.cyc.pend].filterMap id).flatMap fun p => p.tasks.map fun t => t.task).foldl insNat []

/-- Show a program's versions (R215). -/
def State.showProgs (s : State) : State :=
  let s := s.wr 0x40008 ((s.cyc.act.map fun p => p.ver).getD 0)
  (s.wr 0x4000C ((s.cyc.pend.map fun p => p.ver).getD 0)).setBit aCycState 8 s.cyc.pend.isSome

/-- The requests of the image engine show in the phases and in CYC_ENG (R221). -/
def State.showReqs (s : State) : State :=
  let s := (s.cyc.reqs.drop 1).foldl (fun t r => t.setPhase r.task (if r.isCommit then 4 else 1)) s
  let s := match s.cyc.reqs with
    | r :: _ => s.setPhase r.task (if r.isCommit then 5 else 2)
    | [] => s
  s.wr 0x40030 (w32 (s.cyc.reqs.length - 1))

/-- The requests of the image engine change: a request that comes to the front is served with the forces and the status
words that stand now (R236, R248). -/
def State.setReqs (s : State) (l : List EngReq) : State :=
  let c := if l.head? = s.cyc.reqs.head? then s.cyc
    else { s.cyc with servForces := s.cyc.forces, servGroups := s.cyc.groups }
  ({ s with cyc := { c with reqs := l } } : State).showReqs

/-- The task in logic on a role: the one of highest priority (R219). -/
def State.curTask (s : State) (role : Nat) : Option TaskDef :=
  let l := (List.range 16).filterMap fun t => if s.tphase t = 3 then (s.defOfTask t).filter fun d => d.role == role else none
  l.foldl (fun m d => match m with | some e => if d.prio < e.prio then some d else m | none => some d) none

/-- Dirty lines of a task's retentive section (R226). -/
def State.dirtyOf (s : State) (d : TaskDef) : List Nat :=
  let a := 0xC00000 + d.retOff
  s.cyc.dirty.filter fun l => decide (a ≤ 64 * l ∧ 64 * l < a + d.retLen)

/-- CYC_TCUR and CYC_RETDIRTY of each role. -/
def State.showCur (s : State) : State :=
  (List.range 4).foldl (fun t role =>
    let d := t.curTask role
    (t.wr (bankKey 0x40024 (2 + role)) (w32 ((d.map fun d => d.task).getD 0xFF))).wr (bankKey 0x40028 (2 + role))
      (w32 ((d.map fun d => (t.dirtyOf d).length).getD 0))) s

/-! ### Memory (R220, R226) -/

abbrev aIn : Nat := 0x400000
abbrev aOut : Nat := 0x440000
abbrev aWork : Nat := 0x800000
abbrev aRet : Nat := 0xC00000
/-- The retentive partition in MRAM. -/
abbrev aRetMram : Nat := 0x10E00000

/-- Zero a run of shared SRAM or MRAM (R24, R378). -/
def State.zeroMem (s : State) (a n : Nat) : State :=
  ({ s with mem := s.mem.filter fun c => !(decide (a ≤ c.1) && decide (c.1 < a + n))
            poison := s.poison.filter fun w => !(decide (a ≤ w) && decide (w < a + n)) } : State).markDirty a n

/-- Copy a run of shared SRAM or MRAM. -/
def State.copyMem (s : State) (src dst n : Nat) : State :=
  let l := s.mem.filter fun c => decide (src ≤ c.1) && decide (c.1 < src + n)
  l.foldl (fun t c => t.putByte (dst + (c.1 - src)) c.2) (s.zeroMem dst n)

/-- Mark the retentive lines that a write touches (R226). -/
def State.markRet (s : State) (a n : Nat) : State :=
  let l := (linesOf a n).filter fun k => decide (aRet ≤ 64 * k ∧ 64 * k < aRet + 0x400000)
  { s with cyc := { s.cyc with dirty := l.foldl insNat s.cyc.dirty } }

/-- A write by a CYC role or a force: the bytes, and the marks of retentive lines. -/
def State.cycStore (s : State) (a : Nat) (b : Bytes) : State := (s.wrMem a b).markRet a b.length

/-- The base of a symbol's area. -/
def areaBase (area : Nat) : Nat := match area with | 0 => aIn | 1 => aOut | 2 => aWork | _ => aRet

/-- INIT runs of an area, those bytes that lie in [lo, hi). -/
def State.applyInit (s : State) (x : ProgExtra) (area lo hi : Nat) : State :=
  x.init.foldl (fun t q =>
    if q.1 = area then
      ((List.range q.2.2.length).zip q.2.2).foldl (fun u b =>
        if lo ≤ q.2.1 + b.1 ∧ q.2.1 + b.1 < hi then u.wrMem (areaBase area + q.2.1 + b.1) [b.2] else u) t
    else t) s

/-- An area takes its INIT values in [lo, hi): bytes that no run gives are 0. -/
def State.initArea (s : State) (x : ProgExtra) (area lo hi : Nat) : State :=
  (s.zeroMem (areaBase area + lo) (hi - lo)).applyInit x area lo hi

/-! ### Forces (R235, R236) -/

/-- The bytes of a force type. -/
def typeLen (ty : Nat) : Nat :=
  match ty with
  | 1 | 2 | 3 => 1 | 4 | 5 => 2 | 6 | 7 | 10 => 4 | 8 | 9 | 11 | 12 => 8 | _ => 0

/-- A program's symbol. -/
def Program.sym? (p : Program) (id : Nat) : Option Sym := p.extra.syms.find? fun x => x.id == id

/-- The locations of a symbol that belong to task `t`. -/
def symPlaces (x : Sym) (t : Nat) : List Nat :=
  (x.locs.filter fun l => if x.area ≤ 1 then l.1 == t else x.mask.testBit t).map fun l => areaBase x.area + l.2

/-- Write a symbol's bytes at its locations of a task. -/
def State.putSym (s : State) (x : Sym) (t : Nat) (b : Bytes) : State := (symPlaces x t).foldl (fun u a => u.cycStore a b) s

/-- Apply the forces of the areas given to task `t`: those of the instant at which its request began to be served. -/
def State.applyForces (s : State) (p : Program) (t : Nat) (areas : List Nat) : State :=
  s.cyc.servForces.foldl (fun u f =>
    match p.sym? f.1 with
    | some x =>
      if areas.contains x.area && x.ty == f.2.1 then u.putSym x t (leBytes (typeLen f.2.1) f.2.2.toNat) else u
    | none => u) s

/-! ### Remote I/O run state -/

/-- The number under which a subscription is held. -/
def Remote.key (r : Remote) : Nat := (((r.ty * 2 ^ 16 + r.peer) * 2 ^ 8 + r.group) * 2 ^ 16 + r.count) * 2 ^ 16 + r.rx
def State.subRun (s : State) (r : Remote) : SubRun := kget {} s.cyc.subs r.key
def State.setSub (s : State) (r : Remote) (x : SubRun) : State :=
  { s with cyc := { s.cyc with subs := kput {} s.cyc.subs r.key x } }
def State.group (s : State) (g : Nat) : GroupRun := kget {} s.cyc.groups g
def State.setGroup (s : State) (g : Nat) (x : GroupRun) : State :=
  { s with cyc := { s.cyc with groups := kput {} s.cyc.groups g x } }

/-- The station status word of a command group (R248). -/
def GroupRun.word (g : GroupRun) : Nat :=
  2 ^ 31 * b2n g.ackLast + 2 ^ 30 * b2n g.rej + 2 ^ 29 * b2n g.notSent + 65536 * min 255 g.unack + g.ackSeq % 65536

/-- The receive status word of a command subscription (R249). -/
def SubRun.word (x : SubRun) : Nat := 2 ^ 31 * b2n x.holding + 2 ^ 30 * b2n x.fallback + x.seq % 65536

/-- The receive status word of subscription number `n` of a program; 0 where it is no command subscription. -/
def State.recvWord (s : State) (p : Program) (n : Nat) : Nat :=
  match p.subscriptions[n]? with
  | some r => if r.ty = 4 then (s.subRun r).word else 0
  | none => 0

/-- LOOP_RXQ of a received value: 0 GOOD, 1 STALE, 2 BAD. -/
def State.rxq (s : State) (j : Nat) : Nat := s.fld (0x3A000 + 4 * (j / 16)) (2 * (j % 16) + 1) (2 * (j % 16))
def State.setRxq (s : State) (r : Remote) (q : Nat) : State :=
  (List.range r.count).foldl (fun t i =>
    let j := r.rx + i
    t.setFld (0x3A000 + 4 * (j / 16)) (2 * (j % 16) + 1) (2 * (j % 16)) q) s
/-- Values reach the received table with quality GOOD. -/
def State.setRxvals (s : State) (r : Remote) (l : List W64) : State :=
  (((List.range r.count).zip l).foldl (fun t p => t.wr64 (0x38000 + 8 * (r.rx + p.1)) p.2) s).setRxq r 0

/-- The misses from which a subscription is BAD (R246). -/
def Remote.limit (r : Remote) : Nat := if r.stale = 0 then 3 else r.stale

/-- Quality, hold and status words are reset (R231): every field of LOOP_RXQ takes its reset value. -/
def State.resetRemote (s : State) : State :=
  let l := (s.cyc.act.map Program.subscriptions).getD []
  let s := { s with cyc := { s.cyc with subs := [], groups := [] } }
  let s := (List.range 64).foldl (fun t g => t.wr (0x3A000 + 4 * g) 0xAAAAAAAA) s
  l.foldl (fun t r => t.setSub r { miss := if r.ty = 3 then r.limit else 0 }) s

/-! ### Latch and commit (R222, R225) -/

/-- 8 bytes of a double word. -/
def le8 (v : W64) : Bytes := leBytes 8 v.toNat

/-- The bytes that a latch entry of a task moves. -/
def State.latchBytes (s : State) (p : Program) (t : Nat) (e : ListEnt) : Bytes :=
  let l := (List.range e.count).map fun i => e.index + i
  match e.kind with
  | 1 => l.flatMap fun k => le8 (kget 0 s.loop.meter k)
  | 2 => (l.flatMap fun k => le8 (s.rd64 (0x38000 + 8 * k))) ++ (l.map fun k => BitVec.ofNat 8 (s.rxq k)) ++
      List.replicate ((e.count + 7) / 8 * 8 - e.count) 0
  | 3 => leBytes 8 (s.fld 0xF0018 23 0)
  | 4 => l.flatMap fun k => le8 (s.rd64 (0x51100 + 8 * k))
  | 5 => l.flatMap fun k => le8 (s.rd64 (lReg k 0))
  | 6 => l.flatMap fun k => le8 (s.rd64 (0x30600 + 8 * k))
  | 7 => leBytes 8 (kget 0 s.cyc.rel t)
  | 8 => (l.flatMap fun k => leBytes 4 (kget {} s.cyc.servGroups k).word) ++ List.replicate (e.count % 2 * 4) 0
  | 9 => (l.flatMap fun k => leBytes 4 (s.recvWord p k)) ++ List.replicate (e.count % 2 * 4) 0
  | _ => []

/-- The pairs of image and offset that loops name (R190). -/
def State.loopPairs (s : State) : List Nat := (List.range 256).flatMap fun j => cfgPairs (s.lcfg j)

/-- Copy the loop-source offsets of a section into the source table (R190): `base` is 0 for the input image and 0x100000
for the output image. -/
def State.copySources (s : State) (base img off len : Nat) : State :=
  (s.loopPairs.filter fun k => decide (base + off ≤ k ∧ k < base + off + len)).foldl (fun t k =>
    { t with loop := { t.loop with src := kset t.loop.src k (w64 (t.rdLe (img + (k - base)) 8)) } }) s

/-- CYC_VAR_WRITE writes that wait for this task's latch reach the variable and complete (R250). -/
def State.takeWrites (s : State) (test : VarWrite → Bool) : State :=
  let l := s.cyc.writes.filter test
  let s := { s with cyc := { s.cyc with writes := s.cyc.writes.filter fun w => !test w } }
  l.foldl (fun t w =>
    let k := (bitsOf 16 w.sym.mask).head?.getD 0
    (t.putSym w.sym k w.bytes).finishId w.id eOk 0 0 0) s

/-- A latch (R222). -/
def State.doLatch (s : State) (p : Program) (d : TaskDef) : State :=
  let s := d.latch.foldl (fun t e => t.wrMem (aIn + d.inOff + e.image) (t.latchBytes p d.task e)) s
  let s := s.takeWrites fun w => (bitsOf 16 w.sym.mask).head? == some d.task
  let s := s.applyForces p d.task [0, 2, 3]
  s.copySources 0 aIn d.inOff d.inLen

/-- The runtime's commits send no COMMAND frames: FREEZE or a pair state (R243, R247, R369). -/
def State.cmdHeld (s : State) : Bool := s.loopFrozen || s.standby

/-- A commit of a command group by the task that supplies its values (R244, R247, R248). -/
def State.commitGroup (s : State) (p : Program) (task : Nat) (e : ListEnt) (vals : List W64) : State :=
  match p.remotes.find? fun r => r.ty == 2 && r.group == e.index && r.task == task with
  | some r =>
    let g := s.group e.index
    let q := (g.seq + 1) % 2 ^ 32
    let s := s.setGroup e.index { g with seq := q, unack := g.unack + 1, ackLast := false, notSent := s.cmdHeld }
    if s.cmdHeld then s
    else s.sendOwn r.port r.queue 0 (s.fieldFrame r.peer 0x21 true
      ([BitVec.ofNat 8 e.index, 0] ++ beBytes 2 vals.length ++ beBytes 4 q ++ vals.flatMap fun v => beBytes 8 v.toNat))
  | none => s

/-- A commit of a publication's values (R245): they are kept with their time, and those that no launch can need go. -/
def State.commitPub (s : State) (g at_ : Nat) (vals : List W64) : State :=
  let l := kget [] s.cyc.pubs g
  let young := l.filter fun q => decide (at_ < q.1 + 200000)
  let old := (l.filter fun q => decide (q.1 + 200000 ≤ at_)).take 1
  { s with cyc := { s.cyc with pubs := kput [] s.cyc.pubs g ((at_, vals) :: young ++ old) } }

/-- One entry of a commit list (R225). -/
def State.commitEnt (s : State) (p : Program) (d : TaskDef) (at_ : Nat) (e : ListEnt) : State :=
  let a := aOut + d.outOff + e.image
  let v := fun i => w64 (s.rdLe (a + 8 * i) 8)
  let l := (List.range e.count).map fun i => (e.index + i, v i)
  match e.kind with
  | 17 => (bitsOf 24 (s.rdLe (a + 4) 4)).foldl (fun t k => t.driveGpio k ((v 0).getLsbD k)) s
  | 18 => l.foldl (fun t q => t.drivePwm q.1 q.2) s
  | 19 => l.foldl (fun t q => t.wr64 (lReg q.1 0x18) q.2) s
  | 20 => l.foldl (fun t q => t.wr64 (lReg q.1 0x10) q.2) s
  | 21 => s.commitGroup p d.task e (l.map fun q => q.2)
  | 22 =>
    if p.publications.any fun r => r.group == e.index && r.task == d.task then s.commitPub e.index at_ (l.map fun q => q.2) else s
  | _ => s

/-- The drain in front begins (R228): OPEN with its sequence number. -/
def State.openDrain (s : State) : State :=
  match s.cyc.drains with
  | x :: _ => s.wr (markReg x.task) (w32 (2 ^ 31 + 2 ^ 30 + x.seq % 2 ^ 30))
  | [] => s

/-- The dirty lines of a task go to its commit buffer and wait to be drained (R226, R228). -/
def State.snapshot (s : State) (d : TaskDef) (seq : Nat) : State :=
  let l := s.dirtyOf d
  let s := ((List.range l.length).zip l).foldl (fun t q => t.wrMem (0x500000 + 0x10000 * d.task + 64 * q.1) (t.rdMem (64 * q.2) 64)) s
  let idle := s.cyc.drains.isEmpty && !s.pwr.pfw
  let s := { s with cyc := { s.cyc with dirty := s.cyc.dirty.filter fun x => !l.contains x
                                        drains := s.cyc.drains ++ [{ task := d.task, seq := seq, lines := l }] } }
  if idle then s.openDrain else s

/-- The drain in front ends (R228): its lines are in MRAM and OPEN clears. -/
def State.closeDrain (s : State) : State :=
  match s.cyc.drains with
  | x :: rest =>
    let s := ((List.range x.lines.length).zip x.lines).foldl (fun t q =>
      t.wrMem (aRetMram + (64 * q.2 - aRet)) (t.rdMem (0x500000 + 0x10000 * x.task + 64 * q.1) 64)) s
    let s := s.wr (markReg x.task) (w32 (2 ^ 30 + x.seq % 2 ^ 30))
    { s with cyc := { s.cyc with drains := rest } }
  | [] => s

/-- Every drain that waits is made; after the power-fail warning only the one in progress is, and none is started (R229). -/
def State.drainAll (s : State) : State :=
  if s.pwr.pfw then
    let s := match s.cyc.drains with
      | x :: _ => if s.bit (markReg x.task) 31 then s.closeDrain else s
      | [] => s
    { s with cyc := { s.cyc with drains := [] } }
  else (List.range s.cyc.drains.length).foldl (fun t _ => t.openDrain.closeDrain) s

/-- The physical outputs and PWM channels of a task go to their safe values until they are next driven (R233). -/
def State.parkTask (s : State) (d : TaskDef) : State :=
  (d.commit.flatMap entTargets).foldl (fun t x =>
    if x.1 = 17 then t.parkGpio x.2 else if x.1 = 18 then t.parkPwm x.2 else t) s

/-! ### Images for drift rounds (R29) -/

/-- Keep the images as they stand at a commit of task `t` (R29): the newest, and the newest before the round-start instant
that the newest has passed. -/
def State.keepImages (s : State) (t at_ : Nat) : State :=
  let cells := s.mem.filter fun c => decide (aIn ≤ c.1) && decide (c.1 < aIn + 0x80000)
  let l := kget [] s.cyc.snaps t
  let r := s.roundBefore at_
  let l := match l with
    | b :: rest => if b.1 < r then [b] else rest
    | [] => []
  { s with cyc := { s.cyc with snaps := kput [] s.cyc.snaps t ((at_, cells) :: l) } }

/-! ### Starting and stopping -/

/-- A program becomes active (R215, R231): the versions and the task groups show it. -/
def State.showTasks (s : State) (phase : Nat) : State :=
  let l := (s.cyc.act.map fun p => p.tasks).getD []
  (List.range 16).foldl (fun t k =>
    match l.find? fun d => d.task == k with
    | some d => (t.wr (tReg k 0x100) (w32 d.period)).wr (tReg k 0x104)
        (w32 ((t.rd (tReg k 0x104)).toNat / 128 % 2 * 128 + d.role * 16 + phase))
    | none => (t.wr (tReg k 0x100) 0).wr (tReg k 0x104) 0) s

/-- The pending program becomes the active one. -/
def State.promote (s : State) : State :=
  ({ s with cyc := { s.cyc with act := s.cyc.pend, pend := none } } : State).showProgs

/-- The tasks leave their cycles: no request, no logic. -/
def State.clearCycles (s : State) (phase : Nat) : State :=
  let l := s.allTasks
  let s := (({ s with cyc := { s.cyc with onNew := [], switched := [], passed := false } } : State)).setReqs []
  (l.foldl (fun t k => if t.tphase k = 6 && phase == 6 then t else t.setPhase k phase) s).showCur

/-- The runtime is HALTED (R224, R227): no further latch or commit, no logic. What waits for a cycle ends: a variable is
written at once (R250), a stop or a change fails. -/
def State.halt (s : State) : State :=
  let s := (s.clearCycles 6).setCycState 5
  let s := s.takeWrites fun _ => true
  (s.finishAll (fun c => match c with | .cycStop _ | .cycOnlineChange _ => true | _ => false) eState 0 0 0)

/-- CYC_STOP ends once every task has stopped (R233). -/
def State.stopCheck (s : State) : State :=
  if s.cycState == 4 && (s.allTasks.all fun t => !s.inCycle t) then
    ((s.setCycState 1).setBit aCycState 9 true).finishAll (fun c => match c with | .cycStop _ => true | _ => false) eOk 0 0 0
  else s

/-- Tasks of the active program whose section is torn: OPEN is set and no drain of the task is under way (R230). -/
def State.tornTasks (s : State) : List Nat :=
  ((s.cyc.act.map fun p => p.tasks.map fun d => d.task).getD []).filter fun t =>
    s.bit (markReg t) 31 && s.bit (markReg t) 30 && !s.cyc.drains.any fun x => x.task == t
/-- Tasks of the active program whose marker is invalid (R230). -/
def State.invalidTasks (s : State) : List Nat :=
  ((s.cyc.act.map fun p => p.tasks.map fun d => d.task).getD []).filter fun t => !s.bit (markReg t) 30

/-- Why a warm start is refused (R231); none: it is not. -/
def State.warmRefused (s : State) (p : Program) : Option Nat :=
  if !s.tornTasks.isEmpty then some 0x0104
  else if !s.invalidTasks.isEmpty then some 0x0106
  else match s.cyc.stored with
    | some (l, g, _) => if l != p.lineage || decide (g > p.gen) then some 0x0105 else none
    | none => some 0x0105

/-- The program code area of the active program, or the other one (R220). -/
def State.codeBase (s : State) (other : Bool) : Nat := 0x600000 + 0x100000 * b2n (xor s.cyc.area other)

/-- A program's constants, and the code of its roles behind them, go to a code area (R214, R220); the manual does not lay
the area out (DESIGN CHOICE, log 80). -/
def State.placeCode (s : State) (p : Program) (other : Bool) : State :=
  (s.zeroMem (s.codeBase other) 0x100000).wrMem (s.codeBase other) ((p.rodata ++ p.code).take 0x100000)

/-- Items of the table of start modes that a cold and a warm start set (R231, R232). -/
def State.prepare (s : State) (p : Program) (cold : Bool) : State :=
  let s := s.drainAll.placeCode p false
  let s := (s.zeroMem aIn 0x80000).initArea p.extra 2 0 p.workLen
  let s :=
    if cold then
      let s := (s.initArea p.extra 3 0 p.retLen).copyMem aRet aRetMram p.retLen
      let s := (List.range 16).foldl (fun t k => t.wr (markReg k) 0x40000000) (s.setBit aCycState 10 false)
      ({ s with cyc := { s.cyc with forces := [] } } : State).wr 0x40018 0
    else
      let s := s.copyMem aRetMram aRet p.retLen
      match s.cyc.stored with
      | some (_, g, n) => if p.gen > g then s.initArea p.extra 3 n p.retLen else s
      | none => s
  { s with cyc := { s.cyc with dirty := [], stored := some (p.lineage, p.gen, p.retLen) } }.resetRemote

/-- The runtime runs (R231, R233): no release within 1 ms, and every output of a task parked until its first commit. -/
def State.run (s : State) (p : Program) : State :=
  let s := { s with cyc := { s.cyc with first := s.now + 1000000 } }
  let s := ((s.clearCycles 0).showTasks 0).setBit aCycState 9 false
  (p.tasks.foldl State.parkTask s).setCycState 2

/-- A start (R231): the status, and the state after it. A pending program that is verified becomes active before the
checks of a warm start; a start that is refused is recorded. An auto-start checks the active program's signature too
(R216). -/
def State.startCyc (s : State) (mode : Nat) (auto : Bool) : State × Nat :=
  let st := s.cycState
  let refuse := fun (t : State) (code : Nat) (p : Program) => (t.postFirn 0x0507 (w32 mode) (w32 code) p.ver, code)
  if !((st == 0 && s.cyc.pend.isSome) || st == 1 || st == 5) || mode > 2 then (s, eState)
  else if mode = 2 then
    match s.cyc.act with
    | some p => if st == 1 && s.bit aCycState 9 then (s.run p, eOk) else (s, eState)
    | none => (s, eState)
  else
    match s.cyc.pend, s.cyc.act with
    | none, none => (s, eState)
    | some q, _ =>
      if !s.progVerified q then refuse s eIntegrity q
      else
        let s := s.promote
        let s := if st = 0 then s.setCycState 1 else s
        let s := (s.showTasks 6).setBit aCycState 9 false
        match (if mode = 1 then s.warmRefused q else none) with
        | some c => refuse s c q
        | none => ((s.prepare q (mode == 0)).run q, eOk)
    | none, some p =>
      if auto && !s.progVerified p then refuse s eIntegrity p
      else
        match (if mode = 1 then s.warmRefused p else none) with
        | some c => refuse s c p
        | none => ((s.prepare p (mode == 0)).run p, eOk)

/-! ### On-line change (R238 to R240) -/

/-- The switch instant S. -/
def State.switchAt (s : State) : Nat := (s.rd64 0x40010).toNat

/-- The first release tick of a task at or after an instant, in ns (R218). -/
def nextRelease (d : TaskDef) (t : Nat) : Nat :=
  let n := (t + 9999) / 10000
  10000 * (n + (((d.phase : Int) - n) % (d.period : Int)).toNat)

/-- A task is released at an instant (R218). -/
def releasedAt (d : TaskDef) (t : Nat) : Bool :=
  t % 10000 == 0 && decide (((t / 10000 : Nat) : Int) % (d.period : Int) = (d.phase : Int) % (d.period : Int))

/-- A task switches (R239): its MIGRATE entries, the retentive bytes of a new generation, and SWITCHED; a task absent from
the new program stops. -/
def State.switchTask (s : State) (old new : Program) (t : Nat) : State :=
  if s.cyc.switched.contains t then s
  else
    let s := (new.extra.migrate.filter fun m => m.2.2.2 == t).foldl (fun u m =>
      u.wrMem (aWork + m.2.1) (u.rdMem (aWork + m.1) m.2.2.1)) s
    let s := { s with cyc := { s.cyc with switched := insNat s.cyc.switched t, onNew := s.cyc.onNew.filter fun k => k != t } }
    match new.task? t with
    | some d =>
      let s := if new.gen > old.gen then s.initArea new.extra 3 (max old.retLen d.retOff) (d.retOff + d.retLen) else s
      ((s.wr (tReg t 0x100) (w32 d.period)).setFld (tReg t 0x104) 5 4 d.role).setBit (tReg t 0x104) 6 true
    | none =>
      let s := (s.setPhase t 6).setBit (tReg t 0x104) 6 true
      match old.task? t with
      | some d => s.parkTask d
      | none => s

/-- The change completes once S has passed and every task has switched (R239). -/
def State.changeCheck (s : State) : State :=
  match s.cyc.act, s.cyc.pend with
  | some old, some new =>
    if s.cycState == 3 && s.cyc.passed && (old.tasks.all fun d => s.cyc.switched.contains d.task) then
      let gone := s.cyc.writes.filter fun w => (new.sym? w.sym.id).isNone
      let s := { s with cyc := { s.cyc with onNew := [], switched := [], passed := false, area := !s.cyc.area,
                                            stored := some (new.lineage, new.gen, new.retLen) } }
      let s := s.takeWrites fun w => gone.any fun g => g.id == w.id
      let s := (s.promote).setCycState 2
      let s := (List.range 16).foldl (fun t k =>
        let t := t.setBit (tReg k 0x104) 6 false
        if (new.task? k).isNone then (t.wr (tReg k 0x100) 0).wr (tReg k 0x104) 0 else t) s
      let s := s.postFirn 0x0506 old.ver new.ver (s.rd 0x40010)
      s.finishAll (fun c => match c with | .cycOnlineChange _ => true | _ => false) eOk new.ver 0 0
    else s
  | _, _ => s

/-- At S (R239, R240): forces that the new program does not keep are removed, idle tasks switch, new tasks may be
released. -/
def State.passSwitch (s : State) : State :=
  match s.cyc.act, s.cyc.pend with
  | some old, some new =>
    if s.cycState != 3 || s.cyc.passed then s
    else
      let keeps := fun (f : Nat × Nat × W64) => (new.sym? f.1).any fun x => x.ty == f.2.1
      let gone := s.cyc.forces.filter fun f => !keeps f
      let s := { s with cyc := { s.cyc with passed := true, forces := s.cyc.forces.filter keeps } }
      let s := s.wr 0x40018 (w32 s.cyc.forces.length)
      let s := gone.foldl (fun t f => t.postFirn 0x0505 (w32 f.1) (w32 f.2.1) new.ver) s
      let s := old.tasks.foldl (fun t d => if t.inCycle d.task then t else t.switchTask old new d.task) s
      let fresh := new.tasks.filter fun d => (old.task? d.task).isNone
      let s := fresh.foldl (fun t d =>
        let t := (t.switchTask old new d.task).parkTask d
        t.setPhase d.task 0) s
      s.changeCheck
  | _, _ => s

end Sys2Proof.Machine
end

