-- ==== Sys2Proof/Machine/MtrOps.lean ====
section
/-! DEFINITION. Energy and quantity metering: intervals, accumulators, meter values, pulse outputs, thermal calculators,
saves and restore (08). -/

namespace Sys2Proof.Machine

/-- Register `o` of the MTR block. -/
def mReg (o : Nat) : Nat := 0x50000 + o
/-- MTR_ACC of system, phase and quantity. -/
def accReg (sys ph q : Nat) : Nat := 0x50400 + 0x100 * sys + 0x40 * ph + 8 * q
/-- MTR_SYSs group. -/
def sysReg (sys o : Nat) : Nat := 0x50600 + 0x40 * sys + o
/-- MTR_CHSTATc. -/
def chReg (c : Nat) : Nat := 0x50040 + 4 * c
/-- MTR_POUTk group. -/
def poutReg (k o : Nat) : Nat := 0x51200 + 0x10 * k + o
/-- MTR_HEATc committed and staging. -/
def heatReg (c o : Nat) : Nat := 0x51300 + 0x100 * c + o

/-- Change the metering state. -/
def State.setMtr (s : State) (f : MtrSt → MtrSt) : State := { s with mtr := f s.mtr }

/-- The least time of the time base, in ns, in which `n` samples of 125 µs pass: its rate may be 500 ppm slow (R286). -/
def sampleNs (n : Nat) : Nat := 125000 * n - 125000 * n / 2000

/-- RUN changes: the first interval begins with the first boundary of 800 samples at least 560 samples later (R261). -/
def State.setMeterRun (s : State) (run : Bool) : State :=
  (s.setMtr fun m => { m with nextEnd := if run then some (s.now + sampleNs 1360) else none, posts := 0 }).setBit 0x50004 0 run

/-- An interval may end at a time (R261): 560 and 800 samples have passed since RUN, and 800 since the interval before. -/
def State.intervalDue (s : State) (at_ : Nat) : Bool :=
  s.bit 0x50004 0 && s.mtr.nextEnd.all fun t => decide (t ≤ at_)

/-- The lists of an interval or of a window hold 800 aligned samples each (R261, R265). -/
def samplesOk (l : List (List (Dbl × Dbl × Dbl))) : Bool := decide (l.length = 6) && l.all fun x => decide (x.length = 800)

/-- GAIN, OFFSET and DELAY as configured. -/
def State.gainOf (s : State) (c : Nat) : Dbl := s.rd64 (0x50100 + 0x20 * c)
def State.offsetOf (s : State) (c : Nat) : Dbl := s.rd64 (0x50108 + 0x20 * c)
def State.delayOf (s : State) (c : Nat) : Int := (BitVec.ofNat 16 (s.fld (0x50110 + 0x20 * c) 15 0)).toInt
/-- A channel is faulted now. -/
def State.chFaulted (s : State) (c : Nat) : Bool := s.bit (chReg c) 0
/-- The voltage and the current channel of a phase (R253). -/
def voltCh (sys ph : Nat) : Nat := 6 * sys + 2 * ph
def currCh (sys ph : Nat) : Nat := 6 * sys + 2 * ph + 1
/-- A phase has a faulted channel. -/
def State.phFaulted (s : State) (sys ph : Nat) : Bool := s.chFaulted (voltCh sys ph) || s.chFaulted (currCh sys ph)

/-- A change of metrological data (R257): counted and recorded. -/
def State.metroChange (s : State) (item : Nat) : State :=
  let s := s.count 0x5001C 1
  s.postFirn 0x0603 (w32 item) (s.rd 0x5001C) 0

/-- METRO_LOCK. -/
def State.metroLock (s : State) : Bool := s.bit 0x50004 1

/-- The full rating of a system with given gains (R256). -/
def fullRating (gain : Nat → Dbl) (sys : Nat) : Dbl :=
  [0, 1, 2].foldl (fun acc ph => dAdd acc (dMul (dAbs (gain (voltCh sys ph))) (dAbs (gain (currCh sys ph))))) dZero

/-! ### Energy intervals (R262, R263) -/

/-- The sums of an interval: su, si, sp, sq. -/
structure PhaseSums where
  su : Dbl
  si : Dbl
  sp : Dbl
  sq : Dbl

/-- Sum aligned triples. -/
def phaseSums (l : List (Dbl × Dbl × Dbl)) : PhaseSums :=
  l.foldl (fun a t => { su := dFma t.1 t.1 a.su, si := dFma t.2.1 t.2.1 a.si, sp := dFma t.1 t.2.1 a.sp, sq := dFma t.2.2 t.2.1 a.sq })
    { su := dZero, si := dZero, sp := dZero, sq := dZero }

/-- The triples of a phase with gain and offset (R255). -/
def calibrate (gv ov gi oi : Dbl) (l : List (Dbl × Dbl × Dbl)) : List (Dbl × Dbl × Dbl) :=
  l.map fun t => (dFma gv t.1 ov, dFma gi t.2.1 oi, t.2.2)

def d800 : Dbl := dOfInt 800
/-- 125 µs samples to µWh. -/
def toMicro (v : Dbl) : Dbl := dDiv (dMul v (dOfInt 5)) (dOfInt 144)

/-- The result of a phase in an interval: P, Q and S sums after the no-load rule, and whether it is in no-load. -/
structure PhaseEnergy where
  sp : Dbl
  sq : Dbl
  ss : Dbl
  noload : Bool

/-- R262 for one phase. -/
def phaseEnergy (x : PhaseSums) (iref : Dbl) (faulted : Bool) : PhaseEnergy :=
  let urms := dSqrt (dDiv x.su d800)
  let irms := dSqrt (dDiv x.si d800)
  let ss := dMul (dMul urms irms) d800
  let noload := dLt irms (dMul (dOfRat 8 10000) iref)
  if noload || faulted then { sp := dZero, sq := dZero, ss := dZero, noload := noload }
  else { sp := x.sp, sq := x.sq, ss := ss, noload := noload }

/-- The quantity codes that a pair of sums adds to (R262): active, reactive, apparent. -/
def quadrant (sp sq : Dbl) : Nat × Nat × Nat :=
  let p := dLe dZero sp
  let q := dLe dZero sq
  if p && q then (0, 2, 6) else if q then (1, 3, 7) else if p then (0, 5, 6) else (1, 4, 7)

/-- Add an energy to an accumulator (R263). -/
def State.addEnergy (s : State) (sys ph q : Nat) (e : Dbl) : State :=
  let k := sys * 32 + ph * 8 + q
  let r := dAdd (kget 0 s.mtr.res k) e
  let w := dFloor r
  let s := s.wr64 (accReg sys ph q) (w64 ((s.rd64 (accReg sys ph q)).toNat + w.toNat))
  s.setMtr fun m => { m with res := kput 0 m.res k (dSub r (dOfInt w)) }

/-- The three energies of a phase or of the total: what is added to which accumulator. -/
def energies (sys ph : Nat) (sp sq es : Dbl) : List (Nat × Nat × Nat × Dbl) :=
  let (a, r, x) := quadrant sp sq
  [(sys, ph, a, toMicro (dAbs sp)), (sys, ph, r, toMicro (dAbs sq)), (sys, ph, x, es)]

/-- A system's interval: its phases and total, in order. -/
def systemEnergies (sys : Nat) (l : List PhaseEnergy) : List (Nat × Nat × Nat × Dbl) :=
  let es := l.map fun p => toMicro p.ss
  let sum := fun (f : PhaseEnergy → Dbl) => l.foldl (fun acc p => dAdd acc (f p)) dZero
  (((List.range 3).zip (l.zip es)).flatMap fun q => energies sys q.1 q.2.1.sp q.2.1.sq q.2.2) ++
    energies sys 3 (sum fun p => p.sp) (sum fun p => p.sq) (es.foldl dAdd dZero)

/-- A pulse output at an interval commit (R271): `e` is what its source gained. -/
def State.pulseCommit (s : State) (k : Nat) (e : Dbl) : State :=
  let c := (s.rd (poutReg k 0)).toNat
  let src := s.fld (poutReg k 4) 21 16
  let acc := (s.rd64 (accReg (src / 32) (src / 8 % 4) (src % 8))).toNat
  let p := kget {} s.mtr.pulse k
  let due := acc / c - p.base
  let sum := s.fld (poutReg k 8) 15 0 + (due - p.counted)
  let wcfg := s.fld (poutReg k 4) 15 0
  let t := dDiv (dMul (dOfInt 100) (dOfInt c)) e
  let w := if dEq e dZero || dLe (dOfInt (2 * wcfg)) t then wcfg else max 1 (dFloor (dDiv t (dOfInt 2))).toNat
  let s := (s.wr (poutReg k 8) (w32 (min sum 65535))).setMtr fun m => { m with pulse := kput {} m.pulse k { p with counted := due, width := w } }
  if sum > 65535 then
    let s := s.count (poutReg k 12) (sum - 65535)
    s.postHw 0x0605 (w32 k) (s.rd (poutReg k 12)) 0
  else s

/-! ### Saves (R276 to R279) -/

/-- The bytes of a save slot. -/
def State.saveBytes (s : State) (seq kind : Nat) : Bytes :=
  let acc := (List.range 64).map fun k => s.rd64 (accReg (k / 32) (k / 8 % 4) (k % 8))
  let heat := (List.range 4).flatMap fun c =>
    ((List.range 16).flatMap fun j => leBytes 4 (s.rd (heatReg c (4 * j))).toNat) ++
    ((List.range 3).flatMap fun j => leBytes 8 (((kget {} s.mtr.heat c).resDone.getD j 0).toNat)) ++ leBytes 8 0
  let pout := (List.range 4).flatMap fun k =>
    let p := kget {} s.mtr.pulse k
    leBytes 8 p.base ++ leBytes 4 p.counted ++ leBytes 2 (s.fld (poutReg k 8) 15 0) ++ leBytes 2 0
  let b := leBytes 4 seq ++ leBytes 2 1 ++ leBytes 1 kind ++ leBytes 1 0 ++
    leBytes 8 (if s.timeState = 0 then 0 else s.now) ++ (acc.flatMap le8) ++
    ((List.range 64).flatMap fun k => leBytes 8 (kget 0 s.mtr.res k).toNat) ++
    ((List.range 2).flatMap fun y => leBytes 8 (s.rd64 (sysReg y 0x18)).toNat) ++ heat ++
    ((List.range 8).flatMap fun k => leBytes 8 (kget 0 s.mtr.pins k).toNat) ++ pout ++
    leBytes 4 (s.rd 0x5001C).toNat ++ leBytes 472 0
  b ++ leBytes 4 (crc32c b)

/-- The MRAM address of the slot of a save number. -/
def saveAddr (seq : Nat) : Nat := 0x11A00000 + 2048 * (seq % 512)

/-- A snapshot of a kind (R276): DEMAND is recorded and then reset. -/
def State.takeSave (s : State) (kind : Nat) : State :=
  let q := s.mtr.nextSeq
  let b := s.saveBytes q kind
  let s := (s.wr64 (sysReg 0 0x18) 0).wr64 (sysReg 1 0x18) 0
  (s.setMtr fun m => { m with save := some (q, kind, b), nextSeq := q + 1 }).setBit 0x50008 16 true

/-- MTR_SYSs_DEMAND takes in a power (R276). -/
def State.raiseDemand (s : State) (y : Nat) (d : Dbl) : State :=
  if dLt (s.rd64 (sysReg y 0x18)) d then s.wr64 (sysReg y 0x18) d else s

/-- A command save that is being written is undone (R69): its number and the demand it has recorded return. -/
def State.undoSave (s : State) (q : Nat) : State :=
  match s.mtr.save with
  | some (n, 2, b) =>
    if n = q then
      let s := (s.setMtr fun m => { m with save := none, nextSeq := n }).setBit 0x50008 16 false
      (s.raiseDemand 0 (w64 (leAt b 1040 8))).raiseDemand 1 (w64 (leAt b 1048 8))
    else s
  | _ => s

/-- The slot in hand has been written (R276): MTR_SAVE_NOW commands bound to it complete. -/
def State.endSave (s : State) : State :=
  match s.mtr.save with
  | none => s
  | some (q, kind, b) =>
    let s := s.wrMem (saveAddr q) b
    let s := (((s.setMtr fun m => { m with save := none }).setBit 0x50008 16 false).wr 0x50018 (w32 q)).wr 0x51704 (w32 (q % 512))
    let s := if kind = 1 then s.setBit 0x50008 17 true else s
    (s.mb.outstanding.filter fun o => o.ref == q && match o.cmd with | .mtrSaveNow _ => true | _ => false).foldl
      (fun t o => t.finish o eOk (w32 q) 0 0) s

/-- A save that is being written is abandoned (R277): its slot fails its CRC; what else stands in it is open (DESIGN CHOICE, log 4). -/
def State.dropSave (s : State) : State :=
  match s.mtr.save with
  | none => s
  | some (q, _, b) =>
    let f := s.drawn
    let s := s.draw
    let c := leAt b 2044 4
    let v := f.toNat % 2 ^ 32
    let s := s.wrMem (saveAddr q) (b.take 2044 ++ leBytes 4 (if v = c then c + 1 else v))
    { s.setMtr fun m => { m with save := none } with mb := { s.mb with
        outstanding := s.mb.outstanding.map fun o =>
          match o.cmd with
          | .mtrSaveNow _ => if o.ref = q then { o with ref := 0 } else o
          | _ => o } }

/-- Save slots of the partition that hold any byte. -/
def State.usedSaves (s : State) : List Nat :=
  ((s.mem.filter fun c => decide (0x11A00000 ≤ c.1 ∧ c.1 < 0x11B00000)).map fun c => (c.1 - 0x11A00000) / 2048).eraseDups

/-- A slot is valid: its CRC and FORMAT. -/
def saveValid (b : Bytes) : Bool := leAt b 2044 4 == crc32c (b.take 2044) && leAt b 4 2 == 1

/-- Restore one valid slot (R278). -/
def State.restoreFrom (s : State) (b : Bytes) : State :=
  let s := (List.range 64).foldl (fun t k => t.wr64 (accReg (k / 32) (k / 8 % 4) (k % 8)) (w64 (leAt b (16 + 8 * k) 8))) s
  let s := (List.range 4).foldl (fun t c =>
    (List.range 16).foldl (fun u j =>
      let v := w32 (leAt b (1056 + 96 * c + 4 * j) 4)
      (u.wr (heatReg c (4 * j)) v).wr (heatReg c (0x80 + 4 * j)) v) t) s
  let s := (List.range 8).foldl (fun t k => t.wr64 (0x51100 + 8 * k) (w64 (leAt b (1440 + 8 * k) 8))) s
  let s := (List.range 4).foldl (fun t k => t.wr (poutReg k 8) (w32 (leAt b (1504 + 16 * k + 12) 2))) s
  let s := (s.wr 0x5001C (w32 (leAt b 1568 4))).wr 0x50018 (w32 (leAt b 0 4))
  s.setMtr fun m => { m with
    res := (List.range 64).foldl (fun t k => kput 0 t k (w64 (leAt b (528 + 8 * k) 8))) []
    pins := (List.range 8).foldl (fun t k => kput 0 t k (w64 (leAt b (1440 + 8 * k) 8))) []
    pinsStep := (List.range 8).foldl (fun t k => kput 0 t k (w64 (leAt b (1440 + 8 * k) 8))) []
    pulse := (List.range 4).foldl (fun t k => kput {} t k { base := leAt b (1504 + 16 * k) 8, counted := leAt b (1504 + 16 * k + 8) 4 }) []
    heat := (List.range 4).foldl (fun t c =>
      let r := (List.range 3).map fun j => w64 (leAt b (1056 + 96 * c + 64 + 8 * j) 8)
      kput {} t c { kget {} m.heat c with res := r, resDone := r }) m.heat
    nextSeq := leAt b 0 4 + 1 }

/-- A power over one second as an energy in 10^-6 of a watt-hour, floor (R279). -/
def perSecond (v : Dbl) : Nat := (dFloor (dDiv (dMul v (dOfInt 2500)) (dOfInt 9))).toNat

/-- R278 and R279: restore at a reset; the calculators' configuration stands. -/
def State.restoreMeters (s : State) : State :=
  let l := s.usedSaves.map fun k => s.rdMem (0x11A00000 + 2048 * k) 2048
  let good := l.filter saveValid
  let bad := l.length - good.length
  match good.foldl (fun m b => match m with
      | some a => if leAt b 0 4 > leAt a 0 4 then some b else some a
      | none => some b) (none : Option Bytes) with
  | none => (s.setBit 0x50008 19 true).postFirn 0x0607 0 0 (w32 bad)
  | some b =>
    let seq := leAt b 0 4
    let kind := leAt b 6 1
    let s := (s.restoreFrom b).postFirn 0x0607 (w32 seq) (w32 kind) (w32 bad)
    if kind = 1 then s
    else
      let s := s.setBit 0x50008 18 true
      let s := [0, 1].foldl (fun t y => t.postFirn 0x0604 (w32 y) (w32 (perSecond (w64 (leAt b (1040 + 8 * y) 8)))) (w32 seq)) s
      -- POWER is not among the bytes that a slot holds: the bound is a free value (DESIGN CHOICE, log 4).
      ((List.range 4).filter fun c => leAt (kget {} s.mtr.heat c).cfg 2 1 != 0).foldl (fun t c =>
        t.draw.postFirn 0x0604 (w32 (0x10 + c)) (lo32 t.drawn) (w32 seq)) s

/-! ### Meter values (R258, R265) -/

/-- Post a meter value with its quality to MTR_MVALv and to the loop source table. -/
def State.postValue (s : State) (v : Nat) (x : Dbl) (bad : Bool) : State :=
  let s := (s.wr64 (0x50800 + 8 * v) x).setFld (0x51000 + 4 * (v / 16)) (2 * (v % 16) + 1) (2 * (v % 16)) (if bad then 2 else 0)
  { s with loop := { s.loop with meter := kput 0 s.loop.meter v x
                                 meterBad := if bad then insNat s.loop.meterBad v else s.loop.meterBad.filter fun k => k != v } }

/-- The values of a system over the latest 800 aligned samples (R265): index, value, BAD. -/
def State.systemValues (s : State) (sys : Nat) (l : List PhaseSums) (freq : Dbl) : List (Nat × Dbl × Bool) :=
  let ku := s.rd64 (sysReg sys 0)
  let ki := s.rd64 (sysReg sys 8)
  let k2 := dMul ku ki
  let base := 64 * sys
  let rms := fun v => dSqrt (dDiv v d800)
  let u := l.map fun x => dMul (rms x.su) ku
  let i := l.map fun x => dMul (rms x.si) ki
  let p := l.map fun x => dMul (dDiv x.sp d800) k2
  let q := l.map fun x => dMul (dDiv x.sq d800) k2
  let ap := l.map fun x => dMul (dMul (rms x.su) (rms x.si)) k2
  let pf := fun a b => if dEq b dZero then dZero else dDiv a b
  let sum := fun (v : List Dbl) => v.foldl dAdd dZero
  let vb := fun ph => s.chFaulted (voltCh sys ph)
  let ib := fun ph => s.chFaulted (currCh sys ph)
  let row := fun (o : Nat) (v : List Dbl) (bad : Nat → Bool) => ((List.range 3).zip v).map fun e => (base + o + e.1, e.2, bad e.1)
  let any := (List.range 3).any fun ph => s.phFaulted sys ph
  row 0 u vb ++ row 3 i ib ++ row 6 p (s.phFaulted sys) ++ row 9 q (s.phFaulted sys) ++ row 12 ap (s.phFaulted sys) ++
    row 15 ((p.zip ap).map fun e => pf e.1 e.2) (s.phFaulted sys) ++
    [(base + 18, sum p, any), (base + 19, sum q, any), (base + 20, sum ap, any), (base + 21, pf (sum p) (sum ap), any),
     (base + 22, freq, s.chFaulted (voltCh sys 0) || !dLe (dOfInt 40) freq || !dLe freq (dOfInt 70))]

/-- A platinum resistance thermometer (R258): the temperature, and whether it is BAD. -/
def platinum (y rn : Dbl) : Dbl × Bool :=
  let a := dOfRat 39083 10000000
  let b := dNeg (dOfRat 5775 10000000000)
  let rad := dSub (dMul a a) (dMul (dMul (dOfInt 4) b) (dSub dOne (dDiv y rn)))
  if dLt rad dZero then (dZero, true)
  else
    let t := dDiv (dAdd (dNeg a) (dSqrt rad)) (dMul (dOfInt 2) b)
    (t, !(dLe (dOfInt (-20)) t && dLe t (dOfInt 150)))

/-- The value of auxiliary channel 12 + f (R258). -/
def State.auxValue (s : State) (f : Nat) (xd : Dbl) : Dbl × Bool :=
  let c := 12 + f
  let y := dFma (s.gainOf c) xd (s.offsetOf c)
  let (v, bad) := match s.fld 0x50024 (2 * f + 1) (2 * f) with
    | 0 => (y, false)
    | 1 => platinum y (dOfInt 100)
    | 2 => platinum y (dOfInt 500)
    | _ => platinum y (dOfInt 1000)
  (v, bad || s.chFaulted c)

/-! ### Thermal calculators (R272 to R275) -/

/-- Density and specific enthalpy at 0, 10, … 150 °C in hundredths (R274). -/
def rhoTable : List Int :=
  [100061, 100042, 99889, 99631, 99287, 98868, 98385, 97842, 97247, 96601, 95908, 95171, 94391, 93568, 92703, 91796]
def enthTable : List Int :=
  [159, 4362, 8542, 12719, 16895, 21071, 25250, 29433, 33623, 37819, 42024, 46246, 50478, 54728, 58997, 63294]

/-- Interpolation in a table (R274). -/
def waterAt (tab : List Int) (th : Dbl) : Dbl :=
  let i := min (dFloor (dDiv th (dOfInt 10))).toNat 14
  let f := dDiv (dSub th (dOfInt (10 * i))) (dOfInt 10)
  let v := fun k => dOfRat (tab.getD k 0) 100
  dFma f (dSub (v (i + 1)) (v i)) (v i)

/-- A calculator configuration keeps to its table (R272). -/
def State.heatOk (s : State) (b : Bytes) : Bool :=
  let lpp := w64 (leAt b 8 8)
  let dt := w64 (leAt b 16 8)
  let arg := fun (sel o : Nat) =>
    if leAt b sel 1 = 0 then decide (12 ≤ leAt b o 4 ∧ leAt b o 4 ≤ 15) && s.fld 0x50024 (2 * (leAt b o 4 - 12) + 1) (2 * (leAt b o 4 - 12)) != 0
    else leAt b o 4 % 8 == 0 && decide (leAt b o 4 ≤ 262136)
  leAt b 0 2 == 1 && decide (leAt b 2 1 ≤ 3 ∧ leAt b 3 1 ≤ 7 ∧ leAt b 4 1 ≤ 1 ∧ leAt b 5 1 ≤ 1 ∧ leAt b 6 1 ≤ 1 ∧ leAt b 7 1 = 0) &&
  dLe (dOfRat 1 1000) lpp && dLe lpp (dOfInt 1000) && dLe dZero dt && dLe dt (dOfInt 3) && arg 5 24 && arg 6 28

/-- The 64-bit and 32-bit fields of a calculator's staging registers. -/
def State.stage64 (s : State) (c o : Nat) : Nat := (s.rd64 (heatReg c (0x80 + o))).toNat
def State.putStage64 (s : State) (c o v : Nat) : State := s.wr64 (heatReg c (0x80 + o)) (w64 v)

/-- Add an amount to a staged count with the residue of a number (R263, R273). -/
def State.addHeat (s : State) (c o k : Nat) (e : Dbl) : State :=
  let h := kget {} s.mtr.heat c
  let r := dAdd (h.res.getD k 0) e
  let w := dFloor r
  let res := (List.range 6).map fun j => if j = k then dSub r (dOfInt w) else h.res.getD j 0
  (s.putStage64 c o (s.stage64 c o + w.toNat)).setMtr fun m => { m with heat := kput {} m.heat c { h with res := res } }

/-- A temperature of a calculator at a step end (R273): the mean of an auxiliary channel over the step, BAD where one of its
values was or none came, or the input image's value. -/
def State.stepTemp (s : State) (sel arg : Nat) : Dbl × Bool :=
  let v := if sel = 0 then
      let a := kget (dZero, 0, true) s.mtr.auxStep arg
      (dDiv a.1 (dOfInt a.2.1), a.2.2)
    else (w64 (s.rdLe (aIn + arg) 8), false)
  (v.1, v.2 || !(dLe dZero v.1 && dLe v.1 (dOfInt 150)))

/-- The pin of a calculator's configuration. -/
def flowPin (cfg : Bytes) : Nat := leAt cfg 3 1

/-- A calculator's step ends (R272, R273): what the step is computed from is taken down, and the configuration that waits
applies from the next step. -/
def State.endHeatStep (s : State) (c : Nat) : State :=
  let h := kget {} s.mtr.heat c
  let h := { h with
    stepCfg := h.cfg, cfg := h.next.getD h.cfg, next := none
    pulses := if flowPin h.cfg = flowPin h.stepCfg ∧ !h.stepCfg.isEmpty then h.pulses else (kget 0 s.mtr.pinsStep (flowPin h.cfg)).toNat
    tf := s.stepTemp (leAt h.cfg 5 1) (leAt h.cfg 24 4), tr := s.stepTemp (leAt h.cfg 6 1) (leAt h.cfg 28 4) }
  s.setMtr fun m => { m with heat := kput {} m.heat c h }

/-- A step of 10 intervals ends (R265, R273): the calculators' steps, and the pulses that each pin gained. -/
def State.endStep (s : State) : State :=
  let s := (List.range 4).foldl State.endHeatStep s
  s.setMtr fun m => { m with
    rate := (List.range 8).foldl (fun t k => kput 0 t k ((kget 0 m.pins k).toNat - (kget 0 m.pinsStep k).toNat)) m.rate
    pinsStep := m.pins, auxStep := [] }

/-- One step of a calculator into its staging registers (R273). -/
def State.heatStep (s : State) (c : Nat) : State :=
  let h0 := kget {} s.mtr.heat c
  let cfg := h0.stepCfg
  let pin := (kget 0 s.mtr.pinsStep (flowPin cfg)).toNat
  let n := pin - h0.pulses
  let s := s.setMtr fun m => { m with heat := kput {} m.heat c { h0 with pulses := pin } }
  let s := s.wr (heatReg c 0xB8) (w32 ((s.rd (heatReg c 0xB8)).toNat + 1))
  let mode := leAt cfg 2 1
  let put := fun (t : State) (st : Nat) (p f tf tr : Dbl) =>
    (((((t.wr (heatReg c 0xB4) (w32 st)).wr (heatReg c 0xBC) 0).wr64 (heatReg c 0xC0) p).wr64 (heatReg c 0xC8) f).wr64 (heatReg c 0xD0) tf).wr64
      (heatReg c 0xD8) tr
  if mode = 0 then put s 4 dZero dZero dZero dZero
  else
    let dv := dMul (w64 (leAt cfg 8 8)) (dOfInt n)
    let ml := dMul dv (dOfInt 1000)
    let (tf, fb) := h0.tf
    let (tr, rb) := h0.tr
    let s := s.addHeat c 16 2 ml
    let flow := dMul dv (dOfRat 36 10)
    let was := (kget {} s.mtr.heat c).bad
    let now := b2n fb + 2 * b2n rb
    let s := s.setMtr fun m => { m with heat := kput {} m.heat c { kget {} m.heat c with bad := now } }
    if now ≠ 0 then
      let s := (s.addHeat c 40 5 ml).wr (heatReg c 0xB0) (w32 ((s.rd (heatReg c 0xB0)).toNat + 1))
      let s := if was = now then s else s.postAs .mtr 0x0606 (w32 c) (w32 now) (s.rd (heatReg c 0xB8))
      put s now dZero flow tf tr
    else
      let rho := waterAt rhoTable (if leAt cfg 4 1 = 0 then tf else tr)
      let dt := dSub tf tr
      let dtmin := w64 (leAt cfg 16 8)
      let e := fun a b => dDiv (dMul (dMul (dMul dv rho) (dSub (waterAt enthTable a) (waterAt enthTable b))) (dOfInt 5)) (dOfInt 18)
      if dLt dZero dt && dLe dtmin dt && mode % 2 == 1 then
        let x := e tf tr
        put ((s.addHeat c 0 0 x).addHeat c 24 3 ml) 0 (dMul x (dOfRat 36 10000)) flow tf tr
      else if dLt dt dZero && dLe dtmin (dNeg dt) && decide (mode ≥ 2) then
        let x := e tr tf
        put ((s.addHeat c 8 1 x).addHeat c 32 4 ml) 0 (dMul x (dOfRat 36 10000)) flow tf tr
      else put s 0 dZero flow tf tr

/-- The staging registers become the committed ones on one edge (R275). -/
def State.heatCommit (s : State) (c : Nat) : State :=
  let s := (List.range 24).foldl (fun t j => t.wr (heatReg c (4 * j)) (t.rd (heatReg c (0x80 + 4 * j)))) s
  s.setMtr fun m => { m with heat := kput {} m.heat c { kget {} m.heat c with resDone := (kget {} m.heat c).res } }

/-- The values of a calculator's last commit (R265). -/
def State.heatValues (s : State) (c : Nat) : List (Nat × Dbl × Bool) :=
  let off := leAt (kget {} s.mtr.heat c).stepCfg 2 1 == 0 || s.fld (heatReg c 52) 2 0 != 0
  let v := fun o => s.rd64 (heatReg c o)
  let tf := v 80
  let tr := v 88
  let b := 140 + 6 * c
  [(b, v 64, off), (b + 1, v 72, off), (b + 2, tf, off), (b + 3, tr, off), (b + 4, dSub tf tr, off), (b + 5, dZero, off)]

end Sys2Proof.Machine
end

