-- ==== Sys2Proof/Machine/Mtr.lean ====
section
/-! DEFINITION. The MTR class commands, and what the metering front end, the pulse emitter, the calculators and the save
engine do (08). -/

namespace Sys2Proof.Machine

/-- A calibration of channel `c` is running (R256, R259). -/
def State.calOf (s : State) (c : Nat) : Bool := s.mtr.cal.any fun r => r.channel == c

/-- The gain of a channel if channel `c` had gain `g` (R256). -/
def State.gainWith (s : State) (c : Nat) (g : Dbl) (k : Nat) : Dbl := if k = c then g else s.gainOf k

/-- MTR_CHAN_CONFIG (R256, R257). -/
def execMtrChanConfig (i : Issue) (channel : Byte) (gain : Dbl) (offset : Dbl) (delay : W16) (s : State) : Out :=
  .next (s.hostCmd { op := 0x0601, plen := 19 } i fun s =>
    let c := channel.toNat
    let d := delay.toInt
    s.checked i [(s.metroLock, eAccess),
                 (decide (c > 15) || dMag gain == 0 || !dFinite gain || !dFinite offset || decide (d < -2048 ∨ d > 2048), eParam),
                 (decide (c < 12) && !dLe (fullRating (s.gainWith c gain) (c / 6)) (dOfInt 21000), eParam),
                 (s.calOf c, eState)] fun s =>
      let s := ((s.wr64 (0x50100 + 0x20 * c) gain).wr64 (0x50108 + 0x20 * c) offset).wr (0x50110 + 0x20 * c) (w32 delay.toNat)
      (s.metroChange c).done i eOk)

/-- The operands of a reading of an accumulator lie in their ranges (R283). -/
def accOk (system phase quantity : Byte) : Bool := decide (system.toNat ≤ 1 ∧ phase.toNat ≤ 3 ∧ quantity.toNat ≤ 7)

/-- MTR_ENERGY_READ (R283). -/
def execMtrEnergyRead (i : Issue) (system : Byte) (phase : Byte) (quantity : Byte) (s : State) : Out :=
  .next (s.hostCmd { op := 0x0602, plen := 3 } i fun s =>
    s.checked i [(!accOk system phase quantity, eParam)] fun s =>
      let a := accReg system.toNat phase.toNat quantity.toNat
      s.complete i eOk (s.rd a) (s.rd (a + 4)) (s.rd 0x50018))

/-- MTR_DELTA_READ (R267): the delta counter and WRAP_CNT. -/
def execMtrDeltaRead (i : Issue) (system : Byte) (phase : Byte) (quantity : Byte) (s : State) : Out :=
  .next (s.hostCmd { op := 0x0603, plen := 3 } i fun s =>
    s.checked i [(!accOk system phase quantity, eParam)] fun s =>
      let a := accReg system.toNat phase.toNat quantity.toNat
      s.complete i eOk (s.rd a) (w32 (s.fld (a + 4) 7 0)) 0)

/-- The bytes of a calibration buffer lie in their ranges for a channel (R259). -/
def calBufOk (c : Nat) (b : Bytes) : Bool :=
  let kind := leAt b 0 1
  let sec := leAt b 2 2
  decide (c ≤ 15) && decide (b.length ≥ 16) && decide (1 ≤ kind ∧ kind ≤ 3) && decide (1 ≤ sec ∧ sec ≤ 50) &&
  leAt b 1 1 == 0 && leAt b 4 4 == 0 && (kind != 3 || (decide (c < 12) && c % 2 == 1)) && dFinite (w64 (leAt b 8 8))

/-- MTR_CAL_START (R259, R257). -/
def execMtrCalStart (i : Issue) (channel : Byte) (buf : Buf) (s : State) : Out :=
  .next (s.hostCmd { op := 0x0604, plen := 9, async := true } i fun s =>
    let c := channel.toNat
    s.checked i [(s.metroLock, eAccess), (!s.bufOk i.host false buf, eAccess), (!calBufOk c (s.rdBuf buf), eParam),
                 (s.mtr.cal.isSome, eState)] fun s =>
      let b := s.rdBuf buf
      let kind := leAt b 0 1
      let run : CalRun := { id := s.mb.serial, channel := c, kind := kind, ref := w64 (leAt b 8 8), seconds := leAt b 2 2 }
      (((s.startAsync (.mtrCalStart i channel buf) i).setMtr fun m => { m with cal := some run })).setBit (chReg c) 3 true)

/-- MTR_PULSE_CONFIG (R270, R257). -/
def execMtrPulseConfig (i : Issue) (output : Byte) (constant : W32) (width : W16) (s : State) : Out :=
  .next (s.hostCmd { op := 0x0605, plen := 7 } i fun s =>
    let k := output.toNat
    let c := constant.toNat
    let w := if width = 0 then 80 else width.toNat
    s.checked i [(s.metroLock, eAccess), (decide (k > 3 ∨ c < 1000 ∨ w < 10 ∨ w > 500), eParam)] fun s =>
      let src := s.fld (poutReg k 4) 21 16
      let acc := (s.rd64 (accReg (src / 32) (src / 8 % 4) (src % 8))).toNat
      let s := ((s.wr (poutReg k 0) constant).setFld (poutReg k 4) 15 0 w).wr (poutReg k 8) 0
      let p : PulseRun := { kget {} s.mtr.pulse k with base := acc / c, counted := 0, width := w }
      let s := s.setMtr fun m => { m with pulse := kput {} m.pulse k p }
      (s.metroChange k).done i eOk)

/-- MTR_HEAT_CONFIG (R272, R257). -/
def execMtrHeatConfig (i : Issue) (calculator : Byte) (buf : Buf) (s : State) : Out :=
  .next (s.hostCmd { op := 0x0606, plen := 9 } i fun s =>
    let c := calculator.toNat
    let b := sliceB (s.rdBuf buf) 0 32
    s.checked i [(s.metroLock, eAccess), (decide (c > 3 ∨ buf.len.toNat < 32), eParam), (!s.bufOk i.host false buf, eAccess),
                 (decide (leAt b 0 2 > 1), eVersion), (!s.heatOk b, eParam)] fun s =>
      let s := s.setMtr fun m => { m with heat := kput {} m.heat c { kget {} m.heat c with next := some b } }
      (s.metroChange c).done i eOk)

/-- MTR_HEAT_READ (R283). -/
def execMtrHeatRead (i : Issue) (calculator : Byte) (buf : Buf) (s : State) : Out :=
  .next (s.hostCmd { op := 0x0607, plen := 9 } i fun s =>
    let c := calculator.toNat
    s.checked i [(decide (c > 3 ∨ buf.len.toNat < 96), eParam), (!s.bufOk i.host true buf, eAccess)] fun s =>
      let b := (List.range 24).flatMap fun j => leBytes 4 (s.rd (heatReg c (4 * j))).toNat
      (s.wrMem (s.winAddr buf.off) b).complete i eOk 96 0 0)

/-- A command save is asked for (R276). -/
def State.askSave (s : State) : State := s.setBit 0x51700 1 true

/-- MTR_SAVE_NOW (R276). -/
def execMtrSaveNow (i : Issue) (s : State) : Out :=
  .next (s.hostCmd { op := 0x0608, plen := 0, async := true } i fun s => (s.startAsync (.mtrSaveNow i) i).askSave)

/-! ### Interval commit (R261 to R264, R269, R271, R276) -/

/-- The gain and offset in force for the interval that ends (R256). -/
def State.gainNow (s : State) (c : Nat) : Dbl × Dbl := kget (dOne, dZero) s.mtr.gain c

/-- The three phases of a system in an interval (R262). -/
def State.systemPhases (s : State) (sys : Nat) (l : List (List (Dbl × Dbl × Dbl))) : List PhaseEnergy :=
  (List.range 3).map fun ph =>
    let v := s.gainNow (voltCh sys ph)
    let c := s.gainNow (currCh sys ph)
    phaseEnergy (phaseSums (calibrate v.1 v.2 c.1 c.2 (l.getD (3 * sys + ph) []))) (s.rd64 (sysReg sys 0x10)) (s.phFaulted sys ph)

/-- What an interval of a system leaves beside its energies: MTR_NOLOAD, MTR_SYSs_FLTIV and the demand (R260, R264,
R276). -/
def State.systemMarks (s : State) (sys : Nat) (l : List PhaseEnergy) : State :=
  let s := s.setFld 0x50028 (4 * sys + 2) (4 * sys) (((List.range 3).zip l).map fun p => if p.2.noload then 2 ^ p.1 else 0).sum
  let s := if (List.range 3).any fun ph => s.phFaulted sys ph then s.count (sysReg sys 0x20) 1 else s
  s.raiseDemand sys (dDiv (l.foldl (fun a p => dAdd a p.ss) dZero) d800)

/-- The commands that wait for a save are bound to the one just taken (R276). -/
def State.bindSave (s : State) (q : Nat) : State :=
  let s := s.setBit 0x51700 1 false
  { s with mb := { s.mb with outstanding := s.mb.outstanding.map fun o =>
      match o.cmd with
      | .mtrSaveNow _ => if o.ref = 0 then { o with ref := q } else o
      | _ => o } }

/-- The counters that an interval commit advances: MTR_IVCNT, MTR_IVTIME, the faulted intervals of each channel, and the
pulse counters that it latches (R263, R269). -/
def State.commitCounts (s : State) : State :=
  let s := (s.count 0x5000C 1).wr64 0x50010 (if s.timeState = 0 then 0 else s.time.ns)
  let pin := fun k => s.rd64 (0x51100 + 8 * k)
  let flt := ((List.range 16).filter s.chFaulted).foldl (fun t c => kput 0 t c (kget 0 t c + 1)) s.mtr.flt
  let pins := (List.range 8).foldl (fun t k => kput 0 t k (pin k)) s.mtr.pins
  let s := s.setMtr fun m => { m with flt := flt, pins := pins }
  if (s.rd 0x5000C).toNat % 10 = 0 then s.endStep else s

/-- Samples of a calibration's channel lie in its window (R259). -/
def CalRun.take (r : CalRun) (y : List Dbl) : CalRun :=
  { r with count := r.count + y.length
           sum := y.foldl (fun a v => if r.kind = 1 then dAdd a v else dFma v v a) r.sum }

/-- The window of a calibration is open (R259). -/
def CalRun.open (r : CalRun) : Bool := r.left.any fun n => n != 0

/-- Change the calibration in progress. -/
def State.onCal (s : State) (f : CalRun → CalRun) : State := s.setMtr fun m => { m with cal := m.cal.map f }

/-- An interval's samples enter a calibration whose window is open (R259): y of its channel, and P and Q of its phase. -/
def State.calSamples (s : State) (l : List (List (Dbl × Dbl × Dbl))) : State :=
  s.onCal fun r =>
    let c := r.channel
    if c ≥ 12 ∨ !r.open then r
    else
      let v := s.gainNow (c / 2 * 2)
      let i := s.gainNow (c / 2 * 2 + 1)
      let x := calibrate v.1 v.2 i.1 i.2 (l.getD (c / 2) [])
      let e := phaseSums x
      { r.take (x.map fun t => if c % 2 = 0 then t.1 else t.2.1) with p := dAdd r.p e.sp, q := dAdd r.q e.sq }

/-- A sample of an auxiliary channel enters a calibration whose window is open (R259). -/
def State.calAux (s : State) (aux : List Dbl) : State :=
  s.onCal fun r =>
    let c := r.channel
    if c < 12 ∨ !r.open then r
    else r.take [dFma (s.gainOf c) (aux.getD (c - 12) dZero) (s.offsetOf c)]

/-- A channel that a calibration measures is faulted (R259). -/
def State.calFaulted (s : State) (r : CalRun) : Bool := s.chFaulted r.channel || (r.kind == 3 && s.chFaulted (r.channel - 1))

/-- An interval boundary for a calibration (R259): its window opens, or one of its intervals has passed. -/
def State.calInterval (s : State) : State :=
  s.setMtr fun m => { m with cal := m.cal.map fun r => match r.left with
    | none => { r with left := some (10 * r.seconds), faulted := s.calFaulted r }
    | some n => { r with left := some (n - 1) } }

/-- The save that an interval commit takes: a periodic one at each tenth commit, which serves a command too, else one for
a command that waits (R276). -/
def State.commitSave (s : State) : State :=
  let due := (s.rd 0x5000C).toNat % 10 == 0
  if due || s.bit 0x51700 1 then
    let q := s.mtr.nextSeq
    (s.endSave.takeSave (if due then 0 else 2)).bindSave q
  else s

/-- INTERVAL_COMMIT (R261 to R263, R269, R271, R276): the values of R256 take effect after it. -/
def execIntervalCommit (at_ : Nat) (samples : Samples) (s : State) : Out :=
  .next (
    let s := s.reach at_
    if !s.intervalDue at_ || !samplesOk samples.phases then s
    else
      let p0 := s.systemPhases 0 samples.phases
      let p1 := s.systemPhases 1 samples.phases
      let s := (s.systemMarks 0 p0).systemMarks 1 p1
      let es := systemEnergies 0 p0 ++ systemEnergies 1 p1
      let s := es.foldl (fun t e => t.addEnergy e.1 e.2.1 e.2.2.1 e.2.2.2) s
      let s := s.commitCounts
      let s := (List.range 4).foldl (fun t k =>
        let src := t.fld (poutReg k 4) 21 16
        match es.find? fun e => e.1 * 32 + e.2.1 * 8 + e.2.2.1 == src with
        | some e => t.pulseCommit k e.2.2.2
        | none => t) s
      let g := (List.range 16).foldl (fun t c => kput (dOne, dZero) t c (s.gainOf c, s.offsetOf c)) s.mtr.gain
      let s := s.calSamples samples.phases
      let s := s.setMtr fun m => { m with gain := g, gainOld := m.gain, posts := 0, nextEnd := some (at_ + sampleNs 800) }
      s.calInterval.commitSave)

/-- SAVE_WRITE_COMPLETE (R276). -/
def execSaveWriteComplete (s : State) : Out := .next s.endSave

/-- SAVE_REQUEST (R276): MTR_SAVE_CTRL.NOW is open to Firn. -/
def execSaveRequest (master : Master) (s : State) : Out := 
  .next (s.atReg master 0x51700 fun s => if master = .firn then s.askSave else s)

/-- A phase's window with gain and offset (R255, R256): the samples before the last interval boundary keep those of their
interval; `m` samples lie behind it. -/
def State.windowOf (s : State) (sys ph m : Nat) (l : List (Dbl × Dbl × Dbl)) : List (Dbl × Dbl × Dbl) :=
  let old := fun c => kget (dOne, dZero) s.mtr.gainOld c
  let v := voltCh sys ph
  let c := currCh sys ph
  calibrate (old v).1 (old v).2 (old c).1 (old c).2 (l.take (800 - m)) ++
    calibrate (s.gainNow v).1 (s.gainNow v).2 (s.gainNow c).1 (s.gainNow c).2 (l.drop (800 - m))

/-- The last two samples of an L1 voltage cross zero upwards (MTR_ZCCNTs). -/
def crosses (l : List (Dbl × Dbl × Dbl)) : Bool :=
  match l.drop 798 with
  | [a, b] => dLt a.1 dZero && dLe dZero b.1
  | _ => false

/-- The values of the auxiliary channels enter the means of the step in progress (R273). -/
def State.addAux (s : State) (aux : List (Nat × Dbl × Bool)) : State :=
  s.setMtr fun m => { m with auxStep := aux.foldl (fun t a =>
    let c := a.1 - 116
    let o := kget (dZero, 0, false) t c
    kset t c (dAdd o.1 a.2.1, o.2.1 + 1, o.2.2 || a.2.2)) m.auxStep }

/-- METER_VALUE_POST (R258, R265): behind each aligned sample. -/
def execMeterValuePost (window : MeterWindow) (s : State) : Out :=
  .next (if !samplesOk window.phases then s else
    let m := min 800 (s.mtr.posts + 1)
    let s := s.setMtr fun t => { t with posts := m }
    let wins := fun sys => (List.range 3).map fun ph => s.windowOf sys ph m (window.phases.getD (3 * sys + ph) [])
    let s := [0, 1].foldl (fun t y => t.count (0x5002C + 4 * y) (b2n (crosses ((wins y).getD 0 [])))) s
    let sys := fun y => s.systemValues y ((wins y).map phaseSums) (window.freq.getD y dZero)
    let aux := (List.range 4).map fun f => let v := s.auxValue f (window.aux.getD f dZero); (128 + f, v.1, v.2)
    let s := (s.addAux aux).calAux window.aux
    let rate := (List.range 8).map fun k => (132 + k, dOfInt ((kget 0 s.mtr.rate k : Nat) : Int), false)
    let l := sys 0 ++ sys 1 ++ aux ++ rate ++ (List.range 4).flatMap s.heatValues
    let s := l.foldl (fun t v => t.postValue v.1 v.2.1 v.2.2) s
    -- A bad frequency ends a trim measurement against the mains (R333).
    s.trimLost fun r => r.source != 2 && l.any fun v => v.1 == 64 * r.source + 22 && v.2.2)

/-! ### Channel faults, pulses -/

/-- CH_FAULT (R260): cause 1 stuck, 2 full scale. A running calibration that the channel belongs to fails (R259). -/
def execChFault (channel : Byte) (cause : Byte) (s : State) : Out :=
  .next (
    let c := channel.toNat
    if c > 15 ∨ !(cause == 1 || cause == 2) then s
    else
      let s := s.setBit (chReg c) cause.toNat true
      if s.chFaulted c then s
      else
        let s := ((s.setBit (chReg c) 0 true).setBit 0x50008 c true).setMtr fun m =>
          { m with flt := kput 0 m.flt c 0
                   cal := m.cal.map fun r =>
                    if r.open ∧ (r.channel = c ∨ (r.kind = 3 ∧ r.channel = c + 1)) then { r with faulted := true } else r }
        s.postHw 0x0601 (w32 c) (w32 cause.toNat) (s.rd 0x5000C))

/-- CH_RECOVER (R260). -/
def execChRecover (channel : Byte) (s : State) : Out :=
  .next (
    let c := channel.toNat
    if c > 15 ∨ !s.chFaulted c then s
    else
      let n := kget 0 s.mtr.flt c
      let s := ((s.setBit (chReg c) 0 false).setBit 0x50008 c false).setMtr fun m => { m with flt := kput 0 m.flt c 0 }
      s.postHw 0x0602 (w32 c) (w32 n) (s.rd 0x5000C))

/-- An output at an emitter tick (R271): the start of a pulse ends its safe level (R400). -/
def State.pulseTick (s : State) (k at_ : Nat) : State :=
  let p := kget {} s.mtr.pulse k
  let pend := s.fld (poutReg k 8) 15 0
  if decide (at_ < p.stop) || pend == 0 || decide (at_ < p.next) then s
  else
    let q : PulseRun := { p with stop := at_ + p.width * 1000000, next := at_ + 2 * p.width * 1000000 }
    let s := { s with fault := { s.fault with heldPout := s.fault.heldPout &&& ~~~(1#4 <<< k) } }
    (s.wr (poutReg k 8) (w32 (pend - 1))).setMtr fun m => { m with pulse := kput {} m.pulse k q }

/-- PULSE_EMITTER_TICK (R271, R280). -/
def execPulseEmitterTick (at_ : Nat) (s : State) : Out :=
  .next (
    let s := s.reach at_
    if s.outputsHeld || !s.outputsDriven then s
    else (List.range 4).foldl (fun t k => t.pulseTick k at_) s)

/-- PULSE_INPUT_EDGE (R269). -/
def execPulseInputEdge (pin : Byte) (s : State) : Out :=
  .next (
    let a := 0x51100 + 8 * pin.toNat
    if pin.toNat > 7 then s else s.wr64 a (w64 ((s.rd64 a).toNat + 1)))

/-! ### Calculators -/

/-- CALCULATOR_STEP (R273), which a lost MTR role does not make (R485). -/
def execCalculatorStep (calculator : Byte) (at_ : Nat) (s : State) : Out :=
  .next (if calculator.toNat > 3 || s.pwr.lost.getLsbD 6 then s else (s.reach at_).heatStep calculator.toNat)

/-- HEAT_COMMIT (R275): MTR_HEATc_CTRL.COMMIT is open to the MTR role. -/
def execHeatCommit (master : Master) (calculator : Byte) (s : State) : Out :=
  .next (if calculator.toNat > 3 then s else
    s.atReg master (0x513F0 + 0x100 * calculator.toNat) fun s => if master = .mtr then s.heatCommit calculator.toNat else s)

/-! ### Calibration -/

/-- The mean of y, the RMS of y, or φm in degrees, over a calibration's window (R259): each sum in the order of the samples
(DESIGN CHOICE, log 34). -/
def CalRun.value (r : CalRun) : Dbl :=
  let mean := dDiv r.sum (dOfInt r.count)
  match r.kind with
  | 1 => mean
  | 2 => dSqrt mean
  | _ => dAtan2Deg r.q r.p

/-- The proposal of a measurement (R259), `freq` being the mean frequency of a phase measurement's voltage: the status, W0 and
W1. -/
def State.calResult (s : State) (r : CalRun) (freq : Dbl) : Nat × W32 × W32 :=
  let c := r.channel
  let v := r.value
  let lim := dMul (dAbs (s.gainOf c)) (dOfRat 1 10)
  let out := fun (bad : Bool) (w : Dbl) => if bad then (0x0101, (0 : W32), (0 : W32)) else (0, lo32 w, hi32 w)
  if r.faulted then (0x0102, 0, 0)
  else if r.kind = 1 then out (!dLe (dAbs v) lim) (dSub (s.offsetOf c) v)
  else if r.kind = 2 then out (!dLe (dAbs (dSub v r.ref)) lim) (dDiv (dMul (s.gainOf c) r.ref) v)
  else
    let e := dSub v r.ref
    let step := dDiv (dMul e (dOfInt 2048000)) (dMul (dOfInt 360) freq)
    if !dLe (dOfInt 45) freq || !dLe freq (dOfInt 65) || !dLe (dAbs e) (dOfInt 5) then (0x0101, 0, 0)
    else
      let d := s.delayOf c - dRoundAway step
      if d < -2048 ∨ d > 2048 then (0x0101, 0, 0) else (0, i32 d, 0)

/-- CALIBRATION_WINDOW_END (R259): all intervals of the window have passed; no configuration changes. -/
def execCalibrationWindowEnd (measured : CalMeasure) (s : State) : Out :=
  .next (match s.mtr.cal with
    | none => s
    | some r =>
      if r.left ≠ some 0 then s else
      let (st, w0, w1) := s.calResult r measured.freq
      let s := (s.setMtr fun m => { m with cal := none }).setBit (chReg r.channel) 3 false
      s.finishId r.id st w0 w1 0)

/-! ### The power-fail warning -/

/-- The log at the power-fail warning (R413, R414), once the retentive drain has completed: a flush in progress, which has paused
until now, takes in every record unflushed at its resumption; without one a flush starts. -/
def State.flushOnWarning (s : State) : State :=
  if s.log.flush.isSome then { s with log := { s.log with flush := some s.logNext } } else s.startFlush

/-- POWER_FAIL_WARNING (R277, R229, R414, R373): the power-fail save, then the drain in progress, then the flush; a last
heartbeat. The save and the drain end within this command (DESIGN CHOICE, log 27). The warning is asserted while both feeds are
lost (R386). -/
def execPowerFailWarning (s : State) : Out :=
  .next (
    if s.bit aFeed 0 || s.bit aFeed 1 then s else
    let s := { s with pwr := { s.pwr with pfw := true } }
    let s := (s.setBit aFeed 3 true).sendHeartbeat 0 true
    let s := { s with pair := { s.pair with pfail := true } }
    let s := (s.dropSave.takeSave 1).endSave
    let s := match s.cyc.drains with
      | x :: _ => if s.bit (markReg x.task) 31 then s.closeDrain else s
      | [] => s
    s.flushOnWarning)

end Sys2Proof.Machine
end

