-- ==== Sys2Proof/Machine/PwrOps.lean ====
section
/-! DEFINITION. Switching power domains: the request, its end, and what a domain's loss discards (17, R468 to R470). -/

namespace Sys2Proof.Machine

/-- PCR_DOM_REQ and PCR_DOM_BUSY. -/
abbrev aDomReq : Nat := 0xE0008
abbrev aDomBusy : Nat := 0xE000C

/-- A port's link goes down: PORT_Pp_STAT and the record (11); a transmission ends with an inverted FCS (R359). -/
def State.dropLink (s : State) (p : Nat) : State :=
  let n := (s.portFrames p).length
  let s := s.cutFrame p
  let s := { s with port := { s.port with busy := kdel s.port.busy p } }
  let s := ((s.setBit (pReg p 0x104) 0 false).setFld (pReg p 0x104) 3 1 0).setBit (pReg p 0x104) 5 true
  s.postHw 0x0902 (w32 p) (w32 n) 0

/-- A switch of a domain begins (R469, R470): the request, the busy bit; a domain going off answers no more, and a port's
link drops and its queued frames are discarded and counted. -/
def State.startSwitch (s : State) (code : Nat) (turnOn : Bool) : State :=
  let s := (s.setBit aDomReq code turnOn).setBit aDomBusy code true
  let s := { s with pwr := { s.pwr with switching := s.pwr.switching ++ [⟨code, turnOn, s.now⟩] } }
  if turnOn then s
  else if 0x10 ≤ code ∧ code ≤ 0x13 then
    let p := code - 0x10
    let s := if s.linkUp p then s.dropLink p else s
    (s.count (pReg p 0x124) (s.portFrames p).length).removeFrames p (fun _ => true) 5
  else s

/-- The refusals of R468's table that do not depend on the host, and R512's for switching the LPDDR4X on with configured
size 0. -/
def State.domainBarred (s : State) (c : Nat) (turnOn : Bool) : Bool :=
  ((c == 0x0C || c == 0x0D) && s.isHead) || (c == 0x13 && s.fld 0x90008 3 0 != 0) ||
  (c == 0x16 && (s.isHead || (turnOn && s.chip.ddrSize == 0)))

/-- A tile is retired and switched off (R17): it never carries a role again until a power-on reset; the healthy tiles are
counted (R18), and with fewer than nine RSV is unassigned, with fewer than eight TILE_SHORT asserts. -/
def State.retireTile (s : State) (t cause : Nat) : State :=
  let s := ((s.setBit aTileStat (t - 2) true).setBit aDomOn t false).setBit aDomReq t false
  let s := if s.healthy < 9 then s.setRsv 15 else s
  let s := if cause = 2 then { s with pwr := { s.pwr with roleLost := s.pwr.roleLost ||| (1#9 <<< (t - 2)) } } else s
  let s := s.postFirn 0x0112 (w32 t) (w32 cause) (w32 s.healthy)
  if s.healthy < 8 then s.level 2 true else s

/-- A write of PCR_AVS_CFG or PCR_TILE_VOFFk (R475): with AVS_EN clear every tile's drop is 0, and a drop above 100 mV is not taken. -/
def State.avsWrite (s : State) (m : Master) (a : Nat) (v : W32) : State :=
  if m ≠ .firn then s
  else if a = 0xE0030 then
    let s := s.wr a (v &&& 0xFF)
    if v.getLsbD 0 then s else (List.range 9).foldl (fun t k => t.wr (0xE0040 + 4 * k) 0) s
  else if s.bit 0xE0030 0 && decide (v.toNat % 16 ≤ 10) then s.wr a (v &&& 0xF)
  else s

end Sys2Proof.Machine
end

