-- ==== Sys2Proof/Machine/Net.lean ====
section
/-! DEFINITION. The NET class commands, the switch, MACsec and the UARTs (11). -/

namespace Sys2Proof.Machine

/-! ### Configuration -/

/-- The configuration that a NET_PORT_CONFIG buffer of ports 0 to 3 holds. -/
def portOf (b : Bytes) : PortCfg :=
  let u := fun o => (b.getD o 0).toNat
  { enable := u 2 == 1, mode := u 3, fwd := b.getD 4 0, required := (b.getD 5 0).getLsbD 0, xpn := (b.getD 5 0).getLsbD 4,
    defQ := u 6, accept := u 7, pvid := leAt b 8 2, replay := u 10, nbr := u 11, chain := leAt b 12 2,
    mac := sliceB b 16 6, branches := (List.range 16).map fun k => leAt b (24 + 2 * k) 2 }

/-- The status of a NET_PORT_CONFIG buffer for one of ports 0 to 3 (R359). -/
def portStatus (p : Nat) (b : Bytes) : Nat :=
  let u := fun o => (b.getD o 0).toNat
  if b.length < 56 then eParam
  else if leAt b 0 2 ≠ 1 then eVersion
  else if u 2 > 1 ∨ u 3 > (if p < 2 then 2 else 1) ∨ u 4 > 31 ∨ u 5 % 16 > 1 ∨ u 5 / 16 > 1 ∨ u 6 > 7 ∨ u 7 > 2 ∨
      ¬(1 ≤ leAt b 8 2 ∧ leAt b 8 2 ≤ 4094) ∨ (p < 2 ∧ u 11 > 16 ∧ u 11 ≠ 0xFF) ∨ leAt b 14 2 ≠ 0 ∨ leAt b 22 2 ≠ 0
  then eParam
  else eOk

/-- Put a port's configuration in force (R359): PORT_Pp_CTRL shows ENABLE, MODE, FWD_MASK and MACSEC (DEDUCED, log 21); a link
that is up drops; ENABLE switches the port's sub-block (R468). -/
def State.setPortCfg (s : State) (p : Nat) (c : PortCfg) : State :=
  let s := { s with port := { s.port with cfg := kset s.port.cfg p c } }
  let s := s.wr (pReg p 0x100) (w32 (b2n c.enable + c.mode * 256 + c.fwd.toNat * 65536 +
    (b2n c.required + b2n c.xpn * 16) * 2 ^ 24))
  let s := if s.linkUp p then s.dropLink p else s
  if c.enable = s.subOn (0x10 + p) then s else s.startSwitch (0x10 + p) c.enable

/-- The value groups that a NET_PORT_CONFIG buffer of port 4 holds (R358). -/
def groupsOf (b : Bytes) : List ValueGroup :=
  (List.range (b.getD 4 0).toNat).map fun g =>
    let o := 8 + 24 * g
    let u := fun k => (b.getD (o + k) 0).toNat
    { group := u 0, port := u 1, queue := u 2, peer := BitVec.ofNat 16 (leAt b (o + 4) 2), first := leAt b (o + 6) 2,
      count := leAt b (o + 8) 2, interval := leAt b (o + 12) 4, phase := leAt b (o + 16) 4 }

/-- A value group's fields lie in their ranges, and its group is free (R358). -/
def State.groupOk (s : State) (g : ValueGroup) : Bool :=
  decide (g.group ≤ 127) && decide (g.port ≤ 3) && decide (g.queue ≤ 7) &&
  (g.peer.toNat == 0x3FFF || decide (1 ≤ g.peer.toNat ∧ g.peer.toNat ≤ 16382)) &&
  decide (1 ≤ g.count ∧ g.count ≤ 128) && decide (g.first + g.count ≤ 1024) &&
  decide (25 ≤ g.interval ∧ g.interval ≤ 1000000) && decide (g.phase < g.interval) && !s.pubGroups.contains g.group

/-- The status of a NET_PORT_CONFIG buffer for port 4 (R358, R359). -/
def State.cpuPortStatus (s : State) (b : Bytes) : Nat :=
  let n := (b.getD 4 0).toNat
  if b.length < 8 ∨ b.length < 8 + 24 * n then eParam
  else if leAt b 0 2 ≠ 1 then eVersion
  else if leAt b 2 2 = 0 ∨ n > 32 ∨ leAt b 5 3 ≠ 0 ∨ !((groupsOf b).all s.groupOk) ∨
      !((List.range n).all fun g => leAt b (8 + 24 * g + 3) 1 == 0 && leAt b (8 + 24 * g + 10) 2 == 0 &&
        leAt b (8 + 24 * g + 20) 4 == 0) then eParam
  else eOk

/-- The CPU port's configuration comes into force (R358): SYSID and the value groups, whose launches count on. -/
def State.setCpuPort (s : State) (b : Bytes) : State :=
  ({ s with port := { s.port with groups := groupsOf b } } : State).wr 0x8000C (w32 (leAt b 2 2))

/-- NET_PORT_CONFIG (R359). -/
def execNetPortConfig (i : Issue) (port : Byte) (buf : Buf) (s : State) : Out :=
  .next (s.hostCmd { op := 0x0901, plen := 9 } i fun s =>
    let p := port.toNat
    s.checked i [(decide (p > 4), eParam), (!s.bufOk i.host false buf, eAccess)] fun s =>
      let b := s.rdBuf buf
      if p = 4 then
        let st := s.cpuPortStatus b
        s.checked i [(st != eOk, st)] fun s => (s.setCpuPort b).done i eOk
      else
        let st := portStatus p b
        s.checked i [(st != eOk, st), (p == 3 && s.paired, eNotsupp),
                     (s.bit aDomBusy (0x10 + p), eState)] fun s =>
          (s.setPortCfg p (portOf b)).done i eOk)

/-- NET_PORT_STATUS (R362). -/
def execNetPortStatus (i : Issue) (port : Byte) (s : State) : Out :=
  .next (s.hostCmd { op := 0x0902, plen := 1 } i fun s =>
    let p := port.toNat
    s.checked i [(decide (p > 3), eParam)] fun s =>
      s.complete i eOk (s.rd (pReg p 0x104)) (s.rd (pReg p 0x108))
        (s.rd (pReg p 0x110) + s.rd (pReg p 0x114) + s.rd (pReg p 0x124) + s.rd (pReg p 0x128)))

/-- NET_ADDR_SET (R357): the address takes effect and stands in the configuration record. -/
def execNetAddrSet (i : Issue) (address : W16) (s : State) : Out :=
  .next (s.hostCmd { op := 0x0903, plen := 2 } i fun s =>
    s.checked i [(!decide (1 ≤ address.toNat ∧ address.toNat ≤ 16382), eParam), (s.driftBusy, eState)] fun s =>
      ((s.wr 0x80008 (w32 address.toNat)).setConf fun c => { c with address := address }).done i eOk)

/-- The membership list that a NET_VLAN_SET buffer holds (R350). -/
def vlansOf (b : Bytes) : List (Nat × Bool) :=
  (List.range (b.length / 4)).map fun k =>
    let e := leAt b (4 * k) 4
    (e % 4096, e / 32768 % 2 == 1)

/-- A NET_VLAN_SET buffer keeps to its layout: up to 64 entries of 4 bytes, other bits 0 (R350). -/
def vlanBytesOk (b : Bytes) : Bool :=
  b.length % 4 == 0 && decide (b.length ≤ 256) &&
  (List.range (b.length / 4)).all fun k =>
    let e := leAt b (4 * k) 4
    decide (1 ≤ e % 4096 ∧ e % 4096 ≤ 4094) && e / 4096 % 8 == 0 && decide (e < 65536)

/-- The distinct VIDs of all ports with a list in place of port `p`'s. -/
def State.vidsWith (s : State) (p : Nat) (l : List (Nat × Bool)) : List Nat :=
  ((kset s.port.vlans p l).flatMap fun e => e.2.map fun v => v.1).eraseDups

/-- NET_VLAN_SET (R350). -/
def execNetVlanSet (i : Issue) (port : Byte) (buf : Buf) (s : State) : Out :=
  .next (s.hostCmd { op := 0x0904, plen := 9 } i fun s =>
    s.checked i [(decide (port.toNat > 4), eParam), (!s.bufOk i.host false buf, eAccess)] fun s =>
      let b := s.rdBuf buf
      let l := vlansOf b
      s.checked i [(!vlanBytesOk b, eParam), (decide ((s.vidsWith port.toNat l).length > 64), eNospace)] fun s =>
        ({ s with port := { s.port with vlans := kset s.port.vlans port.toNat l } } : State).done i eOk)

/-- The largest packet number of a port's cipher suite (R352). -/
def pnMax (xpn : Bool) : Nat := if xpn then 2 ^ 64 - 1 else 2 ^ 32 - 1

/-- The packet number from which PN_LOW shows (R353). -/
def pnLimit (xpn : Bool) : Nat := if xpn then 0xC000000000000000 else 0xC0000000

/-- A port's transmit PN has come from `was` to `pn` (R353): PN_LOW and its record where it reaches the limit. -/
def State.pnReaches (s : State) (p an was pn : Nat) : State :=
  let low := pnLimit (s.portCfg p).xpn
  if was < low ∧ low ≤ pn then (s.setBit (pReg p 0x12C) 8 true).postHw 0x0904 (w32 p) (w32 an) (w32 pn) else s

/-- Install an SA (R352): a transmit SA replaces the one in use, a receive SA the one of its AN. A transmit SA's PN may stand at
the limit of R353 already. -/
def State.installSa (s : State) (a : MacSa) : State :=
  let keep := s.port.sas.filter fun b => !(b.port == a.port && b.dir == a.dir && (a.dir == 0 || b.an == a.an))
  let s := ({ s with port := { s.port with sas := keep ++ [a] } } : State).showSas a.port
  if a.dir = 0 then s.pnReaches a.port a.an 0 a.pn else s

/-- NET_MACSEC_SA (R352). -/
def execNetMacsecSa (i : Issue) (port : Byte) (direction : Byte) (an : Byte) (slot : Byte) (pn : W64) (s : State) : Out :=
  .next (s.hostCmd { op := 0x0905, plen := 12 } i fun s =>
    let p := port.toNat
    s.checked i [(decide (p > 3 ∨ direction.toNat > 1 ∨ an.toNat > 3 ∨ slot.toNat > 127), eParam),
                 (!s.slotValid slot.toNat, eRevoked),
                 ((s.slot slot.toNat).usage != 0x02 || !(s.portCfg p).required, eState),
                 (pn == 0 || decide (pn.toNat > pnMax (s.portCfg p).xpn), eParam)] fun s =>
      (s.installSa ⟨p, direction.toNat, an.toNat, slot.toNat, pn.toNat, false⟩).done i eOk)

/-- The gate that a NET_QUEUE_CONFIG buffer holds (R348). -/
def gateOf (b : Bytes) : Gate :=
  { lateSend := b.getD 3 0 == 1, cycle := leAt b 8 8, base := leAt b 16 8,
    windows := (List.range (b.getD 2 0).toNat).map fun k => (leAt b (24 + 8 * k) 4, leAt b (28 + 8 * k) 4) }

/-- The windows ascend, are disjoint, and lie within the cycle (table of NET_QUEUE_CONFIG). -/
def windowsOk (cycle : Nat) : Nat → List (Nat × Nat) → Bool
  | _, [] => true
  | lo, (o, c) :: t => decide (lo ≤ o ∧ o < c ∧ c ≤ cycle) && windowsOk cycle c t

/-- A NET_QUEUE_CONFIG buffer keeps to its table. -/
def gateOk (b : Bytes) : Bool :=
  let g := gateOf b
  decide (b.length ≥ 64) && leAt b 0 2 == 1 && decide ((b.getD 2 0).toNat ≤ 4) && decide ((b.getD 3 0).toNat ≤ 1) &&
  leAt b 4 4 == 0 && leAt b 56 8 == 0 &&
  (g.windows.isEmpty || (decide (10000 ≤ g.cycle ∧ g.cycle ≤ 16000000000) && windowsOk g.cycle 0 g.windows))

/-- The first cycle start of a gate at or after an instant (R348). -/
def gateStart (g : Gate) (t : Nat) : Nat :=
  if g.windows.isEmpty ∨ g.cycle = 0 then t
  else if t ≤ g.base then g.base - (g.base - t) / g.cycle * g.cycle
  else g.base + (t - g.base + g.cycle - 1) / g.cycle * g.cycle

/-- NET_QUEUE_CONFIG (R348): the new gate applies at its first cycle start. -/
def execNetQueueConfig (i : Issue) (port : Byte) (queue : Byte) (buf : Buf) (s : State) : Out :=
  .next (s.hostCmd { op := 0x0906, plen := 10 } i fun s =>
    s.checked i [(decide (port.toNat > 3 ∨ queue.toNat > 7), eParam), (!s.bufOk i.host false buf, eAccess),
                 (!gateOk (s.rdBuf buf), eParam)] fun s =>
      let g := gateOf (s.rdBuf buf)
      let next := kset s.port.gatesNext (port.toNat * 8 + queue.toNat) (gateStart g s.now, g)
      ({ s with port := { s.port with gatesNext := next } } : State).done i eOk)

/-- The gates whose cycle start has come apply (R348). -/
def State.applyGates (s : State) : State :=
  let due := s.port.gatesNext.filter fun p => decide (p.2.1 ≤ s.now)
  { s with port := { s.port with
    gates := due.foldl (fun m p => kset m p.1 p.2.2) s.port.gates
    gatesNext := s.port.gatesNext.filter fun p => !decide (p.2.1 ≤ s.now) } }

/-- A UART configuration is one of the table of R360; only M-Bus mode has a response timeout of its own. -/
def uartOk (c : UartCfg) : Bool :=
  if c.generic then
    (c.dataBits == 7 || c.dataBits == 8) && decide (c.parity ≤ 2) && (c.stopBits == 1 || c.stopBits == 2) &&
    decide (1200 ≤ c.rate ∧ c.rate ≤ 1000000) && c.timeout != 0
  else
    c.dataBits == 8 && c.parity == 1 && c.stopBits == 1 && [300, 2400, 9600, 19200, 38400].contains c.rate

/-- NET_UART_CONFIG (R360); the manual gives the buffer no layout, so what it holds comes with the command (DESIGN CHOICE, log 22). -/
def execNetUartConfig (i : Issue) (uart : Byte) (buf : Buf) (s : State) : Out :=
  .next (s.hostCmd { op := 0x0907, plen := 9 } i fun s =>
    s.checked i [(decide (uart.toNat > 3), eParam), (!s.bufOk i.host false buf, eAccess)] fun s =>
      match i.env.uart with
      | none => s.done i eParam
      | some c =>
        s.checked i [(!uartOk c, eNotsupp), (c.timeout != 0 && !decide (1 ≤ c.timeout ∧ c.timeout ≤ 2000), eParam)] fun s =>
          ({ s with port := { s.port with uarts := kset s.port.uarts uart.toNat c } } : State).done i eOk)

/-! ### Sending -/

/-- NET_FRAME_SEND on ports 0 to 3 (R346, R307, R77): the frame is queued, and the command completes at its launch. -/
def State.frameSend (s : State) (c : Instr) (i : Issue) (p q : Nat) (launch : Nat) (b : Bytes) : State :=
  s.checked i [(decide (p > 3 ∨ q > 7 ∨ b.length < 14), eParam),
               (decide (launch ≠ 0 ∧ launch > s.now + 16000000000), eParam),
               (!(isCmdFrame b && s.standby) && !s.linkUp p, 0x0101)] fun s =>
    let id := s.mb.serial
    match (s.startAsync c i).offer p q { bytes := b, launch := launch, origin := .command id } with
    | (t, none) => t
    | (t, some 7) => t.finishId id eNospace 0 0 0
    | (t, some st) => t.finishId id (sendStatus st) 0 0 0

/-- The settings of a UART in force (R360; before NET_UART_CONFIG, DESIGN CHOICE, log 12). -/
def State.uartCfg (s : State) (k : Nat) : UartCfg :=
  (kfind s.port.uarts k).getD ⟨false, 8, 1, 1, 2400, 0⟩

/-- The level of UARTk_DE at an instant (R360): high from one bit time before the first start bit of the request, which comes at
the launch time or as soon as DE allows, to the end of its last stop bit. -/
def State.uartDe (s : State) (k at_ : Nat) : Bool :=
  match kfind s.port.utx k with
  | none => false
  | some t =>
    let c := s.uartCfg k
    let bit := (1000000000 + c.rate - 1) / c.rate
    let first := max t.launch (t.since + bit)
    let char := 1 + c.dataBits + b2n (c.parity != 0) + c.stopBits
    decide (first ≤ at_ + bit ∧ at_ < first + t.len * char * 1000000000 / c.rate)

/-- A UART transaction begins or waits its turn (R361). -/
def State.uartBegin (s : State) (k : Nat) (t : UartTx) : State :=
  let t := { t with since := s.now }
  let s := (s.setBit (0x80600 + 0x20 * k) 1 true).setBit (0x80600 + 0x20 * k) 2 false
  if (kfind s.port.utx k).isSome then
    { s with port := { s.port with uwait := kset s.port.uwait k (kget [] s.port.uwait k ++ [t]) } }
  else { s with port := { s.port with utx := kset s.port.utx k t } }

/-- NET_FRAME_SEND (R361, R362). -/
def execNetFrameSend (i : Issue) (port : Byte) (queue : Byte) (launch : W64) (buf : Buf) (s : State) : Out :=
  .next (s.hostCmd { op := 0x0908, plen := 18, frozenNo := true, async := true } i fun s =>
    let p := port.toNat
    s.checked i [(decide (p = 4 ∨ p > 8), eParam), (!s.bufOk i.host false buf, eAccess),
                 (decide (p ≥ 5) && !s.bufOk i.host true buf, eAccess)] fun s =>
      let c := Instr.netFrameSend i port queue launch buf
      if p ≤ 3 then s.frameSend c i p queue.toNat launch.toNat (s.rdBuf buf)
      else
        let k := p - 5
        s.checked i [(queue != 0, eParam), (decide (launch.toNat > s.now + 16000000000), eParam),
                     ((kfind s.port.utx k).isSome, eState)] fun s =>
          let id := s.mb.serial
          (s.startAsync c i).uartBegin k ⟨some id, s.winAddr buf.off, buf.len.toNat, buf.len.toNat, launch.toNat, 0⟩)

/-- One transmit descriptor (11, CPU port rings): its frame is offered to its port; a refused frame gets its status and
loses OWN. A frame that finds no room gets the code of E_NOSPACE (R346; DEDUCED, log 20). -/
def State.txDescriptor (s : State) (idx : Nat) : State :=
  let (s, r) := s.dmaRead ((s.rd 0x80018).toNat + 32 * idx) 32
  let ctrl := r.getD 7 0
  if !ctrl.getLsbD 7 then s
  else
    let p := leAt r 6 1
    let (s, b) := s.dmaRead (leAt r 0 4) (leAt r 4 2)
    let f : QFrame := { bytes := b, launch := leAt r 8 8, origin := .ring idx, oneStep := ctrl.getLsbD 3 }
    if p > 3 then s.frameEnd f 5 0
    else if f.launch ≠ 0 ∧ f.launch > s.now + 16000000000 then s.frameEnd f 1 0
    else
      match s.offer p (ctrl.toNat % 8) f with
      | (t, none) => t
      | (t, some st) => t.frameEnd f (if st = 7 then eNospace else st) 0

/-- The switch takes the descriptors up to the tail, at most `n`. -/
def State.txRing (s : State) : Nat → State
  | 0 => s
  | n + 1 =>
    if s.port.txIdx = s.fld 0x8001C 7 0 then s
    else
      let t := s.txDescriptor s.port.txIdx
      ({ t with port := { t.port with txIdx := (t.port.txIdx + 1) % 256 } } : State).txRing n

/-- NET0, NET1 and FIRN write the *NET* fields. -/
def netWriter (m : Master) : Bool := m == .firn || m == .net0 || m == .net1

/-- TX_TAIL_WRITE (11): a write of PORT_TXTAIL hands frames over. -/
def execTxTailWrite (master : Master) (value : W32) (s : State) : Out :=
  .next (s.atReg master 0x8001C fun s => if netWriter master then (s.setFld 0x8001C 7 0 value.toNat).txRing 256 else s)

/-! ### Launching (R304 to R306, R347) -/

/-- The transmit symbol boundaries of a port come at this interval, in ns (R304). -/
def boundaryNs (p : Nat) : Nat := if p < 2 then 400 else 16

/-- The internal time of an MDI instant of a transmitting port, in the first whole ns at or after it (R304). -/
def State.internalOf (s : State) (p mdi : Nat) : Nat := (mdi * 65536 - (s.rd (tpReg p 0x104)).toNat + 65535) / 65536

/-- ns that a byte takes on a port at its speed. -/
def State.byteNs (s : State) (p : Nat) : Nat :=
  match s.fld (pReg p 0x104) 3 1 with
  | 4 => 80
  | 5 => 8
  | _ => 800

/-- Bytes of a frame from the preamble to the end of the inter-frame gap (R337, R347): padded to 60, with MACsec's 32
and the FCS. -/
def State.wireBytes (s : State) (p : Nat) (b : Bytes) : Nat :=
  8 + max 60 (b.length + b2n (s.portCfg p).required * 32) + 4 + 12

/-- The gate of a queue admits a frame at an internal time (R347, R348). -/
def State.gateOpen (s : State) (p q t n : Nat) : Bool :=
  match kfind s.port.gates (p * 8 + q) with
  | none => true
  | some g =>
    g.windows.isEmpty ||
    let x := if t ≥ g.base then (t - g.base) % g.cycle else (g.cycle - (g.base - t) % g.cycle) % g.cycle
    g.windows.any fun w => decide (w.1 ≤ x ∧ x < w.2 ∧ x + n * s.byteNs p ≤ w.2)

/-- LATE_MODE of a queue is SEND (R306). -/
def State.lateSend (s : State) (p q : Nat) : Bool :=
  match kfind s.port.gates (p * 8 + q) with
  | none => false
  | some g => g.lateSend

/-- The port is idle at an MDI instant (R304). -/
def State.idleAt (s : State) (p t : Nat) : Bool := decide (kget 0 s.port.busy p ≤ t)

/-- A head frame is never eligible (R347): it fits no window of its queue's gate. -/
def State.neverFits (s : State) (p q n : Nat) : Bool :=
  match kfind s.port.gates (p * 8 + q) with
  | none => false
  | some g => !g.windows.isEmpty && g.windows.all fun w => decide (w.2 < w.1 + n * s.byteNs p)

/-- Drop the late heads of a queue under DROP (R304, R306): a head whose first boundary has passed, or finds the port not
idle; one that is never eligible (R347); and the drift frames of this unit that FREEZE or the state of the time base keeps from being launched (R154, R155). -/
def State.dropLate (s : State) (p q boundary : Nat) : Nat → State
  | 0 => s
  | n + 1 =>
    match s.queue p q with
    | f :: t =>
      if isOwnDrift f && decide (f.launch ≤ boundary) && (s.frozen || s.timeState != 2) then
        (s.setQueue p q t).dropLate p q boundary n
      else if ((f.launch ≠ 0 ∧ (f.launch + boundaryNs p ≤ boundary ∨ (f.launch ≤ boundary ∧ !s.idleAt p boundary))) ∨
          s.neverFits p q (s.wireBytes p f.bytes)) ∧ (f.strict || !s.lateSend p q) then
        let s := ((s.setQueue p q t).count (tpReg p 0x110) 1).postHw 0x0708 (w32 (p + q * 256)) (w32 f.launch)
          (w32 (if f.launch = 0 then 0 else boundary - f.launch))
        let s := if isOwnDrift f && subtypeOf f.bytes == 0x12 then
            let b := (fieldPart f.bytes).drop 16
            s.postAs .seq 0x0301 (w32 (beNat (sliceB b 0 4))) (w32 (beNat (sliceB b 4 1))) 5
          else s
        (s.frameEnd f 1 0).dropLate p q boundary n
      else s
    | [] => s

/-- The frame to start at a boundary: the head of the highest queue whose head is eligible (R347); a frame of Avalanche
waits for a quiet window to close (R436), and a command frame of this unit for a record that names its personality (R4;
DEDUCED, log 20). -/
def State.nextFrame (s : State) (p t boundary : Nat) : Option (Nat × QFrame) :=
  [7, 6, 5, 4, 3, 2, 1, 0].findSome? fun q =>
    match s.queue p q with
    | f :: _ =>
      let n := s.wireBytes p f.bytes
      if (f.launch = 0 ∨ f.launch ≤ boundary) ∧ s.gateOpen p q t n ∧ !(s.persMismatch && fromCpu f && isCmdFrame f.bytes) ∧
          !(decide (p < 2) && isAvalanche f.bytes && s.quiet t (t + n * s.byteNs p)) then some (q, f) else none
    | [] => none

/-- Add to the correctionField of a PTP message, in units of 2^-16 ns (R300, R302). -/
def addCorrection (b : Bytes) (x : Int) : Bytes :=
  let o := 14 + tagLen b + 8
  let v := BitVec.ofInt 64 ((BitVec.ofNat 64 (beNat (sliceB b o 8))).toInt + x)
  b.take o ++ beBytes 8 v.toNat ++ b.drop (o + 8)

/-- Write the corrected egress stamp into a Sync's originTimestamp, the remainder into its correctionField (R302). -/
def oneStepInsert (b : Bytes) (stamp16 : Nat) : Bytes :=
  let o := 14 + tagLen b + 34
  let ns := stamp16 / 65536
  let b := b.take o ++ beBytes 6 (ns / 1000000000) ++ beBytes 4 (ns % 1000000000) ++ b.drop (o + 10)
  addCorrection b (stamp16 % 65536 : Nat)

/-- What MACsec makes of a frame that a port starts (R351, R353, R354): the port after it, with the SA and the packet number that
protect the frame where the port protects it, or none where the frame may not leave. -/
def State.protect (s : State) (p : Nat) : Option (State × Option MacSa) :=
  if !(s.portCfg p).required then some (s, none)
  else
    match s.txSa p with
    | some a =>
      if a.dead then none
      else
        let top := pnMax (s.portCfg p).xpn
        let a' := { a with pn := a.pn + 1, dead := decide (a.pn ≥ top) }
        let s := { s with port := { s.port with sas := s.port.sas.map fun b => if b = a then a' else b } }
        some ((s.showSas p).pnReaches p a.an a.pn (a.pn + 1), some a)
    | none => none

/-- The secure channel identifier of a port (R351): its MAC and port identifier 0x0001. -/
def State.sci (s : State) (p : Nat) : Bytes := (s.portCfg p).mac ++ [0x00, 0x01]

/-- The SecTAG (R351, IEEE 802.1AE): EtherType 0x88E5, SC, E and C with the AN, the short length of `n` bytes of secure data, the
low word of the PN, and the SCI. -/
def State.secTag (s : State) (a : MacSa) (n : Nat) : Bytes :=
  [0x88, 0xE5, BitVec.ofNat 8 (0x2C + a.an), BitVec.ofNat 8 (if n < 48 then n else 0)] ++ beBytes 4 a.pn ++ s.sci a.port

/-- The IV of a frame (IEEE 802.1AE): under GCM-AES-256 the SCI and the PN, under XPN the SSCI and the PN, XORed with the salt of
the key slot (R351). -/
def State.macIv (s : State) (a : MacSa) : Bytes :=
  if (s.portCfg a.port).xpn then
    let ssci := if s.address < Config.peerAddress a.port then 1 else 2
    xorB (beBytes 4 ssci ++ beBytes 8 a.pn) (beBytes 12 (Config.saltOf (s.slot a.slot).key).toNat)
  else s.sci a.port ++ beBytes 4 a.pn

/-- A frame as MACsec protects it (R350, R351, R355): addresses, SecTAG, the rest in cipher, tag included, and the ICV. -/
def State.secured (s : State) (a : MacSa) (b : Bytes) : Bytes :=
  let ks := aesKeys (s.slot a.slot).key
  let data := b.drop 12
  let aad := b.take 12 ++ s.secTag a data.length
  let ct := xorB data (gcmStream ks (s.macIv a) data)
  aad ++ ct ++ gcmTag ks (s.macIv a) aad ct

/-- A frame on the wire, from the destination address to the FCS (R351, R355), padded to 64 bytes (R337). -/
def State.onWire (s : State) (sa : Option MacSa) (b : Bytes) : Bytes :=
  let m := match sa with
    | some a => s.secured a b
    | none => b
  let m := m ++ List.replicate (60 - m.length) 0
  m ++ fcs m

/-- A port transmits up to an MDI instant. -/
def State.occupy (s : State) (p t : Nat) : State := { s with port := { s.port with busy := kset s.port.busy p t } }

/-- A frame leaves a port from an MDI instant on: PORT_Pp_TXCNT and the model's own record of it, plain and as it goes over the
wire. -/
def State.sent (s : State) (p : Nat) (sa : Option MacSa) (b : Bytes) (start : Nat) : State :=
  (({ s with port := { s.port with
      lastTx := kset s.port.lastTx p b
      lastWire := kset s.port.lastWire p (s.onWire sa b) } } : State).occupy p
    (start + s.wireBytes p b * s.byteNs p)).count (pReg p 0x10C) 1

/-- A frame that a port has begun ends with an inverted FCS (R341). -/
def State.sentBad (s : State) (p : Nat) (sa : Option MacSa) (b : Bytes) : State :=
  { s with port := { s.port with
    aborted := kset s.port.aborted p (kget 0 s.port.aborted p + 1)
    lastWire := kset s.port.lastWire p (badFcs (s.onWire sa b)) } }

/-- The frame exceeds 1,522 bytes once a port's MACsec is added (R337). -/
def State.tooLong (s : State) (p : Nat) (b : Bytes) : Bool := decide (b.length + 4 + b2n (s.portCfg p).required * 32 > 1522)

/-- The corrected egress stamp of a frame whose first preamble bit leaves at an MDI instant (R297): its timestamp point
follows 8 bytes later; in units of 2^-32 ns. -/
def State.egress32 (s : State) (p start : Nat) : Int :=
  s.stampAt (s.internalOf p start + 8 * s.byteNs p) + ((s.rd (tpReg p 0x104)).toNat * 65536 : Nat)

/-- Start the frame chosen at a boundary: too long with MACsec (R337), stopped by MACsec (R353), or sent with its launch
stamp (R305). -/
def State.startFrame (s : State) (p q : Nat) (f : QFrame) (boundary : Nat) : State :=
  let stamp := s.egress32 p boundary
  let s := s.setQueue p q ((s.queue p q).drop 1)
  if s.tooLong p f.bytes then
    (s.count (pReg p 0x124) 1).frameEnd f 4 0
  else
    match s.protect p with
    | none => (s.count (pReg p 0x128) 1).frameEnd f 4 0
    | some (s, sa) =>
      let b := if f.oneStep then oneStepInsert f.bytes (stamp / 65536).toNat else f.bytes
      let b := match f.residence with
        | some r => addCorrection b ((stamp - r) / 65536)
        | none => b
      let s := s.sent p sa b boundary
      let s := if isOwnDrift f && (subtypeOf b == 0x12 || subtypeOf b == 0x13) then s.event 14 else s
      s.frameEnd f 0 boundary

/-- What is reported of a boundary is the port's: the interval of its boundaries (R304), and the boundary's raw stamp in ns and
2^-32 ns (R297). -/
def State.boundaryIs (s : State) (p boundary interval stamp frac : Nat) : Bool :=
  interval == boundaryNs p && ((stamp * 2 ^ 32 + frac : Nat) : Int) == s.stampAt (s.internalOf p boundary)

/-- FRAME_LAUNCH (R304 to R306, R340, R347): at a symbol boundary with MDI time `boundary` an idle port starts the eligible
head. A row that reports another interval or stamp names no boundary of the port (DESIGN CHOICE, log 70). -/
def execFrameLaunch (port : Byte) (boundary interval stamp frac : Nat) (s : State) : Out :=
  .next (
    let p := port.toNat
    let t := s.internalOf p boundary
    let s := (s.reach t).applyGates
    if p > 3 ∨ !s.linkUp p ∨ !s.boundaryIs p boundary interval stamp frac then s
    else
      let s := (List.range 8).foldl (fun u q => u.dropLate p q boundary 64) s
      if !s.idleAt p boundary then s
      else
        match s.nextFrame p t boundary with
        | some (q, f) =>
          let s := s.startFrame p q f boundary
          (if p = 3 then s.pairDrain else s).driftRefill p 65
        | none => s)

/-! ### Receiving (R337 to R343, R350, R351) -/

/-- The switch runs (PORT_CTRL.RUN). -/
def State.switching (s : State) : Bool := s.bit 0x80004 0

/-- MACsec accepts a received frame (R351, R352): its receive SA is installed and alive, its ICV verifies, its PN is not
behind the replay window. -/
def State.secOk (s : State) (p : Nat) (f : RxFrame) : Bool :=
  match f.sec with
  | none => !(s.portCfg p).required
  | some t =>
    t.icvOk && s.port.sas.any fun a => a.port == p && a.dir == 1 && a.an == t.an && !a.dead &&
      decide (a.pn ≤ t.pn + (s.portCfg p).replay)

/-- A receive SA moves on to the packet numbers that follow (R352). -/
def State.secAdvance (s : State) (p : Nat) (f : RxFrame) : State :=
  match f.sec with
  | none => s
  | some t => { s with port := { s.port with sas := s.port.sas.map fun a =>
      if a.port == p && a.dir == 1 && a.an == t.an then { a with pn := max a.pn (t.pn + 1) } else a } }

/-- The frame is a PTP message of the configured domain on a port with PTP enabled (R339). -/
def State.ptpHere (s : State) (p : Nat) (b : Bytes) : Bool :=
  etherType b == 0x88F7 && s.time.ptp.portEn.getLsbD p && (fieldPart b).getD 4 0 == BitVec.ofNat 8 s.time.ptp.domain

/-- The transparent clock forwards and corrects a PTP message (R300). -/
def State.tcOn (s : State) : Bool := !s.isHead && s.time.ptp.tcEn

/-- The PTP event messages that R300 corrects: Sync, and Delay_Req under end-to-end delay. -/
def State.tcEvent (s : State) (b : Bytes) : Bool :=
  let ty := ((fieldPart b).getD 0 0).toNat % 16
  etherType b == 0x88F7 && (fieldPart b).getD 4 0 == BitVec.ofNat 8 s.time.ptp.domain &&
  (ty == 0 || (ty == 1 && s.time.ptp.delayMech == 0))

/-- The link delay that a peer-to-peer transparent clock adds to a Sync (R300). -/
def State.tcLink (s : State) (p : Nat) (b : Bytes) : Int :=
  if s.time.ptp.delayMech = 1 ∧ ((fieldPart b).getD 0 0).toNat % 16 = 0 then
    (s.rd (tpReg p 0x10C)).toInt + (s.rd (tpReg p 0x108)).toInt else 0

/-- The corrected ingress stamp in units of 2^-32 ns (R297). -/
def State.ingress32 (s : State) (p : Nat) (f : RxFrame) : Int :=
  s.stampAt f.at_ - ((s.rd (tpReg p 0x100)).toNat * 65536 : Nat)

/-- The destination is this unit's field MAC or the port's MAC (R339). -/
def State.forMe (s : State) (p : Nat) (b : Bytes) : Bool :=
  let da := sliceB b 0 6
  (s.address != 0 && da == fieldMac s.address) || da == (s.portCfg p).mac

/-- 01-80-C2-00-00-00 to -0F (R339). -/
def linkLocal (b : Bytes) : Bool := sliceB b 0 5 == [0x01, 0x80, 0xC2, 0x00, 0x00] && decide ((b.getD 5 0).toNat ≤ 15)

/-- A group address. -/
def isGroup (b : Bytes) : Bool := (b.getD 0 0).getLsbD 0

/-- The frame's VID on a port (R350): its tag's, or the PVID for an untagged or priority-tagged frame. -/
def State.vidOn (s : State) (p : Nat) (b : Bytes) : Nat :=
  if tagLen b = 4 ∧ tagVid b ≠ 0 then tagVid b else (s.portCfg p).pvid

/-- Port `p` is a member of a VID, and whether the tag is removed there (R350). A port without a list is an untagged
member of its PVID (DESIGN CHOICE, log 12). -/
def State.member (s : State) (p vid : Nat) : Option Bool :=
  match kget [] s.port.vlans p with
  | [] => if vid = (s.portCfg p).pvid then some true else none
  | l => (l.find? fun e => e.1 = vid).map fun e => e.2

/-- The acceptance rule and the ingress membership of R350. -/
def State.vlanOk (s : State) (p : Nat) (b : Bytes) : Bool :=
  let tagged := tagLen b == 4 && tagVid b != 0
  (match (s.portCfg p).accept with
    | 1 => tagged
    | 2 => !tagged
    | _ => true) && (s.member p (s.vidOn p b)).isSome

/-- The frame as it leaves a member port: the tag removed where UNTAG is set, put on where it is not (R350). -/
def retag (b : Bytes) (vid : Nat) (untag : Bool) : Bytes :=
  if untag then (if tagLen b = 4 then b.take 12 ++ b.drop 16 else b)
  else if tagLen b = 4 then b.take 14 ++ beBytes 2 (tagPcp b * 8192 + vid) ++ b.drop 16
  else b.take 12 ++ [0x81, 0x00] ++ beBytes 2 vid ++ b.drop 12

/-- The address table learns a source on a port (R339): at most 1,024 entries. -/
def State.learn (s : State) (p : Nat) (b : Bytes) : State :=
  let mac := beNat (sliceB b 6 6)
  let others := s.port.addr.filter fun e => e.mac ≠ mac
  if s.port.addr.any (fun e => e.mac == mac) || decide (others.length < 1024) then
    { s with port := { s.port with addr := others ++ [⟨mac, p, s.now⟩] } }
  else s

/-- The store-and-forward egress ports of a frame among 0 to 3 (R338, R339): never its own port, and never the other T1L
port, which cut-through serves. -/
def State.egressPorts (s : State) (p : Nat) (b : Bytes) : List Nat :=
  let cand := (List.range 4).filter fun q =>
    q != p && (s.portCfg p).fwd.getLsbD q && !(decide (p < 2) && decide (q < 2))
  if isGroup b then cand
  else if s.forMe p b then []
  else
    match s.port.addr.find? fun e => e.mac == beNat (sliceB b 0 6) with
    | some e => cand.filter fun q => q == e.port
    | none => cand.filter fun q => decide (q ≥ 2)

/-- Forward a frame to one egress port (R346, R350): a member port of its VID, the queue of its PCP or DEF_Q. -/
def State.forwardTo (s : State) (p : Nat) (f : RxFrame) (q : Nat) : State :=
  let vid := s.vidOn p f.bytes
  match s.member q vid with
  | none => s
  | some untag =>
    let b := retag f.bytes vid untag
    let qu := if tagLen f.bytes = 4 then tagPcp f.bytes else (s.portCfg q).defQ
    if s.tcOn && s.tcEvent f.bytes then
      if s.linkUp q && s.hasRoom q qu b.length then
        s.setQueue q qu (s.queue q qu ++ [{ bytes := b, origin := .forwarded,
                                            residence := some (s.ingress32 p f - s.tcLink p f.bytes * 65536) }])
      else s.count (pReg q 0x124) 1
    else s.sendForward q qu b

/-- The subtypes of R355's table. -/
def subtypeDefined (n : Nat) : Bool :=
  decide (0x10 ≤ n ∧ n ≤ 0x13) || decide (0x20 ≤ n ∧ n ≤ 0x22) || decide (0x30 ≤ n ∧ n ≤ 0x33) || decide (0x40 ≤ n ∧ n ≤ 0x47)

/-- The frame as the CPU port's membership leaves it (R350): none where port 4 is no member of its VID. Without a list, port 4
takes every VID with the bytes as they are (DESIGN CHOICE, log 12). -/
def State.cpuBytes (s : State) (p : Nat) (b : Bytes) : Option Bytes :=
  match kget [] s.port.vlans 4 with
  | [] => some b
  | l => (l.find? fun e => e.1 = s.vidOn p b).map fun e => retag b (s.vidOn p b) e.2

/-- The next receive descriptor that the switch owns is filled (11, CPU port rings). -/
def State.fillRx (s : State) (p : Nat) (f : RxFrame) (b : Bytes) : State :=
  let d := (s.rd 0x80010).toNat + 32 * s.port.rxIdx
  let (s, r) := s.dmaRead d 32
  if !(r.getD 7 0).getLsbD 0 then s
  else
    let st := (s.ingress32 p f).toNat
    let s := s.dmaWrite (leAt r 0 4) (b.take 2048)
    let s := s.dmaWrite (d + 4) (leBytes 2 b.length ++ [BitVec.ofNat 8 p] ++
      [BitVec.ofNat 8 (b2n f.sec.isSome * 2 + b2n (tagLen b == 4) * 4 + 8)] ++
      leBytes 8 (st / 2 ^ 32) ++ leBytes 4 (st % 2 ^ 32) ++ leBytes 2 (s.vidOn p f.bytes))
    { s with port := { s.port with rxIdx := (s.port.rxIdx + 1) % 256 } }

/-- The CPU port receives a frame, within the VLAN rules (R350): a field frame only where R356 accepts it. -/
def State.toCpu (s : State) (p : Nat) (f : RxFrame) : State :=
  if !(s.portCfg p).fwd.getLsbD 4 then s
  else
    match s.cpuBytes p f.bytes with
    | none => s
    | some b =>
      if isField f.bytes then
        let h := headerOf f.bytes p f.at_
        if !subtypeDefined (subtypeOf f.bytes) then s.count 0x80020 1
        else
          let t := s.admitField h (subtypeOf f.bytes) (isCmdFrame f.bytes)
          if s.accepts h (isCmdFrame f.bytes) = .ok then t.fillRx p f b else t
      else s.fillRx p f b

/-- The measured partner offset (R343). -/
def State.showPpm (s : State) (p : Nat) (f : RxFrame) : State :=
  let s := s.wr (pReg p 0x118) (i32 f.ppm)
  if f.ppm.natAbs > 10000 then s.postHw 0x0903 (w32 p) (i32 f.ppm) (s.rd (pReg p 0x114)) else s

/-- A field frame with the unit's own address as SRC, which is discarded where it arrives (R356). -/
def State.ownSrc (s : State) (b : Bytes) : Bool :=
  isField b && s.address != 0 && beNat (sliceB (fieldPart b) 4 2) == s.address

/-- The cause for which a received frame fails (R337, R341, R343, R351): 1 FCS, 2 ICV, 3 length, 4 elastic buffer; 0 none. A
frame of up to 1,522 bytes from a sender within 100 ppm passes the elastic buffer intact (R343). -/
def State.abortCause (s : State) (p : Nat) (f : RxFrame) : Nat :=
  if f.elastic && (decide (f.ppm.natAbs > 10000) || decide (f.wire > 1522)) then 4
  else if !decide (64 ≤ f.wire ∧ f.wire ≤ 1522) then 3
  else if !f.fcsOk then 1
  else if !s.secOk p f then 2
  else 0

/-- A frame goes by cut-through to the other T1L port (R336, R339 steps 1 to 3). -/
def State.cutsThrough (s : State) (p : Nat) (f : RxFrame) : Bool :=
  let b := f.bytes
  decide (p < 2) && s.switching && !s.recovery && (s.portCfg p).fwd.getLsbD (1 - p) && !linkLocal b &&
  !s.forMe p b && (!s.ptpHere p b || s.tcOn) && etherType b != 0x8808 && !s.ownSrc b

/-- The ingress port counts a frame: a good one moves its receive SA on, a bad one is discarded (R337, R343, R351, R352). -/
def State.ingress (s : State) (p : Nat) (f : RxFrame) : State :=
  let s := s.showPpm p f
  match s.abortCause p f with
  | 0 => (s.count (pReg p 0x108) 1).secAdvance p f
  | 2 => s.count (pReg p 0x128) 1
  | 4 => s.count (pReg p 0x114) 1
  | _ => s.count (pReg p 0x110) 1

/-- A PTP event message that this station corrects, of which the CPU port gets a copy (R300). -/
def State.corrected (s : State) (b : Bytes) : Bool := s.tcOn && s.tcEvent b

/-- A frame that has passed the ingress port goes to its egress ports and the CPU port (R339), unless it breaks the acceptance
rule or the membership of its port (R350), which the cut-through path and its copy do not see. -/
def State.deliver (s : State) (p : Nat) (f : RxFrame) : State :=
  let b := f.bytes
  if etherType b = 0x8808 || s.pairBars p b then s
  else if s.ownSrc b then
    (s.count 0x80020 1).postHw 0x0906 (w32 p) (w32 s.address) (w32 (beNat (sliceB b 8 4)))
  else
    let s := s.learn p b
    let cut := s.corrected b && s.cutsThrough p f
    if !s.vlanOk p b then (if cut then s.toCpu p f else s).count (pReg p 0x110) 1
    else if linkLocal b then s.toCpu p f
    else if s.ptpHere p b then
      let s := s.toCpu p f
      if s.tcOn then (s.egressPorts p b).foldl (fun t q => t.forwardTo p f q) s else s
    else
        let l := s.egressPorts p b
        let s := l.foldl (fun t q => t.forwardTo p f q) s
        if isGroup b || s.forMe p b || cut || (s.corrected b && !l.isEmpty) then s.toCpu p f else s

/-- FRAME_RECEIVE (R337 to R339): the checks, the stamp, then the egress ports. -/
def execFrameReceive (port : Byte) (frame : RxFrame) (s : State) : Out :=
  .next (
    let p := port.toNat
    let s := s.reach frame.at_
    if p > 3 ∨ !s.switching then s
    else
      let t := s.ingress p frame
      if s.abortCause p frame = 0 then t.deliver p frame else t)

/-- A frame that goes by cut-through has no other egress and no copy for the CPU port: no FRAME_RECEIVE comes for it, and
CUT_THROUGH counts and learns at its ingress port (DESIGN CHOICE, log 82). -/
def State.onlyCut (s : State) (p : Nat) (b : Bytes) : Bool :=
  !isGroup b && (s.egressPorts p b).isEmpty && !s.ptpHere p b && !s.corrected b

/-- When a cut-through frame's first preamble bit leaves the other port, and its residence in units of 2^-16 ns: 13.6 µs, which
is 3,400 TIMECLK as the local time base counts them (R300); or, held, from the boundary 9.6 µs after the end of the frame in
transmission (R340), its egress stamp less its ingress stamp; boundaries come every half byte, so the end of the gap is one. -/
def State.cutStart (s : State) (p : Nat) (f : RxFrame) : Nat × Int :=
  let arrived := (s.ingress32 p f / 2 ^ 32).toNat - 8 * 800
  let free := kget 0 s.port.busy (1 - p)
  if free ≤ arrived + 13600 then (arrived + 13600, (3400 * s.inc : Nat) / 65536)
  else (free, (s.egress32 (1 - p) free - s.ingress32 p f) / 65536)

/-- A cut-through frame is held behind a frame in transmission (R340). -/
def State.cutHeld (s : State) (p : Nat) (f : RxFrame) : Bool :=
  decide (kget 0 s.port.busy (1 - p) > (s.ingress32 p f / 2 ^ 32).toNat - 8 * 800 + 13600)

/-- CUT_THROUGH (R337, R340, R341): the frame begins to arrive; it leaves the other T1L port 13.6 µs later, waits for a frame
in transmission, or is aborted, ended with an inverted FCS. Until it has left, no queued frame starts there. -/
def execCutThrough (port : Byte) (frame : RxFrame) (s : State) : Out :=
  .next (
    let p := port.toNat
    let s := s.reach frame.at_
    if !s.cutsThrough p frame then s
    else
      let q := 1 - p
      let b := frame.bytes
      let cause := s.abortCause p frame
      let (start, stay) := s.cutStart p frame
      let held := s.cutHeld p frame
      let s :=
        if s.onlyCut p b then
          let t := s.ingress p frame
          if cause = 0 then t.learn p b else t
        else s
      if !s.linkUp q then s.count (pReg q 0x124) 1
      else
        let s := if held then s.count (pReg q 0x11C) 1 else s
        if cause = 0 && s.tooLong q b then s.count (pReg q 0x124) 1
        else
          match s.protect q with
          | none => s.count (pReg q 0x128) 1
          | some (s, sa) =>
            let b := if s.corrected b then addCorrection b (stay + s.tcLink p b) else b
            if cause = 0 then s.sent q sa b start
            else
              let s := ((s.sentBad q sa b).occupy q (start + (20 + frame.wire) * s.byteNs q)).count (pReg p 0x120) 1
              s.postHw 0x0907 (w32 p) (w32 cause) (s.rd (pReg p 0x120)))

/-! ### Links, ages, UARTs -/

/-- A port can come up at a SPEED (R335, R336): a T1L port at the amplitude that it is forced to, or at one that
auto-negotiation finds; an SGMII port at the PHY's 10, 100 or 1,000 Mbit/s, in 1000BASE-X mode at 1,000. -/
def State.speedOk (s : State) (p speed : Nat) : Bool :=
  if p < 2 then
    (if (s.portCfg p).mode = 0 then speed == 1 || speed == 2 else speed == (s.portCfg p).mode)
  else if (s.portCfg p).mode = 0 then decide (3 ≤ speed ∧ speed ≤ 5) else speed == 5

/-- LINK_UP (R335, R336); a sub-block that is being switched has no link (R470). -/
def execLinkUp (port : Byte) (speed : Byte) (s : State) : Out :=
  .next (
    let p := port.toNat
    if p > 3 ∨ !s.subOn (0x10 + p) ∨ s.bit aDomBusy (0x10 + p) ∨ !s.speedOk p speed.toNat then s
    else
      let s := ((s.setBit (pReg p 0x104) 0 true).setFld (pReg p 0x104) 3 1 speed.toNat).setBit (pReg p 0x104) 5 true
      let s := s.postHw 0x0901 (w32 p) (w32 speed.toNat) 0
      if p = 3 then s.pairLinkUp else s)

/-- LINK_DOWN. -/
def execLinkDown (port : Byte) (s : State) : Out :=
  .next (
    let p := port.toNat
    if p ≤ 3 ∧ s.linkUp p then
      let s := s.dropLink p
      if p = 3 then s.pairLinkDown else s
    else s)

/-- ADDRESS_TABLE_AGE_OUT (R339): an entry goes after 300 s without a frame. -/
def execAddressTableAgeOut (at_ : Nat) (s : State) : Out :=
  .next (
    let s := s.reach at_
    { s with port := { s.port with addr := s.port.addr.filter fun e => decide (s.now < e.seen + 300000000000) } })

/-- The masters of the *UART* fields: CYC0 to CYC3 and FIRN. -/
def uartWriter (m : Master) : Bool := (0x003D : BitVec 16).getLsbD (masterId m)

/-- UART_GO (R361): a transaction through PORT_Uk registers. -/
def execUartGo (master : Master) (uart : Byte) (s : State) : Out :=
  .next (
    let k := uart.toNat
    if k ≥ 4 then s else
    s.atReg master (0x80600 + 0x20 * k) fun s => if uartWriter master then
      let l := s.rd (0x80608 + 0x20 * k)
      s.uartBegin k ⟨none, (s.rd (0x80604 + 0x20 * k)).toNat, fldOf l 15 0, fldOf l 31 16, 0, 0⟩
    else s)

/-- The next transaction of a UART takes its turn, or the UART is free. -/
def State.uartNext (s : State) (k : Nat) : State :=
  match kget [] s.port.uwait k with
  | t :: r => { s with port := { s.port with
    utx := kset s.port.utx k { t with since := s.now }
    uwait := kset s.port.uwait k r } }
  | [] => ({ s with port := { s.port with utx := kdel s.port.utx k } } : State).setBit (0x80600 + 0x20 * k) 1 false

/-- A response keeps to the framing of the EN 13757-2 link layer (R360): the single character 0xE5, a short frame, or a long or
control frame with its length twice, its checksum and its stop byte. -/
def mbusOk (d : Bytes) : Bool :=
  let n := (d.getD 1 0).toNat
  let framed := fun (from_ len : Nat) =>
    d.getD (from_ + len) 0 == (sliceB d from_ len).foldl (· + ·) 0 && d.getD (from_ + len + 1) 0 == 0x16 &&
    decide (d.length = from_ + len + 2)
  match d with
  | [b] => b == 0xE5
  | 0x10 :: _ => framed 1 2
  | 0x68 :: _ => decide (3 ≤ n) && d.getD 2 0 == d.getD 1 0 && d.getD 3 0 == 0x68 && framed 4 n
  | _ => false

/-- UART_RESPONSE (R361): the running transaction ends with a response, a timeout (1) or a bad frame (2); `stamp` is the
time of the first start bit, which a launch time bounds. In M-Bus mode a response that breaks the framing is a bad frame. -/
def execUartResponse (uart : Byte) (result : Byte) (data : Bytes) (stamp : Nat) (s : State) : Out :=
  .next (
    let k := uart.toNat
    match kfind s.port.utx k with
    | none => s
    | some t =>
      if stamp < t.launch then s else
      let result := if result = 0 && !(s.uartCfg k).generic && !mbusOk data then 2 else result
      let d := data.take t.room
      -- The response to a command that a Firn restart has ended is discarded (R67, R69).
      let kept := t.command.all fun id => s.mb.outstanding.any fun o => o.id == id
      let s := if result = 0 && kept then s.dmaWrite t.req d else s
      let s := match t.command with
        | some id =>
          if result = 0 then s.finishId id eOk (w32 stamp) (w32 (stamp / 2 ^ 32)) (w32 d.length)
          else s.finishId id (if result = 1 then 0x0102 else 0x0103) 0 0 0
        | none =>
          let c := 0x80600 + 0x20 * k
          let s := (s.setBit c 2 true).setFld c 5 4 result.toNat
          s.wr (0x8060C + 0x20 * k) (w32 (if result = 0 then d.length else 0))
      s.uartNext k)

end Sys2Proof.Machine
end

