-- ==== Sys2Proof/Machine/Pair.lean ====
section
/-! DEFINITION. The PAIR class commands, and what the pair unit, its link, its lines and the feeds do (12). -/

namespace Sys2Proof.Machine

/-- The pair configuration that a PAIR_CONFIG buffer holds (12). -/
def pairCfgOf (b : Bytes) : PairCfg :=
  let f := b.getD 7 0
  { mode := leAt b 2 1, unitId := b.getD 3 0, partner := BitVec.ofNat 16 (leAt b 4 2), primary := b.getD 6 0 == 1,
    autoResync := f.getLsbD 0, takeUnsynced := f.getLsbD 1, macsec := f.getLsbD 3, baseX := f.getLsbD 4,
    epochMin := leAt b 8 4, swapH := leAt b 12 2, frzTake := leAt b 14 2, startWait := leAt b 16 4 }

/-- The fields of a PAIR_CONFIG buffer lie in their ranges. -/
def pairCfgOk (b : Bytes) : Bool :=
  let c := pairCfgOf b
  decide (b.length ≥ 24) && decide (c.mode ≤ 2) && c.unitId != 0 && decide (1 ≤ c.partner.toNat ∧ c.partner.toNat ≤ 16382) &&
  decide ((b.getD 6 0).toNat ≤ 1) && decide ((b.getD 7 0).toNat < 32) && decide (c.epochMin < 2 ^ 24) &&
  decide (c.swapH ≤ 8760) && (c.frzTake == 0 || decide (10 ≤ c.frzTake ∧ c.frzTake ≤ 1000)) &&
  decide (100 ≤ c.startWait ∧ c.startWait ≤ 60000) && leAt b 20 4 == 0

/-- A new pair configuration in force (R363): a change of MODE, UNIT_ID, PARTNER_ADDR or PRIMARY waits for the next
reset. -/
def PairCfg.inForce (old c : PairCfg) : PairCfg :=
  { c with mode := old.mode, unitId := old.unitId, partner := old.partner, primary := old.primary }

/-- The pair link's mode and MACsec requirement follow the pair configuration (R363). -/
def State.setPairLink (s : State) : State :=
  let c := s.portCfg 3
  let n := { c with required := s.pair.cfg.macsec, mode := b2n s.pair.cfg.baseX }
  if s.paired && n != c then s.setPortCfg 3 n else s

/-- PAIR_CONFIG (R387, R363, R367). -/
def execPairConfig (i : Issue) (buf : Buf) (s : State) : Out :=
  .next (s.hostCmd { op := 0x0A01, plen := 8 } i fun s =>
    s.checked i [(!s.bufOk i.host false buf, eAccess), (leAt (s.rdBuf buf) 0 2 != 1, eVersion),
                 (!pairCfgOk (s.rdBuf buf), eParam), (s.pairState == 5 || s.pairState == 6, eState)] fun s =>
      let b := s.rdBuf buf
      let c := pairCfgOf b
      let s := s.setConf fun r => { r with pair := c }
      let s := ({ s with pair := { s.pair with cfg := PairCfg.inForce s.pair.cfg c } } : State).setPairLink
      let s := if (b.getD 7 0).getLsbD 2 then
          (s.wrAll ((List.range 16).map fun g => (0x90040 + 4 * g, 0))).postFirn 0x0A0A 0 0 0
        else s
      s.done i eOk)

/-- PAIR_STATUS (R387). -/
def execPairStatus (i : Issue) (s : State) : Out :=
  .next (s.hostCmd { op := 0x0A02, plen := 0 } i fun s =>
    s.complete i eOk (s.rd aPairState) (s.rd aClaim) (s.rd aPClaim))

/-- The bytes of the regions of a range of numbers. -/
def State.regionTotal (s : State) (lo n : Nat) : Nat := ((List.range n).map fun k => (s.region (lo + k)).2).sum

/-- A region's bounds hold, and it overlaps no other region (R377). -/
def State.regionOk (s : State) (k base len : Nat) : Bool :=
  decide (k < 80) && base % 64 == 0 && len % 64 == 0 && decide (base + len ≤ 0x02000000) &&
  (len == 0 || (List.range 80).all fun j =>
    let r := s.region j
    j == k || r.2 == 0 || decide (base + len ≤ r.1 ∨ r.1 + r.2 ≤ base))

/-- Set a region (R377): lines outside every mirror region need no mirroring, and every line of an added one counts as
dirty; the active sends its table. -/
def State.setRegion (s : State) (k base len : Nat) : State :=
  let s := (s.wr (0x90100 + 8 * k) (w32 base)).wr (0x90104 + 8 * k) (w32 len)
  let d := s.pair.dirty.filter fun l => s.mirrored (l * 64)
  let s := { s with pair := { s.pair with dirty := if k < 64 then (linesOf base len).foldl insNat d else d } }
  if s.pairState == 2 then s.pairSend [s.toPartner 0x47 s.tableBody] else s

/-- PAIR_MIRROR_SET (R377). -/
def execPairMirrorSet (i : Issue) (region : Byte) (base : W32) (length : W32) (s : State) : Out :=
  .next (s.hostCmd { op := 0x0A03, plen := 9 } i fun s =>
    let k := region.toNat
    let b := base.toNat
    let l := length.toNat
    let t := (s.wr (0x90100 + 8 * k) base).wr (0x90104 + 8 * k) length
    s.checked i [(!s.regionOk k b l, eParam), (s.pairState == 3 || s.pairState == 4 || s.pairState == 5, eState),
                 (decide (t.regionTotal 0 64 > 0x800000 ∨ t.regionTotal 64 16 > 0x400000), eNospace)] fun s =>
      (s.setRegion k b l).done i eOk)

/-- PAIR_SWAP (R382, R383, R387, R77). -/
def execPairSwap (i : Issue) (s : State) : Out :=
  .next (s.hostCmd { op := 0x0A04, plen := 0, frozenNo := true, async := true } i fun s =>
    s.checked i [(s.standby, eClaim), (s.pairState != 2, eState), (!s.pairLink, 0x0101), (!s.swapOk, eState)] fun s =>
      let id := s.mb.serial
      (s.startAsync (.pairSwap i) i).startSwap (some id))

/-- PAIR_RESYNC (R384, R387). -/
def execPairResync (i : Issue) (s : State) : Out :=
  .next (s.hostCmd { op := 0x0A05, plen := 0, async := true } i fun s =>
    s.checked i [(s.pairState != 4, eState), (!s.pairLink, 0x0101)] fun s =>
      (s.startAsync (.pairResync i) i).requestResync)

/-! ### Heartbeats -/

/-- HEARTBEAT_LAUNCH (R373). -/
def execHeartbeatLaunch (at_ : Nat) (s : State) : Out :=
  .next (let s := s.reach at_
         if at_ % 1000000 = 0 then s.sendHeartbeat at_ false else s)

/-- A heartbeat is valid (R373): destination and SYSID have been checked. -/
def State.hbValid (s : State) (h : FrameHeader) (b : HeartbeatBody) : Bool :=
  s.paired && h.src.toNat == s.partner && (!s.pair.cfg.macsec || h.sec) && s.pair.rxSeq != some b.hbseq

/-- A standby adopts a partner's epoch above its own (R366). -/
def State.adoptEpoch (s : State) : State :=
  if s.pair.pEpoch > (s.rd aEpoch).toNat then s.setEpoch s.pair.pEpoch else s

/-- What a valid heartbeat says is taken down (R373, R374): the partner's claim, state and epoch, and the misses end. A
unit that is neither ACTIVE nor HANDING adopts a higher epoch (R366); one in HANDING still compares its old claim (R383). -/
def State.hbNote (s : State) (h : FrameHeader) (b : HeartbeatBody) : State :=
  let frozen := b.flags.getLsbD 0
  let p := s.pair
  let s := { s with pair := { p with
    rxSeq := some b.hbseq, seen := true, pState := b.state.toNat, pFlags := b.flags, pEpoch := b.epoch.toNat % 2 ^ 24,
    frozenRun := if frozen && b.state == 2 then p.frozenRun + 1 else 0, loss := false } }
  let s := (s.wr aPClaim h.claim).setFld aHbMiss 2 0 0
  let s := ((s.setBit aPairState 9 false).setBit aPairState 10 false).setBit aPairState 11 frozen
  if s.pairState == 2 || s.pairState == 6 then s else s.adoptEpoch

/-- FRZ_TAKE consecutive heartbeats of a frozen active let a standby take over (R375). -/
def State.frzTakeover (s : State) : State :=
  let n := s.pair.cfg.frzTake
  if n != 0 && decide (s.pair.frozenRun ≥ n) && s.ilIn && !s.frozen && s.pair.alive then s.becomeActive else s

/-- What a valid heartbeat changes, by the unit's state (R371, R372, R374, R375, R380, R383). -/
def State.hbAct (s : State) (h : FrameHeader) (b : HeartbeatBody) : State :=
  let act := b.state == 2
  let higher := decide (h.claim.toNat > (s.rd aClaim).toNat)
  let pfail := b.flags.getLsbD 7
  match s.pairState with
  | 1 =>
    if act || s.ilIn then s.enterUnsynced
    else if fldOf h.claim 7 0 = s.pair.cfg.unitId.toNat then s.setPairState 8
    else s
  | 2 => if act && higher then s.demote h.claim 1 else s
  | 3 =>
    if pfail then s.lossBegins
    else if act && !b.flags.getLsbD 1 then s.enterUnsynced
    else s.frzTakeover
  | 6 => if act && higher then (s.swapDone h.claim).adoptEpoch else s
  | _ => if pfail then s.lossBegins else s

/-- HEARTBEAT (R373). -/
def execHeartbeat (header : FrameHeader) (body : HeartbeatBody) (s : State) : Out :=
  .next (s.received header 0x40 false fun s =>
    if s.hbValid header body then (s.hbNote header body).hbAct header body else s)

/-- HEARTBEAT_CHECK (R374): at half a millisecond past each whole one a check that finds no heartbeat counts; at the fifth in a
row the loss condition begins. -/
def execHeartbeatCheck (at_ : Nat) (s : State) : Out :=
  .next (
    let s := s.reach at_
    if !s.paired || at_ % 1000000 ≠ 500000 then s
    else if s.pair.seen then { s with pair := { s.pair with seen := false } }
    else
      let n := min 7 (s.fld aHbMiss 2 0 + 1)
      let s := (s.setFld aHbMiss 2 0 n).setFld aHbMiss 31 16 (min 0xFFFF (s.fld aHbMiss 31 16 + 1))
      s.missed n)

/-! ### Lines and waits -/

/-- PAIR_IL_CHANGE (R370, R371, R374, R383). -/
def execPairIlChange (level : Bool) (s : State) : Out :=
  .next (
    let s := if level = s.ilIn then s else { s.setBit aIl 1 level with pair := { s.pair with ilSince := s.now } }
    if level then (if s.pairState == 1 then s.enterUnsynced else s)
    else (s.takeOver true).tryAccept)

/-- The time base reaches the end of a wait of `ns` that began at `since`. -/
def State.reachAfter (s : State) (since : Int) (ns : Nat) : State := s.reach (since + (ns : Int)).toNat

/-- START_WAIT_EXPIRY (R371): `elapsed` ms since reset. -/
def execStartWaitExpiry (elapsed : Nat) (s : State) : Out :=
  .next (
    let w := s.pair.cfg.startWait * (if s.pair.cfg.primary then 1 else 2)
    if s.pairState == 1 && !s.ilIn && decide (elapsed ≥ w) then
      (s.reachAfter s.pair.resetAt (elapsed * 1000000)).becomeActive
    else s)

/-- IL_FAULT (R372): the link is down and both lines are high for 10 ms. -/
def execIlFault (s : State) : Out :=
  .next (if s.bit aIl 0 && s.ilIn && !s.pairLink then
    (s.reachAfter (max s.pair.ilSince (max s.pair.activeSince s.pair.linkSince)) 10000000).setBit aPairState 12 true else s)

/-- ALIVE (R364). -/
def State.refreshAlive (s : State) : State :=
  ({ s with pair := { s.pair with alive := true, aliveAt := s.now } } : State).autoResync

/-- ALIVE (R364): a write by a master other than Firn is discarded. -/
def execAlive (master : Master) (s : State) : Out :=
  .next (s.atReg master aPairCtrl fun s => if master = .firn then s.refreshAlive else s)

/-- The pair unit treats its own unit as failed (R364, R385). CLASH and TEST, which R385 lets only a reset end, stay (DEDUCED, log 60). -/
def State.ownFailed (s : State) : State :=
  let t := { s with pair := { s.pair with alive := false } }
  if s.paired && decide (s.pairState < 7) then t.enterUnsynced else t

/-- ALIVE_EXPIRY (R364): 250 ms after ALIVE was set. -/
def execAliveExpiry (s : State) : Out :=
  .next (if s.pair.alive then (s.reachAfter s.pair.aliveAt 250000000).ownFailed else s)

/-- DEMOTED (R372): PAIR_IL_IN has been valid high for 1 ms while the last heartbeat heard carries a higher claim. -/
def execDemoted (s : State) : Out :=
  .next (if s.pairState == 2 && s.ilIn && decide ((s.rd aPClaim).toNat > (s.rd aClaim).toNat) then
    (s.reachAfter s.pair.ilSince 1000000).demote (s.rd aPClaim) 2 else s)

/-! ### Mirroring -/

/-- A mirror point of time (R378): a period start T_k or, with no period set, a whole 10 s. -/
def State.mirrorInstant (s : State) (t : Nat) : Bool :=
  if s.drift.sched.isSome then (s.periodAt t).any fun k => t == s.periodStart k else t % 10000000000 == 0

/-- MIRROR_POINT (R378, R380): a period start, from which the region bytes count anew. -/
def execMirrorPoint (at_ : Nat) (s : State) : Out :=
  .next (let s := s.reach at_
         if s.mirrorInstant at_ then (s.wr aMbytes 0).mirrorPoint else s)

/-- MIRROR_POINT_REQUEST (R378): PAIR_MPT.GO is open to SEQ and Firn. -/
def execMirrorPointRequest (master : Master) (s : State) : Out :=
  .next (s.atReg master 0x90034 fun s => if master = .seq ∨ master = .firn then s.mirrorPoint else s)

/-- A frame of the mirror comes from the partner. -/
def State.fromPartner (s : State) (h : FrameHeader) : Bool := h.src.toNat == s.partner

/-- MIRROR_DATA (R381): a standby, or a unit in RESYNC, stages the lines of the point. -/
def execMirrorData (header : FrameHeader) (body : MirrorDataBody) (s : State) : Out :=
  .next (s.received header 0x41 false fun s =>
    if s.fromPartner header && (s.pairState == 3 || s.pairState == 5) then
      let l := match s.pair.staged with
        | some (m, _, l) => if m = body.mseq then l ++ body.lines else body.lines
        | none => body.lines
      { s with pair := { s.pair with staged := some (body.mseq, body.flags, l) } }
    else s)

/-- A line of an applied point reaches its offset; one of the retentive area becomes dirty for its task (R381). Drift
lines, whose offsets lie behind shared SRAM, are kept for a takeover (R178; DESIGN CHOICE, log 65). -/
def State.applyLine (s : State) (a : Nat) (b : Bytes) : State :=
  if a + 64 ≤ 0x02000000 then
    let s := s.wrMem a b
    if 0xC00000 ≤ a ∧ a < 0x1000000 then { s with cyc := { s.cyc with dirty := insNat s.cyc.dirty (a / 64) } } else s
  else
    let h := s.drift.hd
    { s with drift := { s.drift with hd := { h with lines := kput [] h.lines (a / 64) b, linesAt := some s.now } } }

/-- The lines of an applied point reach their places, in order. -/
def State.applyLines (s : State) (l : List (W32 × Bytes)) : State := l.foldl (fun t p => t.applyLine p.1.toNat p.2) s

/-- A resync is complete once the point that RESYNC_END names and the next normal point have been applied (R384): the points behind
the last resync point are normal ones. -/
def State.resyncCheck (s : State) : State :=
  match s.pair.rsEnd with
  | some m =>
    let past := (s.rd aMseq - m).toNat
    if s.pairState == 5 && !s.pair.rsFirst && past != 0 && decide (past < 2 ^ 31) then
      let s := { s with pair := { s.pair with rsEnd := none } }
      (s.enterStandby).finishAll isPairResync eOk 0 0 0
    else s
  | none => s

/-- MIRROR_END (R381): a point whose MSEQ follows and whose lines are all there is applied; else MIRROR_GAP. The first
point of a resync follows whatever came before. -/
def execMirrorEnd (header : FrameHeader) (body : MirrorEndBody) (s : State) : Out :=
  .next (s.received header 0x42 false fun s =>
    if !s.fromPartner header || !(s.pairState == 3 || s.pairState == 5) then s
    else
      let lines := match s.pair.staged with
        | some (m, _, l) => if m = body.mseq then l else []
        | none => []
      let expect := s.rd aMseq + 1
      let resync := body.flags.getLsbD 1
      if s.pair.rsFirst && !resync then s
      else if (body.mseq == expect || s.pair.rsFirst) && lines.length == body.lines.toNat then
        let s := s.applyLines lines
        let s := { s with pair := { s.pair with staged := none, rsFirst := false } }
        ((s.wr aMseq body.mseq).resyncCheck).tryAccept
      else (s.postHw 0x0A06 expect body.mseq body.lines).enterUnsynced)

/-- MIRROR_TABLE (R377, R385): the regions of the active; a STANDBY unit loses sync. -/
def execMirrorTable (header : FrameHeader) (table : Regions) (s : State) : Out :=
  .next (s.received header 0x47 false fun s =>
    let st := s.pairState
    if !s.fromPartner header || !(st == 3 || st == 4 || st == 5) then s
    else
      let s := ((List.range 80).zip table.entries).foldl (fun t p =>
        (t.wr (0x90100 + 8 * p.1) p.2.1).wr (0x90104 + 8 * p.1) p.2.2) s
      if st == 3 then s.enterUnsynced else s)

/-! ### Swap and resynchronisation -/

/-- A swap instant (R382): in a HEAD with drift rounds running t_c + ⌊H/2⌋, otherwise a whole second. -/
def State.swapInstant (s : State) (t : Nat) : Bool :=
  if s.isHead && s.drift.hd.started.isSome then (s.periodAt t).any fun k => t == s.commitAt k + s.halfStep / 2
  else t % 1000000000 == 0

/-- SWAP_DUE (R382): at a swap instant after SWAP_H hours the swap is taken, or deferred with a record for each hour. The
value that names the failed condition is free (DESIGN CHOICE, log 4). -/
def execSwapDue (at_ : Nat) (s : State) : Out :=
  .next (
    let s := s.reach at_
    let h := s.pair.cfg.swapH
    let past := (s.now : Int) - (s.pair.activeSince + (h * 3600000000000 : Nat))
    if s.pairState != 2 || h == 0 || !s.swapInstant at_ || decide (past < 0) then s
    else if s.swapOk then s.startSwap none
    else
      let hours := past.toNat / 3600000000000
      if hours > s.pair.deferred then
        let c := lo32 s.drawn
        let s := { s.draw with pair := { s.pair with deferred := hours } }
        s.postHw 0x0A08 c (w32 hours) 0
      else s)

/-- SWAP_OFFER (R383). -/
def execSwapOffer (header : FrameHeader) (mseq : W32) (claim : W32) (s : State) : Out :=
  .next (s.received header 0x43 false fun s =>
    if s.fromPartner header && s.pairState == 3 then
      ({ s with pair := { s.pair with offer := some mseq, oldClaim := claim } } : State).tryAccept
    else s)

/-- SWAP_ACCEPT (R383). -/
def execSwapAccept (header : FrameHeader) (claim : W32) (s : State) : Out :=
  .next (s.received header 0x44 false fun s =>
    if s.fromPartner header && s.pairState == 6 && decide (claim.toNat > (s.rd aClaim).toNat) then
      (s.wr aPClaim claim).swapDone claim
    else s)

/-- SWAP_TIMEOUT (R383 step 4): 50 ms after the offer. A PAIR_SWAP whose unit has left HANDING otherwise (R364) is abandoned
too (DEDUCED, log 60). -/
def execSwapTimeout (s : State) : Out :=
  .next (
    let back := s.pairState == 6 && s.pair.pState == 3 && !s.ilIn
    let id := s.pair.swapCmd
    if back || (s.pairState != 6 && id.isSome) then
      let s := s.reachAfter s.pair.swapAt 50000000
      let s := { s with pair := { s.pair with swapCmd := none } }
      let s := if back then s.enterActive else s
      match id with
      | some i => s.finishId i 0x0102 0 0 0
      | none => s
    else s)

/-- RESYNC_REQ (R384): the active sends the full mirror. -/
def execResyncReq (header : FrameHeader) (_epoch : W32) (s : State) : Out :=
  .next (s.received header 0x45 false fun s =>
    if s.fromPartner header && s.pairState == 2 then s.sendResync else s)

/-- RESYNC_END (R384). -/
def execResyncEnd (header : FrameHeader) (mseq : W32) (s : State) : Out :=
  .next (s.received header 0x46 false fun s =>
    if s.fromPartner header && s.pairState == 5 then
      (({ s with pair := { s.pair with rsEnd := some mseq } } : State).resyncCheck)
    else s)

/-- RESYNC_TIMEOUT (R384): two district periods after the request. -/
def execResyncTimeout (s : State) : Out :=
  .next (
    if s.pairState == 5 || !(s.waiters isPairResync).isEmpty then
      let s := s.reachAfter s.pair.resyncAt (2 * s.districtNs)
      let s := s.finishAll isPairResync eTimeout 0 0 0
      if s.pairState == 5 then s.enterUnsynced else s
    else s)

/-! ### Power feeds (R386) -/

/-- The selector and the warning follow the feeds. -/
def State.settleFeeds (s : State) : State :=
  (s.setBit aFeed 2 (!s.bit aFeed 0)).setBit aFeed 3 (!s.bit aFeed 0 && !s.bit aFeed 1)

/-- FEED_LOST (R386): feed 0 A, 1 B. -/
def execFeedLost (feed : Byte) (s : State) : Out :=
  .next (
    let f := feed.toNat
    if f > 1 ∨ !s.bit aFeed f then s
    else
      let s := (((s.setBit aFeed f false).setBit aFeed (4 + f) true).settleFeeds).event 13
      s.postHw 0x0A0B (w32 f) (s.rd aFeed) 0)

/-- FEED_OK (R386). -/
def execFeedOk (feed : Byte) (s : State) : Out :=
  .next (if feed.toNat ≤ 1 then
    { (s.setBit aFeed feed.toNat true).settleFeeds with pwr := { s.pwr with pfw := false } } else s)

end Sys2Proof.Machine
end

