-- ==== Sys2Proof/Machine/SolvOps.lean ====
section
/-! DEFINITION. The solver array: the lane map, batches, dispatch and the ends of problems (03). -/

namespace Sys2Proof.Machine

/-! ### Lanes (R81 to R86) -/

/-- SOLV_LANEk. -/
def laneReg (k : Nat) : Nat := 0x20100 + 4 * k
/-- The domain of physical lane `k`: 12 or 13. -/
def laneDom (k : Nat) : Nat := if k < 17 then 12 else 13
/-- Lane `k`'s domain is on. -/
def State.lanePowered (s : State) (k : Nat) : Bool := s.domOn (laneDom k)
/-- Lane `k`'s domain is being switched off, and takes no more problems (R86). -/
def State.laneDraining (s : State) (k : Nat) : Bool := s.bit 0xE000C (laneDom k)
/-- Lane `k` carries a logical lane. -/
def State.laneInService (s : State) (k : Nat) : Bool := s.fld (laneReg k) 9 8 == 1
/-- The logical lane that lane `k` carries; 0xFF none. -/
def State.laneLogical (s : State) (k : Nat) : Nat := s.fld (laneReg k) 7 0
/-- The physical lane of a logical lane in service. -/
def State.physOf (s : State) (lg : Nat) : Option Nat :=
  (List.range 34).find? fun k => s.laneInService k && s.laneLogical k == lg
/-- The spares of R81: powered, healthy and mapped to no logical lane. -/
def State.spares (s : State) : List Nat :=
  (List.range 34).filter fun k => s.lanePowered k && !s.laneRetired k && !s.laneInService k

/-- SOLV_LANEk shows what lane `k` is: retired, powered off, or spare; it carries no logical lane. -/
def State.idleLane (s : State) (k : Nat) : State :=
  let st := if s.laneRetired k then 2 else if s.lanePowered k then 0 else 3
  (s.setFld (laneReg k) 9 8 st).setFld (laneReg k) 7 0 0xFF

/-- Every lane that carries no logical lane shows what it is. -/
def State.showLanes (s : State) : State :=
  (List.range 34).foldl (fun t k => if t.laneInService k then t else t.idleLane k) s

/-- Each logical lane out of service, in ascending order, takes the lowest spare (R81). -/
def State.remap (s : State) : State :=
  (List.range 32).foldl (fun t lg =>
    if (t.physOf lg).isSome then t
    else match t.spares with
      | k :: _ => ((t.setFld (laneReg k) 9 8 1).setFld (laneReg k) 7 0 lg).setBit 0x20004 lg true
      | [] => t) s

/-- Lane `k` gives up its logical lane. -/
def State.unmap (s : State) (k : Nat) : State :=
  let lg := s.laneLogical k
  (s.setBit 0x20004 lg false).idleLane k

/-- A physical lane's corrected SRAM errors are counted, saturating at 255 (R83). -/
def State.countCorrected (s : State) (k n : Nat) : State := s.setFld (laneReg k) 31 24 (min 255 (s.fld (laneReg k) 31 24 + n))

/-- The corrected errors of several lanes are counted. -/
def State.countLanes (s : State) (l : List (Nat × Nat)) : State :=
  l.foldl (fun t q => if q.1 < 34 then t.countCorrected q.1 q.2 else t) s

/-- Physical lane `k` is marked retired (R83). -/
def State.markRetired (s : State) (k : Nat) : State :=
  if k < 32 then s.setBit 0x2000C k true else s.setBit 0x20010 (k - 32) true

/-- Lane `k` is retired (R83 to R85): its logical lane moves to a spare, or leaves service. `cause`: 1 uncorrectable ECC,
2 self-test, 3 SOLV_LANE_RETIRE. -/
def State.retireLane (s : State) (k cause : Nat) : State :=
  if s.laneInService k then
    let lg := s.laneLogical k
    let s := ((s.markRetired k).unmap k).remap
    if (s.physOf lg).isSome then s.postFirn 0x0202 (w32 k) (w32 lg) (w32 cause)
    else (s.postFirn 0x0202 (w32 k) 0xFF (w32 cause)).postFirn 0x0203 (w32 lg) (w32 k) 0
  else ((s.markRetired k).idleLane k).postFirn 0x0202 (w32 k) 0xFF (w32 cause)

/-- The lanes of a domain that is on and fail their self-test are retired (R82); a retired lane does not take it. -/
def State.failLanes (s : State) (dom : Nat) (failing : List Nat) : State :=
  (List.range 34).foldl (fun t k =>
    if laneDom k == dom && failing.contains k && !t.laneRetired k then t.retireLane k 2 else t) s

/-- The self-test of the lanes of a domain (R82); then the map is filled (R81). -/
def State.testLanes (s : State) (dom : Nat) (failing : List Nat) : State := (s.failLanes dom failing).showLanes.remap

/-! ### Batches (R111 to R123) -/

/-- Batches count in SOLV_QUEUED. -/
def State.showQueued (s : State) : State := s.setFld 0x20028 6 0 s.solv.batches.length

/-- The batch of an identifier, running or among those completed last. -/
def State.batch (s : State) (id : Nat) : Option Batch :=
  match s.solv.batches.find? fun b => b.id == id with
  | some b => some b
  | none => s.solv.finished.find? fun b => b.id == id

/-- Change a queued or running batch. -/
def State.setBatch (s : State) (id : Nat) (f : Batch → Batch) : State :=
  { s with solv := { s.solv with batches := s.solv.batches.map fun b => if b.id = id then f b else b } }

/-- Batch identifier `id` is still queued or running. -/
def State.batchLive (s : State) (id : Nat) : Bool := s.solv.batches.any fun b => b.id == id

/-- W2 of SOLV_BATCH_STATUS: the state and the refused count (R123). -/
def State.batchWord (s : State) (b : Batch) : W32 :=
  let st := if s.batchLive b.id then (if b.started then 1 else 0) else if b.cancelled then 3 else 2
  w32 (st + b.refused * 65536)

/-- A batch whose problems are all done completes (R122, R123): it joins the 64 kept, its event and interrupt are raised
and the waits on it end. -/
def State.completeBatch (s : State) (id : Nat) : State :=
  match s.solv.batches.find? fun b => b.id == id with
  | some b =>
    if b.done < b.offsets.length then s
    else
      let v := s.solv
      let fin := v.finished ++ [b]
      let s := ({ s with solv := { v with
        batches := v.batches.filter fun c => c.id != id
        finished := fin.drop (fin.length - 64)
        broken := v.broken.filter fun x => x.1 != id
        tirqs := if b.tirq then kset v.tirqs (masterId b.master) (kget 0 v.tirqs (masterId b.master) + 1) else v.tirqs } } :
          State).showQueued
      let s := if b.notify then s.event 15 else s
      (s.mb.outstanding.filter fun o => o.ref == id && match o.cmd with | .solvBatchWait _ _ _ => true | _ => false).foldl
        (fun t o => t.finish o eOk (w32 b.done) (w32 b.carried) 0) s
  | none => s

/-- One problem of a batch is done (R122). -/
def State.countDone (s : State) (id : Nat) (carried nosol refused : Bool) : State :=
  let s := s.setBatch id fun b => { b with done := b.done + 1, carried := b.carried + b2n carried,
                                           refused := b.refused + b2n refused }
  let s := s.count 0x20030 1
  let s := if carried then s.count 0x20034 1 else s
  let s := if nosol then s.count 0x20038 1 else s
  s.completeBatch id

/-- Insert an index into a list ascending by DEADLINE, behind equals (R111, ORDER 1). -/
def insDeadline (dl : Nat → Nat) (k : Nat) : List Nat → List Nat
  | [] => [k]
  | j :: t => if dl k < dl j then k :: j :: t else j :: insDeadline dl k t

/-- A batch descriptor is checked and the batch queued (R111 to R116): the status, and the batch's identifier on OK.
`len` is the descriptor's length where the submitter gives one. -/
def State.submit (s : State) (m : Master) (desc : Nat) (len : Option Nat) (notify tirq : Bool) : State × Nat × Nat :=
  if len.any (fun n => n < 16) || !s.sramOk m false desc 16 then (s, eAccess, 0)
  else if !(List.range 16).all (fun i => !s.poisoned (desc + i)) then (s, eIntegrity, 0)
  else
    let h := s.rdMem desc 16
    let count := leAt h 0 4
    let mask := leAt h 4 4
    let prio := leAt h 8 1
    let order := leAt h 9 1
    if !decide (1 ≤ count ∧ count ≤ 1024) then (s, eParam, 0)
    else if len.any (fun n => n < 16 + 4 * count) || !s.sramOk m false desc (16 + 4 * count) then (s, eAccess, 0)
    else if !(List.range (4 * count)).all (fun i => !s.poisoned (desc + 16 + i)) then (s, eIntegrity, 0)
    else if prio > 3 ∨ order > 1 ∨ leAt h 10 6 ≠ 0 ∨ (prio = 3 ∧ m ≠ .seq) ∨
        (w32 mask &&& ~~~(s.rd 0x20004)) ≠ 0 then (s, eParam, 0)
    else if s.solv.batches.length ≥ 64 then (s, eNospace, 0)
    else
      let r := s.rdMem (desc + 16) (4 * count)
      let offs := (List.range count).map fun k => leAt r (4 * k) 4
      let dl := fun k => (s.probAt (offs.getD k 0)).deadline
      let idx := List.range count
      let id := s.solv.nextId
      let b : Batch := { id := id, master := m, prio := prio, mask := w32 mask, notify := notify, tirq := tirq, offsets := offs,
                         waiting := if order = 1 then idx.foldl (fun l k => insDeadline dl k l) [] else idx,
                         done := 0, carried := 0, refused := 0, cancelled := false, started := false,
                         order := if order = 1 then idx.foldl (fun l k => insDeadline dl k l) [] else idx }
      let v := s.solv
      ((({ s with solv := { v with batches := v.batches ++ [b], nextId := if id = 0xFFFFFFFF then 1 else id + 1 } } :
        State).showQueued), eOk, id)

/-! ### Queue order and dispatch (R117 to R120) -/

/-- An undispatched problem: its batch, its index, the record's offset, whether it comes from the front, and whether a
lane fault has stopped it. -/
structure Waiting where
  batch : Batch
  index : Nat
  off : Nat
  front : Bool
  faulted : Bool
  deriving DecidableEq, Repr

/-- The batches by PRIO, highest first, then in submission order (R119). -/
def State.byPrio (s : State) : List Batch :=
  [3, 2, 1, 0].flatMap fun p => s.solv.batches.filter fun b => b.prio == p

/-- The undispatched problems in queue order (R107, R119). -/
def State.queueOrder (s : State) : List Waiting :=
  (s.solv.front.filterMap fun f => (s.solv.batches.find? fun b => b.id == f.1).map fun b =>
    ⟨b, f.2.1, b.offsets.getD f.2.1 0, true, f.2.2⟩) ++
  s.byPrio.flatMap fun b => b.waiting.map fun k => ⟨b, k, b.offsets.getD k 0, false, false⟩

/-- The place of a problem in queue order (R119): its PRIO from the highest, its batch's turn, and its turn in the batch. -/
def State.orderKey (s : State) (id index : Nat) : Nat × Nat × Nat :=
  match s.solv.batches.find? fun b => b.id == id with
  | some b => (3 - b.prio, s.solv.batches.idxOf b, b.order.idxOf index)
  | none => (4, 0, 0)

/-- A problem's place lies before another's. -/
def keyBefore (a b : Nat × Nat × Nat) : Bool :=
  decide (a.1 < b.1 ∨ (a.1 = b.1 ∧ (a.2.1 < b.2.1 ∨ (a.2.1 = b.2.1 ∧ a.2.2 < b.2.2))))

/-- A running problem that lies before one in queue order writes the result record at an offset. A problem that is dispatched
again lies ahead of every other, at the front and on its lane (R107). -/
def State.runsBefore (s : State) (w : Waiting) (off : Nat) : Bool :=
  s.solv.runs.any fun q =>
    (probOf q.2.record).resOff == off &&
      (q.2.redisp || (!w.front && keyBefore (s.orderKey q.2.batch q.2.index) (s.orderKey w.batch.id w.index)))

/-- The undispatched problems that wait for no other (R120), given the result records of the undispatched ones before: a
problem waits for the earlier one, running or not, that has its result record, and a problem of WSPOL 3 for the earlier
problem whose result record it starts from. -/
def unblocked (s : State) : List Nat → List Waiting → List Waiting
  | _, [] => []
  | seen, w :: t =>
    let p := s.probAt w.off
    let rest := unblocked s (p.resOff :: seen) t
    let early := fun (o : Nat) => seen.contains o || s.runsBefore w o
    if early p.resOff || (p.wspol == 3 && early p.wsOff) then rest
    else w :: rest

/-- A batch's lane mask admits a logical lane. -/
def admits (b : Batch) (lg : Nat) : Bool := b.mask == 0 || b.mask.getLsbD lg

/-- The logical lanes that may take a problem: in service, and not in a domain that drains. -/
def State.openLanes (s : State) : List Nat :=
  (List.range 32).filter fun lg => match s.physOf lg with | some k => !s.laneDraining k | none => false

/-- The free logical lanes, lowest first. -/
def State.freeLanes (s : State) : List Nat := s.openLanes.filter fun lg => (kfind s.solv.runs lg).isNone

/-- The next problem to dispatch, and its lane: the lowest free lane that some problem may use, and the first such problem
in queue order (R119). -/
def State.nextDispatch (s : State) : Option (Nat × Waiting) :=
  let l := unblocked s [] s.queueOrder
  s.freeLanes.findSome? fun lg => (l.find? fun w => admits w.batch lg).map fun w => (lg, w)

/-- A problem leaves the queue. -/
def State.takeWaiting (s : State) (w : Waiting) : State :=
  let v := s.solv
  let s : State := if w.front then { s with solv := { v with front := v.front.filter fun f => !(f.1 == w.batch.id && f.2.1 == w.index) } }
    else s
  s.setBatch w.batch.id fun b => { b with waiting := b.waiting.filter (fun k => k != w.index), started := true }

/-- R117: the first structure of a problem that its submitter may not use: 1 record, 2 mask, 3 warm-start record, 4 result
record; 0 none. The lengths are those that R90 and R95 give for the header's KIND, N and M, valid or not (DESIGN CHOICE,
log 76). -/
def State.accessFault (s : State) (m : Master) (off : Nat) : Nat :=
  let p := s.probAt off
  if !s.sramOk m false off 64 || !s.sramOk m false off p.recLen then 1
  else if p.maskOff ≠ 0 ∧ !s.sramOk m false p.maskOff p.maskLen then 2
  else if p.wspol = 3 ∧ !s.sramOk m false p.wsOff p.resLen then 3
  else if !s.sramOk m true p.resOff p.resLen then 4
  else 0

/-- A problem is refused (R117, R97): nothing is written for it; it counts as done and refused, and is logged. -/
def State.refuseProblem (s : State) (id index check : Nat) : State :=
  (s.postFirn 0x0201 (w32 id) (w32 index) (w32 check)).countDone id false false true

/-- What a lane reads of a problem. -/
def State.laneIn (s : State) (off : Nat) (pivtol regdelta : Dbl) : LaneIn :=
  let p := s.probAt off
  { off := off, rec_ := s.rdMem off p.recLen, mask := if p.maskOff = 0 then [] else s.rdMem p.maskOff p.maskLen,
    ws := if p.wspol = 3 then s.rdMem p.wsOff p.resLen else [], own := s.rdMem p.resOff p.resLen,
    pivtol := pivtol, regdelta := regdelta }

/-- The submitter of a problem has broken R118. -/
def State.broken (s : State) (id index : Nat) : Bool := s.solv.broken.contains (id, index)

/-- What the array writes at the end of a run, and how it counts (R96, R97, R106, R122). A run that writes bytes 0 to 2 only
leaves FLAGS, and does not count as carried, whatever CARRIED an earlier run has left there (DESIGN CHOICE, log 76). -/
def State.writeEnd (s : State) (id index : Nat) (p : Prob) (off : Nat) (own : Bytes) (r : RunEnd) (redisp : Bool)
    (plane llane tStart tEnd : Nat) : State :=
  if r.status = 0x010A ∧ !p.resOk off then s.refuseProblem id index 5
  else if r.status = 0x010A ∨ r.status = 0x010B then
    (s.wrMem p.resOff (leBytes 2 r.status ++ leBytes 1 r.status)).countDone id false false false
  else
    let b := resultRecord p own r redisp plane llane tStart tEnd id index
    let s := (s.wrMem (p.resOff + 64) (b.drop 64)).wrMem p.resOff (b.take 64)
    let s := s.carryRecord p.resOff p.resLen
    s.countDone id ((b.getD 3 0).getLsbD 1) (leAt b 0 2 == 0x0108) false

/-- R4 and a lost SEQ (R485) stop dispatch. -/
def State.solvStopped (s : State) : Bool := s.persMismatch || s.recovery || s.pwr.lost.getLsbD 7

/-- The time base at an instant of a run, `e` ns after its start on the lane's clock: a step of the time base counts from
when it was taken. -/
def SolvRun.timeAt (r : SolvRun) (e : Nat) : Nat :=
  ((r.tStart : Int) + e + ((r.steps.filter fun q => decide (q.1 ≤ e)).map fun q => q.2).sum).toNat

/-- The ns that `c` SOLVCLK cycles take with spreading (17): 1 ns each, lengthened by `spread` parts per million. -/
def solvNs (spread c : Nat) : Nat := c * (1000000 + spread) / 1000000

/-- The end of a run that a lane works out (R104 to R109). -/
def SolvRun.run (r : SolvRun) (spread : Nat) : RunEnd :=
  let i : LaneIn := { off := r.off, rec_ := r.record, mask := r.mask, ws := r.ws, own := r.own, pivtol := r.pivtol,
                      regdelta := r.regdelta }
  laneRun i (fun c => decide (r.timeAt (solvNs spread c) ≥ (probOf r.record).deadline))
    (fun c => r.unset && !(r.steps.any fun q => decide (q.1 ≤ solvNs spread c)))

/-- The values that a lane computes when its submitter breaks R118 are undefined: free values (DESIGN CHOICE, log 4), among them
the record that a carry-over takes. DL_IGNORED reports the time base. -/
def State.freeRun (s : State) (r : SolvRun) : RunEnd × Bytes × State :=
  let p := probOf r.record
  let v := fun k => Config.freeValue (s.fresh + k)
  let n := p.n + p.yLen
  ({ status := [0, 0x0101, 0x0102, 0x0103, 0x0104, 0x0105, 0x0106, 0x010A, 0x010B].getD ((v 0).toNat % 9) 0, cyc := 0,
     sig := (v 1).toNat % 2 ^ 32, iter := (v 2).toNat % 65536, piv := (v 3).toNat % 65536, prim := v 4, dual := v 5,
     dlIgn := r.unset && p.deadline != noDeadline,
     wsReject := (v 6).getLsbD 0, wsUsed := (v 6).getLsbD 1, wsReason := (v 7).toNat % 256,
     x := (List.range p.n).map fun k => v (8 + k), y := (List.range p.yLen).map fun k => v (8 + p.n + k) },
   (List.range (8 + n)).flatMap fun k => leBytes 8 (v (8 + n + k)).toNat,
   { s with fresh := s.fresh + 16 + 2 * n })

/-- A lane is free of its problem. -/
def State.freeLane (s : State) (lg : Nat) (r : SolvRun) : State :=
  (({ s with solv := { s.solv with runs := kdel s.solv.runs lg } } : State).setBit (laneReg r.phys) 11 false).setBit 0x20008 lg
    false

/-- A problem on a logical lane ends as its run works out (R92 to R106); a header that fails its checks ends as R92 says
whatever was written since (R118). -/
def State.endRun (s : State) (lg : Nat) (r : SolvRun) (spread : Nat) : State :=
  let p := probOf r.record
  if s.broken r.batch r.index && p.headerOk r.off && p.resOk r.off then
    let e := s.freeRun r
    let tEnd := e.2.2.drawn.toNat
    (e.2.2.draw.freeLane lg r).writeEnd r.batch r.index p r.off e.2.1 e.1 r.redisp r.phys lg r.tStart tEnd
  else
    let e := r.run spread
    let tEnd := r.timeAt (solvNs spread e.cyc)
    ((s.reach tEnd).freeLane lg r).writeEnd r.batch r.index p r.off r.own e r.redisp r.phys lg r.tStart tEnd

/-- The WR phase of a run has begun, by the nominal SOLVCLK (R108, R146): a stop waits for its end. -/
def State.inWr (s : State) (r : SolvRun) : Bool :=
  let p := probOf r.record
  let e := r.run 0
  e.status != 0x010A && e.status != 0x010B && decide (r.timeAt (solvNs 0 (e.cyc - (8 + p.n + p.yLen))) ≤ s.now)

/-- A problem that a lane stops is dispatched again, ahead of every undispatched problem but the `behind` that one event has
stopped before it (R107). -/
def State.stopRun (s : State) (lg cause : Nat) (faulted : Bool) (behind : Nat := 0) : State :=
  match kfind s.solv.runs lg with
  | none => s
  | some r =>
    let f := s.solv.front
    let s := { s with solv := { s.solv with front := f.take behind ++ [(r.batch, r.index, faulted || r.faulted)] ++ f.drop behind } }
    (s.freeLane lg r).postFirn 0x0204 (w32 r.batch) (w32 r.index) (w32 cause)

/-- A lane's retirement or loss meets its problem: it ends where WR has begun, and is stopped otherwise (R107, R108). -/
def State.stopLane (s : State) (lg cause : Nat) (behind : Nat := 0) : State :=
  match kfind s.solv.runs lg with
  | none => s
  | some r => if s.inWr r then s.endRun lg r 0 else s.stopRun lg cause false behind

/-- The logical lanes of a domain that goes off leave service; its running problems are dispatched again (R86), that of the
lowest physical lane first (DESIGN CHOICE, log 76). -/
def State.dropLanes (s : State) (dom : Nat) : State :=
  let out := (List.range 34).filter fun k => laneDom k == dom && s.laneInService k
  let lost := out.map fun k => (k, s.laneLogical k)
  let s := lost.foldl (fun t p => if (kfind t.solv.runs p.2).any t.inWr then t.stopLane p.2 2 else t) s
  let held := lost.filter fun p => (kfind s.solv.runs p.2).isSome
  let s := held.zipIdx.foldl (fun t p => t.stopRun p.1.2 2 false p.2) s
  let s := lost.foldl (fun t p => t.unmap p.1) s
  let s := s.remap
  let s := lost.foldl (fun t p => if (t.physOf p.2).isSome then t else t.postFirn 0x0203 (w32 p.2) (w32 p.1) 0) s
  s.showLanes

end Sys2Proof.Machine
end

