-- ==== Sys2Proof/Machine/DriftOps.lean ====
section
/-! DEFINITION. Drift rounds: templates, assembly of the local problem, draws, the network configuration, the price update
and the plan (05). -/

namespace Sys2Proof.Machine

/-- Change the drift state. -/
def State.setSt (s : State) (f : StationSt → StationSt) : State := { s with drift := { s.drift with st := f s.drift.st } }
def State.setHd (s : State) (f : HeadSt → HeadSt) : State := { s with drift := { s.drift with hd := f s.drift.hd } }

/-- A posting that SEQ makes. -/
def State.postSeq (s : State) (code p0 p1 p2 : Nat) : State := s.postAs .seq code (w32 p0) (w32 p1) (w32 p2)

/-! ### Templates (05, Template) -/

/-- Fields of a template. -/
def tBranch (b : Bytes) : Nat := leAt b 2 2
def tChain (b : Bytes) : Nat := leAt b 4 2
def tK (b : Bytes) : Nat := leAt b 6 1
def tProducer (b : Bytes) : Bool := leAt b 7 1 == 0xFF
def tNbind (b : Bytes) : Nat := leAt b 8 2
def tNset (b : Bytes) : Nat := leAt b 10 1
def tTask (b : Bytes) : Nat := leAt b 11 1
def tBase (b : Bytes) : Nat := leAt b 12 4
def tWork (b : Bytes) : Nat := leAt b 16 4
def tRes (b : Bytes) : Nat := leAt b 20 4
/-- G[k][j] and G0[k]. -/
def tG (b : Bytes) (n k j : Nat) : Dbl := w64 (leAt b (32 + 8 * (k * n + j)) 8)
def tG0 (b : Bytes) (n k : Nat) : Dbl := w64 (leAt b (32 + 8 * (tK b * n + k)) 8)
/-- Where the bindings and the setpoint map stand. -/
def tBindOff (b : Bytes) (n : Nat) : Nat := 32 + 8 * (tK b * n) + 8 * tK b
def tSetOff (b : Bytes) (n : Nat) : Nat := tBindOff b n + 8 * tNbind b
def tLen (b : Bytes) (n : Nat) : Nat := tSetOff b n + 2 * tNset b

/-- A binding: block, image, index, offset. -/
def tBind (b : Bytes) (n e : Nat) : Nat × Nat × Nat × Nat :=
  let o := tBindOff b n + 8 * e
  (leAt b o 1, leAt b (o + 1) 1, leAt b (o + 2) 2, leAt b (o + 4) 4)
/-- A setpoint map entry: element of x, plan value. -/
def tSet (b : Bytes) (n e : Nat) : Nat × Nat :=
  let o := tSetOff b n + 2 * e
  (leAt b o 1, leAt b (o + 1) 1)

/-- Elements of a block of a problem, and where the block starts in the record, in elements (R90). -/
def blockLen (p : Prob) (block : Nat) : Nat :=
  match block with
  | 1 => p.n | 2 => p.m | 3 => p.m | 4 => p.pLen | 5 => p.aLen | _ => 0
def blockStart (p : Prob) (block : Nat) : Nat :=
  match block with
  | 1 => p.pLen | 2 => p.pLen + p.n + p.aLen | 3 => p.pLen + p.n + p.aLen + p.m | 4 => 0 | _ => p.pLen + p.n

/-- A template keeps to its table and R162. -/
def State.tmplOk (s : State) (b : Bytes) : Bool :=
  let p := s.probAt (tBase b)
  let n := p.n
  decide (1 ≤ tK b ∧ tK b ≤ 32 ∧ tBranch b ≤ 1023 ∧ tNbind b ≤ 512 ∧ tNset b ≤ 64 ∧ tTask b ≤ 15) &&
  (leAt b 7 1 == 0x01 || leAt b 7 1 == 0xFF) && leAt b 24 8 == 0 && placed (tBase b) 64 && p.kind == 1 &&
  p.headerOk (tBase b) && placed (tWork b) p.recLen && placed (tRes b) p.resLen &&
  !overlap (tBase b) p.recLen (tWork b) p.recLen && !overlap (tBase b) p.recLen (tRes b) p.resLen &&
  !overlap (tWork b) p.recLen (tRes b) p.resLen && decide (tLen b n ≤ b.length) &&
  ((List.range (tNbind b)).all fun e =>
    let (k, img, idx, off) := tBind b n e
    decide (1 ≤ k ∧ k ≤ 5 ∧ img ≤ 1 ∧ idx < blockLen p k ∧ off ≤ 262136) && off % 8 == 0) &&
  (List.range (tNset b)).all fun e => decide ((tSet b n e).1 < n ∧ (tSet b n e).2 ≤ 63)

/-! ### Accesses of SEQ (R24, R447) -/

/-- SEQ reads a run of memory: none where the read is not admitted, which leaves its record. What SEQ does with the access
fault is not stated: it gives up what it assembles (DESIGN CHOICE, log 77). -/
def State.rdSeq (s : State) (a n : Nat) : State × Option Bytes :=
  if s.memAdmits .seq 0 a n then (s, some (s.rdMem a n)) else (s.refused .seq 0 a, none)

/-- SEQ reads a supply template, and its number of variables (R169). -/
def State.rdTemplate (s : State) (a : Nat) : State × Option (Nat × Bytes) :=
  match s.rdSeq a 32 with
  | (s, some h) =>
    let n := (s.probAt (tBase h)).n
    let (s, b) := s.rdSeq a (tLen h n)
    (s, b.map fun b => (n, b))
  | (s, none) => (s, none)

/-! ### Assembly (R29, R163) -/

/-- The images that R29 selects for a task and a round-start instant. -/
def State.imagesBefore (s : State) (task tr : Nat) : Option (List Host.Cell) :=
  ((kget [] s.cyc.snaps task).find? fun q => decide (q.1 < tr)).map fun q => q.2

/-- A binding's value; a free value where no cycle of the task has completed (DESIGN CHOICE, log 4). -/
def State.boundValue (s : State) (imgs : Option (List Host.Cell)) (img off : Nat) : State × Dbl :=
  match imgs with
  | some c => (s, w64 (leNat ((List.range 8).map fun i => kget 0 c (aIn + 0x40000 * img + off + i))))
  | none => (s.draw, s.drawn)

/-- Assemble the working record of a template (R163), whose places SEQ may read and write. -/
def State.assembleAt (s : State) (b : Bytes) (n : Nat) (rec_ : Bytes) (prices : List Dbl) (tr deadline round : Nat) : State :=
  let work := tWork b
  let p := s.probAt (tBase b)
  let s := s.wrMem work rec_
  let imgs := s.imagesBefore (tTask b) tr
  let s := (List.range (tNbind b)).foldl (fun t e =>
    let (k, img, idx, off) := tBind b n e
    let (t, v) := t.boundValue imgs img off
    t.wrLe (work + 64 + 8 * (blockStart p k + idx)) 8 v.toNat) s
  let s := (List.range n).foldl (fun t j =>
    let a := work + 64 + 8 * (p.pLen + j)
    let q := (List.range (tK b)).foldl (fun acc k =>
      let g := tG b n k j
      dFma (if tProducer b then dNeg g else g) (prices.getD k 0) acc) (w64 (t.rdLe a 8))
    t.wrLe a 8 q.toNat) s
  let s := (s.wrLe (work + 16) 8 deadline).wrLe (work + 56) 4 (tRes b)
  (s.wrLe (work + 1) 1 (if round = 1 then 2 else 1)).wrLe (work + 8) 4 0

/-- Assemble the working record of a template (R163) as far as SEQ's accesses are admitted; answers whether they were. -/
def State.assemble (s : State) (b : Bytes) (n : Nat) (prices : List Dbl) (tr deadline round : Nat) : State × Bool :=
  let len := (s.probAt (tBase b)).recLen
  match s.rdSeq (tBase b) len with
  | (s, none) => (s, false)
  | (s, some r) =>
    if s.memAdmits .seq 1 (tWork b) len then (s.assembleAt b n r prices tr deadline round, true)
    else (s.refused .seq 1 (tWork b), false)

/-- SEQ submits a batch of one problem that it has assembled (R163): priority 3, no lane mask, order 0; 0 where 64 batches
are queued, or the record was not assembled. -/
def State.submitOne (s : State) (off : Nat) (assembled : Bool) : State × Nat :=
  if !assembled || decide (s.solv.batches.length ≥ 64) then (s, 0)
  else
    let v := s.solv
    let id := v.nextId
    let b : Batch := { id := id, master := .seq, prio := 3, mask := 0, notify := false, tirq := false, offsets := [off], waiting := [0], order := [0],
                       done := 0, carried := 0, refused := 0, cancelled := false, started := false }
    (({ s with solv := { v with batches := v.batches ++ [b], nextId := if id = 0xFFFFFFFF then 1 else id + 1 } } : State).showQueued,
      id)

/-- The result record of a template's problem, if a batch of this number has written it. -/
def State.resultOf (s : State) (b : Bytes) (batch : Nat) : Option Bytes :=
  let p := s.probAt (tWork b)
  let r := s.rdMem (tRes b) p.resLen
  if s.batchLive batch || leAt r 48 4 != batch then none else some r

/-- XVALID and CARRIED of a result record. -/
def rValid (r : Bytes) : Bool := (r.getD 3 0).getLsbD 0
def rCarried (r : Bytes) : Bool := (r.getD 3 0).getLsbD 1
def rX (r : Bytes) : List Dbl := dblsOf (leAt r 56 1) (r.drop 64)
def rY (r : Bytes) : List Dbl := dblsOf (leAt r 57 1) (r.drop (64 + 8 * leAt r 56 1))

/-- The draws of a solution (R164). -/
def drawsOf (b : Bytes) (n : Nat) (x : List Dbl) : List Dbl :=
  (List.range (tK b)).map fun k => (List.range n).foldl (fun acc j => dFma (tG b n k j) (x.getD j 0) acc) (tG0 b n k)

/-! ### Staging plan values (R174, R175, R192) -/

/-- Stage plan values with an effective time, and arm them. -/
def State.stagePlan (s : State) (l : List (Nat × Dbl)) (eff : Nat) : State :=
  let s := l.foldl (fun t p => t.wr64 (0x30400 + 8 * p.1) p.2) s
  (s.wr64 0x30050 (w64 eff)).armPlan

/-- The staged table. -/
def State.staged (s : State) : List W64 := (List.range 64).map fun j => s.rd64 (0x30400 + 8 * j)

/-- The fallback plan values. -/
def State.stageFallback (s : State) (eff : Nat) : State :=
  let l := s.drift.st.fallback
  (s.stagePlan ((List.range l.length).zip l) eff).setSt fun t => { t with applied := none }

/-! ### The network configuration (05) -/

/-- A branch entry of a network configuration. -/
structure NetBranch where
  id : Nat
  qk : Nat
  ps : Nat
  kinds : List Nat
  /-- P0, PMIN, PMAX, STEP, SCALE, CAP of each price. -/
  prices : List (List Dbl)
  deriving DecidableEq, Repr

/-- A station entry. -/
structure NetStation where
  addr : Nat
  branch : Nat
  chain : Nat
  pos : Nat
  hold : Nat
  fb : Nat
  deriving DecidableEq, Repr

/-- The branch entries from an offset on; `n` of them. -/
def netBranchesFrom (b : Bytes) : Nat → Nat → List NetBranch
  | _, 0 => []
  | o, n + 1 =>
    let k := leAt b (o + 2) 1 * leAt b (o + 3) 1
    { id := leAt b o 2, qk := leAt b (o + 2) 1, ps := leAt b (o + 3) 1, kinds := (List.range 4).map fun i => leAt b (o + 4 + i) 1,
      prices := (List.range k).map fun j => (List.range 6).map fun i => w64 (leAt b (o + 16 + 48 * j + 8 * i) 8) } ::
    netBranchesFrom b (o + 16 + 48 * k) n

def netBranches (b : Bytes) : List NetBranch := netBranchesFrom b (leAt b 32 4) (leAt b 2 2)
def NetBranch.k (x : NetBranch) : Nat := x.qk * x.ps
def NetBranch.price (x : NetBranch) (k i : Nat) : Dbl := (x.prices.getD k []).getD i 0
def NetBranch.kind (x : NetBranch) (k : Nat) : Nat := x.kinds.getD (k / x.ps) 0

def netStations (b : Bytes) : List NetStation :=
  (List.range (leAt b 4 2)).map fun i =>
    let o := leAt b 36 4 + 16 * i
    { addr := leAt b o 2, branch := leAt b (o + 2) 2, chain := leAt b (o + 4) 2, pos := leAt b (o + 6) 1, hold := leAt b (o + 7) 1,
      fb := leAt b (o + 8) 4 }

/-- Supply entries: branch and template address. -/
def netSupplies (b : Bytes) : List (Nat × Nat) :=
  (List.range (leAt b 6 1)).map fun i =>
    let o := leAt b 40 4 + 16 * i
    (leAt b o 2, leAt b (o + 4) 8)

def netBranch (b : Bytes) (id : Nat) : Option NetBranch := (netBranches b).find? fun x => x.id == id
/-- K of a branch of a configuration. -/
def netK (b : Bytes) (id : Nat) : Nat := ((netBranch b id).map NetBranch.k).getD 0

/-- The bytes that a configuration needs. -/
def netFits (b : Bytes) : Bool :=
  let l := b.length
  let bs := netBranches b
  decide (48 ≤ l) && decide (leAt b 32 4 + (bs.map fun x => 16 + 48 * x.k).sum ≤ l) &&
  decide (leAt b 36 4 + 16 * leAt b 4 2 ≤ l) && decide (leAt b 40 4 + 16 * leAt b 6 1 ≤ l) &&
  (netStations b).all fun t => decide (t.fb + 8 * netK b t.branch ≤ l)

/-- R156 and the entry tables; the tables do not say what a value that is no number does, and TOL, P0, PMIN, PMAX, STEP, SCALE
and CAP, of kinds 0 and 3 too, must be finite (DESIGN CHOICE, log 77). -/
def netShape (b : Bytes) : Bool :=
  let bs := netBranches b
  let ss := netStations b
  let chains := (ss.map fun t => t.chain).eraseDups
  decide (1 ≤ leAt b 2 2 ∧ leAt b 2 2 ≤ 1024 ∧ 1 ≤ leAt b 4 2 ∧ leAt b 4 2 ≤ 16382 ∧ leAt b 6 1 ≤ 64 ∧ 1 ≤ leAt b 7 1 ∧ leAt b 7 1 ≤ 16) &&
  netFits b && decide (bs.map fun x => x.id).Nodup && decide (ss.map fun t => t.addr).Nodup &&
  decide (ss.map fun t => (t.chain, t.pos)).Nodup && leAt b 44 4 == 0 && dFinite (w64 (leAt b 24 8)) &&
  (bs.all fun x => decide (x.id ≤ 1023 ∧ 1 ≤ x.qk ∧ x.qk ≤ 4 ∧ 1 ≤ x.ps ∧ x.ps ≤ 32 ∧ x.k ≤ 32) &&
    ((List.range 4).all fun i => if i < x.qk then decide (x.kinds.getD i 0 ≤ 3) else x.kinds.getD i 0 == 0xFF) &&
    (List.range x.k).all fun k => (x.prices.getD k []).all dFinite && dLt dZero (x.price k 3) && dLt dZero (x.price k 4) &&
      (!(x.kind k == 1 || x.kind k == 2) || dLe dZero (x.price k 1))) &&
  (ss.all fun t => decide (1 ≤ t.addr ∧ t.addr ≤ 16382 ∧ 1 ≤ t.pos ∧ t.pos ≤ 64 ∧ 1 ≤ t.hold) && bs.any fun x => x.id == t.branch) &&
  (chains.all fun c => decide (((ss.filter fun t => t.chain == c).map fun t => t.branch).eraseDups.length ≤ 16)) &&
  (netSupplies b).all fun q => bs.any fun x => x.id == q.1

/-- R153: the phases of a configuration fit a schedule. -/
def netFitsSched (b : Bytes) (q : Nat × Nat × Nat) : Bool :=
  decide ((leAt b 8 4 + leAt b 16 4 + leAt b 20 4) * 1000 ≤ 2 * driftH q.1 q.2.1)

/-- The bytes that drift state takes in the mirror in a period (R178). -/
def netVolume (b : Bytes) (nr : Nat) : Nat :=
  nr * 24 * ((netBranches b).map NetBranch.k).sum + ((netStations b).map fun t => 8 + 8 * netK b t.branch).sum

/-- R159 and R170. -/
def netTimes (b : Bytes) : Bool :=
  let kmax := ((netBranches b).map NetBranch.k).foldl max 0
  let sum := ((netStations b).map fun t => netK b t.branch).sum + ((netSupplies b).map fun q => netK b q.1).sum
  decide (leAt b 12 4 ≥ 800 * (106 + 8 * kmax) + 2000) && decide (leAt b 20 4 * 1000 ≥ 500000 + 35 * sum)

/-- The configuration that the next period runs under. -/
def State.netHeld (s : State) : Option Bytes := (s.drift.hd.netNext.map fun q => q.2) <|> s.drift.hd.net

/-- A branch is new in a configuration, or its QK or PS changes (R172): it alone takes P0, and the other branches keep their
prices ("P0 of each price" read as of each price of that branch; DESIGN CHOICE, log 77). -/
def netChanged (old : Option Bytes) (x : NetBranch) : Bool :=
  match old.bind fun o => netBranch o x.id with
  | some y => y.qk != x.qk || y.ps != x.ps
  | none => true

/-- A configuration stored before a period start is in force from it on (R180). -/
def State.takeNet (s : State) (tk : Nat) : State :=
  s.setHd fun h => match h.netNext with
    | some (at_, b) =>
      if at_ < tk then
        { h with net := some b, netNext := none
                 freshBranches := h.freshBranches ++ ((netBranches b).filter (netChanged h.net)).map fun x => x.id }
      else h
    | none => h

/-! ### Rounds at the HEAD -/

/-- A vector shifted one stage per kind (R168): copies only. -/
def shiftStage (ps : Nat) (l : List Dbl) : List Dbl :=
  (List.range l.length).map fun k => if k % ps < ps - 1 then l.getD (k + 1) 0 else l.getD k 0

def State.headBranch (s : State) (id : Nat) : HeadBranch := kget {} s.drift.hd.branches id
def State.headStation (s : State) (a : Nat) : HeadStation := kget {} s.drift.hd.stations a
def State.headSupply (s : State) (i : Nat) : HeadSupply := kget {} s.drift.hd.supplies i
def State.setHeadBranch (s : State) (id : Nat) (x : HeadBranch) : State :=
  s.setHd fun h => { h with branches := kput {} h.branches id x }
def State.setHeadStation (s : State) (a : Nat) (x : HeadStation) : State :=
  s.setHd fun h => { h with stations := kput {} h.stations a x }
def State.setHeadSupply (s : State) (i : Nat) (x : HeadSupply) : State :=
  s.setHd fun h => { h with supplies := kput {} h.supplies i x }

/-- The HEAD's drift frames go out (R154, R155). -/
def State.launches (s : State) : Bool := s.timeState == 2 && !s.frozen

/-- Drift frames of the HEAD, in order (R160): on ports 0 to 2, and 3 where it is no pair link; each carries a test of the
chain that a T1L port feeds, which PORT_Pp's drift-filter chain names (DESIGN CHOICE, log 77). The first on a port carries
the launch time, the others leave behind it. -/
def State.sendAll (s : State) (launch : Nat) (l : List (Nat × Bytes × (Nat → Bool))) : State :=
  if !s.launches || s.address = 0 then s
  else (if s.paired then [0, 1, 2] else [0, 1, 2, 3]).foldl (fun t p =>
    let mine := l.filter fun f => decide (2 ≤ p) || f.2.2 (t.portCfg p).chain
    t.driftSend p ((List.range mine.length).zip mine |>.map fun q =>
      (if q.1 = 0 then launch else 0, t.fieldFrame 0x3FFF q.2.1 true q.2.2.1))) s

/-- The ROUND_START body. -/
def State.roundBody (s : State) (b : Bytes) (k r : Nat) (stop : Bool) (tr : Nat) : Bytes :=
  let (ps, nr, _) := s.drift.sched.getD (0, 0, 0)
  beBytes 4 k ++ [BitVec.ofNat 8 r, BitVec.ofNat 8 nr, BitVec.ofNat 8 (b2n stop), 0] ++ beBytes 8 (s.periodStart k) ++ beBytes 4 ps ++
    beBytes 4 (leAt b 8 4) ++ beBytes 4 (leAt b 12 4) ++ beBytes 4 (leAt b 16 4) ++ beBytes 8 tr

/-- The CRC of prices in wire order (R161). -/
def priceCrc (l : List Dbl) : Nat := crc32c (l.flatMap fun v => beBytes 8 v.toNat)

/-- A PRICE body: most significant byte first for the wire, least for DRIFT_PRICES_READ. -/
def priceBody (wire : Bool) (k r : Nat) (x : NetBranch) (lam : List Dbl) : Bytes :=
  let u := fun n v => if wire then beBytes n v else leBytes n v
  u 4 k ++ [BitVec.ofNat 8 r, 0, BitVec.ofNat 8 x.k, BitVec.ofNat 8 x.ps] ++ u 2 x.id ++ [BitVec.ofNat 8 x.qk, 0] ++ u 4 (priceCrc lam) ++
    lam.flatMap fun v => u 8 v.toNat

/-- The current period and the three before it (R181). -/
def keptHead (now k : Nat) : Bool := decide (k ≤ now ∧ now ≤ k + 3)

/-! ### The mirror of drift state (R178; its layout DESIGN CHOICE, log 65) -/

/-- Where a branch's lam, y and yprev, and a station's plan entry, travel: behind shared SRAM. -/
def branchLineAt (id : Nat) : Nat := 0x02000000 + 768 * id
def stationLineAt (a : Nat) : Nat := 0x02100000 + 320 * a

/-- Bytes as lines from an offset on, the last filled with 0; `n` bounds how many. -/
def asLines (a : Nat) (b : Bytes) : Nat → List MirrorLine
  | 0 => []
  | n + 1 => if b.isEmpty then [] else (a, b.take 64 ++ List.replicate (64 - b.length) 0) :: asLines (a + 64) (b.drop 64) n

/-- The bytes of a branch's prices, and a station's entry of DRIFT_PLAN_READ. -/
def HeadBranch.bytes (h : HeadBranch) : Bytes := (h.lam ++ h.y ++ h.yprev).flatMap le8
def planEntry (a code : Nat) (d : List W64) : Bytes :=
  leBytes 2 a ++ [BitVec.ofNat 8 code, BitVec.ofNat 8 d.length, 0, 0, 0, 0] ++ d.flatMap le8

/-- The point after an update, and after a plan commit (R178). -/
def State.mirrorPrices (s : State) (b : Bytes) : State :=
  let l := (netBranches b).map fun x => (branchLineAt x.id, (s.headBranch x.id).bytes)
  s.mirrorPointWith (l.flatMap fun q => asLines q.1 q.2 12) (l.map fun q => q.2.length).sum
def State.mirrorPlan (s : State) (b : Bytes) : State :=
  let l := (netStations b).map fun t =>
    (stationLineAt t.addr, planEntry t.addr (s.headStation t.addr).planCode (s.headStation t.addr).plan)
  s.mirrorPointWith (l.flatMap fun q => asLines q.1 q.2 5) (l.map fun q => q.2.length).sum

/-- What the mirror has brought from an offset on: `n` bytes, none where a line is missing. -/
def State.mirrored? (s : State) (a n : Nat) : Option Bytes :=
  let l := (List.range ((n + 63) / 64)).map fun i => kfind s.drift.hd.lines (a / 64 + i)
  if l.all Option.isSome then some ((l.flatMap fun o => o.getD []).take n) else none

/-- The drift state that the mirror has brought to a unit that takes over and begins period `k` (R178, R179): the plan of a
station is that of the previous period. A branch whose prices the mirror has not brought takes P0. -/
def State.takeMirrored (s : State) (b : Bytes) (k : Nat) : State :=
  let s := (netBranches b).foldl (fun t x =>
    match t.mirrored? (branchLineAt x.id) (24 * x.k) with
    | some m => t.setHeadBranch x.id { lam := dblsOf x.k m, y := dblsOf x.k (m.drop (8 * x.k)), yprev := dblsOf x.k (m.drop (16 * x.k)) }
    | none => t.setHd fun h => { h with freshBranches := h.freshBranches ++ [x.id] }) s
  (netStations b).foldl (fun t x =>
    let n := netK b x.branch
    match t.mirrored? (stationLineAt x.addr) (8 + 8 * n) with
    | some m =>
      let code := leAt m 2 1
      t.setHeadStation x.addr { t.headStation x.addr with
        planCode := code, plan := dblsOf n (m.drop 8), planAt := if k = 0 then none else some (k - 1)
        zeros := b2n (code == 0) }
    | none => t) s

/-- A period begins (R172, R179, R180): a new configuration takes effect; the prices of round 1, or the mirrored ones where
a unit that has taken over begins later in the period; no bid of the period. -/
def State.beginPeriod (s : State) (k r : Nat) : State :=
  let fresh := s.drift.hd.mirrored
  let s := s.takeNet (s.periodStart k)
  let b := s.drift.hd.net.getD []
  let s := if fresh then (s.setHd fun h => { h with freshBranches := [] }).takeMirrored b k else s
  let first := s.drift.hd.freshBranches
  let s := (netBranches b).foldl (fun t x =>
    let c := t.headBranch x.id
    if first.contains x.id || c.y.length != x.k then
      let lam := (List.range x.k).map fun j => x.price j 0
      t.setHeadBranch x.id { lam := lam, y := c.y, yprev := lam }
    else if fresh && decide (1 < r) then t
    else t.setHeadBranch x.id { lam := shiftStage x.ps c.y, y := c.y, yprev := shiftStage x.ps c.y }) s
  s.setHd fun h => { h with
    period := k, round := 0, closed := 0, final := 0, ran := false, mirrored := false, freshBranches := [],
    stations := h.stations.map fun p => (p.1, { p.2 with bids := [] })
    supplies := h.supplies.map fun p => (p.1, { p.2 with batch := none, draws := [], cur := none })
    prices := h.prices.filter fun q => keptHead k q.1
    plans := h.plans.filter fun q => keptHead k q.1 }

/-- The supply problems of a round (R169). -/
def State.startSupplies (s : State) (b : Bytes) (r tr : Nat) : State :=
  let l := netSupplies b
  let close := tr + (leAt b 8 4 + leAt b 16 4) * 1000
  ((List.range l.length).zip l).foldl (fun t q =>
    match t.rdTemplate q.2.2 with
    | (t, none) => t.setHeadSupply q.1 { t.headSupply q.1 with batch := none }
    | (t, some (n, tm)) =>
      let (t, ok) := t.assemble tm n (t.headBranch q.2.1).lam tr close r
      let (t, id) := t.submitOne (tWork tm) ok
      t.setHeadSupply q.1 { t.headSupply q.1 with batch := some id }) s

/-- The draws of a supply template after a round (R169): of its result, of an earlier round, of the previous period
shifted; none where all are missing. -/
def State.supplyDraws (s : State) (b : Bytes) (i : Nat) (q : Nat × Nat) (k r : Nat) : State × Option (List Dbl) :=
  let c := s.headSupply i
  let (s, tm) := s.rdTemplate q.2
  let own := tm.bind fun (n, b) => ((c.batch.bind fun id => s.resultOf b id).filter rValid).map fun r' => drawsOf b n (rX r')
  let s := if own.isSome then s else s.postSeq 0x0307 i k r
  let used : Option (List Dbl) := match own, c.draws, c.last with
    | some d, _, _ => some d
    | none, e :: _, _ => some e.2
    | none, [], some (j, d) => if j + 1 = k then some (shiftStage (((netBranch b q.1).map fun x => x.ps).getD 1) d) else none
    | none, [], none => none
  (s.setHeadSupply i { c with draws := (match own with
                                | some d => (r, d) :: c.draws
                                | none => c.draws), cur := used }, used)

/-- The source code and the draws of a station at C_r (R168). -/
def State.sourceOf (s : State) (b : Bytes) (t : NetStation) (r : Nat) : Nat × List Dbl :=
  let c := s.headStation t.addr
  let ps := ((netBranch b t.branch).map fun x => x.ps).getD 1
  let k := s.drift.hd.period
  match c.bids.find? fun q => q.1 == r with
  | some q => (r, q.2)
  | none =>
    match c.bids.foldl (fun m q => match m with
        | some e => if q.1 > e.1 then some q else some e
        | none => some q) (none : Option (Nat × List W64)) with
    | some q => (q.1, q.2)
    | none =>
      if c.planAt.any (fun j => j + 1 == k) && c.planCode != 0x1F && decide (c.zeros < t.hold) then (0, shiftStage ps c.plan)
      else (0x1F, (List.range (netK b t.branch)).map fun k => w64 (leAt b (t.fb + 8 * k) 8))

/-- Ascending by a key. -/
def insBy {α : Type} (f : α → Nat) (x : α) : List α → List α
  | [] => [x]
  | y :: t => if f x < f y then x :: y :: t else y :: insBy f x t
def sortBy {α : Type} (f : α → Nat) (l : List α) : List α := l.foldl (fun m x => insBy f x m) []

/-- The update of one price (R170): y, the next lam and the residual term. -/
def priceStep (x : NetBranch) (k : Nat) (c lam yprev t : Dbl) (draws : List (List Dbl)) : Dbl × Dbl × Dbl :=
  let d := draws.foldl (fun acc v => dAdd acc (v.getD k 0)) dZero
  let e := dSub d t
  let pmin := x.price k 1
  let pmax := x.price k 2
  let y := dMin (dMax (dFma (x.price k 3) e lam) pmin) pmax
  let ln := dFma c (dSub y yprev) y
  let z := if (x.kind k == 1 || x.kind k == 2) && dLe e dZero && dLe y pmin then dZero else dDiv (dAbs e) (x.price k 4)
  (y, dMin (dMax ln pmin) pmax, z)

/-- The update of a branch (R169, R170), given the draws of its supply templates; none: its prices stay, and it adds nothing
to the residual, which R169 does not state, so that the round can end the period early (DESIGN CHOICE, log 77). -/
def State.updateBranch (s : State) (b : Bytes) (x : NetBranch) (r : Nat) (sup : Option (List (List Dbl))) (res : Dbl) : State × Dbl :=
  match sup with
  | none => (s, res)
  | some ds =>
    let st := sortBy (fun (t : NetStation) => t.addr) ((netStations b).filter fun t => t.branch == x.id)
    let dr := st.map fun t => (s.headStation t.addr).draws
    let h := s.headBranch x.id
    let c := dDiv (dOfInt ((r : Int) - 1)) (dOfInt (r + 2))
    let out := (List.range x.k).map fun k =>
      let t := if x.kind k == 0 || x.kind k == 3 then ds.foldl (fun acc v => dAdd acc (v.getD k 0)) dZero else x.price k 5
      priceStep x k c (h.lam.getD k 0) (h.yprev.getD k 0) t dr
    (s.setHeadBranch x.id { lam := out.map fun o => o.2.1, y := out.map fun o => o.1, yprev := out.map fun o => o.1 },
      out.foldl (fun m o => dMax m o.2.2) res)

/-- The plan of a station is committed (R168, R173). -/
def State.commitStation (s : State) (k : Nat) (t : NetStation) : State :=
  let c := s.headStation t.addr
  let s := s.setHeadStation t.addr { c with planCode := c.code, plan := c.draws, planAt := some k
                                            zeros := if c.code = 0 then c.zeros + 1 else 0 }
  s.setHd fun h => { h with plans := h.plans ++ [(k, t.addr, c.code, c.draws)] }

end Sys2Proof.Machine
end

