-- ==== Sys2Proof/Machine/Mailbox.lean ====
section
/-! DEFINITION. The mailbox: SYS commands on the mailbox itself, doorbells, queue pairs, interrupts and host links (02). -/

namespace Sys2Proof.Machine

/-- SYS_NOP (R76): the first 12 parameter bytes; bytes not supplied read 0. -/
def execSysNop (i : Issue) (data : Bytes) (s : State) : Out :=
  .next (s.hostCmd { op := 0x0100, plen := 0 } i fun s =>
    let d := data.take i.plen
    s.complete i eOk (w32 (leAt d 0 4)) (w32 (leAt d 4 4)) (w32 (leAt d 8 4)))

/-- SYS_INFO (R76, R512). -/
def execSysInfo (i : Issue) (s : State) : Out :=
  .next (s.hostCmd { op := 0x0101, plen := 0 } i fun s =>
    s.complete i eOk Config.firnVersion (w32 (s.fld 0xC0020 15 0))
      (w32 (s.fld 0x80008 13 0 + s.chip.ddrSize % 8 * 65536)))

/-- The shared SRAM runs of the queues of an active pair. -/
def State.queueRuns (s : State) (k : Nat) : List (Nat × Nat) :=
  let b := s.qpBase k
  let sq := b + (s.rd (qpReg k 0)).toNat
  let cq := b + (s.rd (qpReg k 4)).toNat
  [(sq, sq + 64 * s.sqLen k), (cq, cq + 16 * s.cqLen k)]

/-- What a window at `b` must still hold (R72): active queues, the buffers of commands that are outstanding or wait for a
handover, host regions. -/
def State.windowHolds (s : State) (b : Nat) : Bool :=
  let ok := fun (p : Nat × Nat) => decide (b ≤ p.1 ∧ p.2 ≤ b + 0x1000000)
  ((List.range 8).all fun k => !s.qpActive k || (s.queueRuns k).all ok) &&
  (s.mb.outstanding.all fun o => (bufsOf o.cmd).all fun f => ok (o.win + f.off.toNat, o.win + f.off.toNat + f.len.toNat)) &&
  (s.mb.waiting.all fun c => (bufsOf c).all fun f => ok (s.winAddr f.off, s.winAddr f.off + f.len.toNat)) &&
  s.acc.all fun e => !(e.target == 0 && (e.master == 11 || e.master == 12) && e.rights &&& 7 != 0) || ok (e.start, e.stop + 1)

/-- The window moves (R72); the buffer of a command that waits stays where it is in shared SRAM. -/
def State.moveWindow (s : State) (base : W32) : State :=
  let move := fun (f : Buf) => ({ f with off := s.rd 0x10040 + f.off - base } : Buf)
  (s.setWaiting (s.mb.waiting.map (mapBuf move))).wr 0x10040 base

/-- SYS_WINDOW_SET (R72). -/
def execSysWindowSet (i : Issue) (base : W32) (s : State) : Out :=
  .next (s.hostCmd { op := 0x0102, plen := 4 } i fun s =>
    s.checked i [(base.toNat % 0x100000 != 0 || decide (base.toNat > 0x01000000), eParam),
                 (!s.windowHolds base.toNat, eState)] fun s =>
      (s.moveWindow base).complete i eOk (s.rd 0x10040) 0 0)

/-- SYS_ACCESS_GET (R448). -/
def execSysAccessGet (i : Issue) (target : Byte) (master : Byte) (region : Byte) (s : State) : Out :=
  .next (s.hostCmd { op := 0x0103, plen := 3 } i fun s =>
    s.checked i [((s.targetShape target.toNat).isNone || decide (master.toNat > 15 ∨ region.toNat > 15), eParam)] fun s =>
      let e := s.accEntry target.toNat master.toNat region.toNat
      s.complete i eOk (w32 e.start) (w32 e.stop) (w32 e.rights.toNat))

/-- SYS_ACCESS_SET (R448), its checks in that rule's order. -/
def execSysAccessSet (i : Issue) (target : Byte) (master : Byte) (region : Byte) (rights : Byte) (start : W32) (stop : W32)
    (s : State) : Out :=
  .next (s.hostCmd { op := 0x0104, plen := 12 } i fun s =>
    let t := target.toNat
    let m := master.toNat
    let r := region.toNat
    let e : AccEntry := ⟨t, m, r, start.toNat, stop.toNat, rights⟩
    s.checked i [((s.targetShape t).isNone || decide (m > 15 ∨ r > 15), eParam), (!(m == 11 || m == 12), eAccess),
                 (s.conf.hostLock, eAccess), (!s.entryOk e, eParam), ((s.accEntry t m r).rights.getLsbD 7, eAccess)] fun s =>
      let s := (s.stageEntry e).atCommit
      (s.postFirn 0x0121 (w32 (t + m * 256 + r * 65536)) start stop).done i eOk)

/-- SYS_EVENT_ROUTE (R76): the sources are those of R59's table, named by their vector there (DEDUCED, log 26). -/
def execSysEventRoute (i : Issue) (source : Byte) (vector : Byte) (s : State) : Out :=
  .next (s.hostCmd { op := 0x0105, plen := 2 } i fun s =>
    let n := source.toNat
    s.checked i [(!(n == 0 || decide (9 ≤ n ∧ n ≤ 15)) || decide (vector.toNat > 15), eParam)] fun s =>
      ({ s with mb := { s.mb with routes := kset s.mb.routes n vector } } : State).done i eOk)

/-- A command with an opcode that is not in the index (R78); recovery answers every command that it does not serve with
E_STATE (R70), and a unit whose record names the other personality answers every class but SYS, LOG, IMG and KEY with
E_PERSONALITY (R4). -/
def execUnknownOpcode (i : Issue) (opcode : W16) (s : State) : Out :=
  .next (s.done i (if s.recovery then eState
    else if s.persMismatch && !mismatchClass opcode.toNat then ePersonality else eOpcode))

/-! ### Queue pairs -/

/-- The descriptor of pair `k` satisfies R42 for its would-be owner. -/
def State.qpOk (s : State) (h : HostId) (k : Nat) : Bool :=
  let sl := s.fld (qpReg k 8) 3 0
  let cl := s.fld (qpReg k 8) 11 8
  let sb := (s.rd (qpReg k 0)).toNat
  let cb := (s.rd (qpReg k 4)).toNat
  let sn := 64 * 2 ^ sl
  let cn := 16 * 2 ^ cl
  decide (4 ≤ sl ∧ sl ≤ 12 ∧ 4 ≤ cl ∧ cl ≤ 12 ∧ sl ≤ cl) && sb % 64 == 0 && cb % 64 == 0 &&
  decide (sb + sn ≤ 0x1000000 ∧ cb + cn ≤ 0x1000000) && decide (sb + sn ≤ cb ∨ cb + cn ≤ sb) &&
  s.sramOk (hostMaster h) true (s.window + sb) sn && s.sramOk (hostMaster h) false (s.window + cb) cn

/-- Firn's answer to ENABLE (R43): the pair becomes active, or ERR with MB_ERR code 4. -/
def State.enablePair (s : State) (h : HostId) (k : Nat) : State :=
  if s.qpOk h k then
    let s := s.wrAll [(qpReg k 0xC, 0), (qpReg k 0x10, 0), (qpReg k 0x14, 0), (qpReg k 0x18, 0)]
    let s := (s.setFld (qpReg k 0x1C) 13 12 (ownerCode h)).setBit (qpReg k 0x1C) 1 true
    { s with mb := { s.mb with phase := s.mb.phase ||| (1#8 <<< k), qpWin := kput 0 s.mb.qpWin k s.window } }
  else (s.setErr k true).mbErr 4 k false

/-- A host's write of MB_QP_CTRL (R43, R45): VECTOR, NOIRQ, PRIO and ENABLE; a change of ENABLE starts or ends the pair.
Recovery serves pair 0 only (R70). A write that sets ENABLE again while the pair's last commands still run is answered as any
other: the pair starts anew, and those commands complete into it (DESIGN CHOICE, log 75). -/
def State.writeQpCtrl (s : State) (h : HostId) (k : Nat) (v : W32) : State :=
  if k > 7 then s
  else
    let was := s.bit (qpReg k 0x1C) 0
    let old := s.rd (qpReg k 0x1C)
    let s := s.wr (qpReg k 0x1C) ((old &&& 0xFFFFF0E6) ||| (v &&& 0xF19))
    if !was && v.getLsbD 0 then
      if s.recovery && k != 0 then s else s.enablePair h k
    else if was && !v.getLsbD 0 then s.settlePair k
    else s

/-- QUEUE_ENABLE (R43). -/
def execQueueEnable (host : HostId) (pair : Byte) (value : W32) (s : State) : Out :=
  .next (s.fromHost host fun s => s.writeQpCtrl host pair.toNat value)

/-- QUEUE_DISABLE (R45). -/
def execQueueDisable (host : HostId) (pair : Byte) (value : W32) (s : State) : Out :=
  .next (s.fromHost host fun s => s.writeQpCtrl host pair.toNat value)

/-- `b` lies from `a` to `c` going up around a queue of `n` entries. -/
def inQueueOrder (n a b c : Nat) : Bool := decide ((b + n - a) % n ≤ (c + n - a) % n)

/-- A doorbell (R51, R79), judged by the first condition of R79 that applies. -/
def State.doorbell (s : State) (h : HostId) (k : Nat) (v : W32) : State :=
  if k > 7 then s
  else
    let tail := fldOf v 15 0
    let head := fldOf v 31 16
    if !s.qpActive k || s.fld (qpReg k 0x1C) 13 12 != ownerCode h then s.mbErr 3 k false
    else if tail ≥ s.sqLen k then (s.setErr k true).mbErr 1 k false
    else if head ≥ s.cqLen k ||
        !inQueueOrder (s.cqLen k) (s.rd (qpReg k 0x14)).toNat head (s.rd (qpReg k 0x18)).toNat then
      (s.setErr k true).mbErr 2 k false
    else (s.wr (qpReg k 0x10) (w32 tail)).wr (qpReg k 0x14) (w32 head)

/-- DOORBELL_WRITE (R51, R79). -/
def execDoorbellWrite (host : HostId) (pair : Byte) (value : W32) (s : State) : Out :=
  .next (s.fromHost host fun s => s.doorbell host pair.toNat value)

/-- GO (R62): ignored with MB_ERR code 6 while BUSY; otherwise DONE clears, BUSY is set and Firn has a command to take. -/
def State.immGoWrite (s : State) (h : HostId) : State :=
  if s.bit 0x10048 2 then s.mbErr 6 0 true
  else
    let s := (s.setBit 0x10048 1 false).setBit 0x10048 2 true
    { s with mb := { s.mb with immGo := true, immHost := h } }

/-- IMMEDIATE_GO (R62). -/
def execImmediateGo (host : HostId) (s : State) : Out := .next (s.fromHost host fun s => s.immGoWrite host)

/-- MB_ERR_READ (R10, R11): the error, which the read clears; an error that arises in the same cycle stays. -/
def execMbErrRead (host : ErrRead) (s : State) : Out :=
  .next (s.fromHost host.host fun s =>
    let v := s.rd 0x1001C
    let s := s.wr 0x1001C 0
    let r := host.rising
    let s := if r = 0 then s else s.mbErr (fldOf r 3 0) (fldOf r 6 4) (r.getLsbD 7)
    { s with bus := { data := leBytes 4 v.toNat, ur := false } })

/-- A W1C write of MB_EVENT on an edge on which the bits of `rising` are set by their sources (R11, R61): a bit that rises
stays set. -/
def State.clearEvents (s : State) (v : W32) (rising : W16) : State :=
  let m := v &&& 0xFFFF &&& ~~~(rising.setWidth 32)
  let s := s.wr 0x10014 (s.rd 0x10014 &&& ~~~m)
  (bitsOf 16 rising.toNat).foldl State.rawEvent s

/-- MB_EVENT_CLEAR (R61). -/
def execMbEventClear (host : HostId) (value : W32) (rising : W16) (s : State) : Out :=
  .next (s.fromHost host fun s => s.clearEvents value rising)

/-! ### Host links -/

/-- The commands taken from pair `k` lose their pair: those outstanding, those that wait for a handover, and LOG_WRITEs whose
record has not been written. Their completions are discarded (R37, R41). R37 says nothing of the immediate mailbox: a
command of it that is in progress completes there as any other, with DONE and vector 9 (DESIGN CHOICE, log 75). -/
def State.disown (s : State) (k : Nat) : State :=
  let cut := fun (i : Issue) => if ofPair i k then { i with src := .gone } else i
  let told := fun (p : Posting) => { p with waiter := p.waiter.map cut }
  { s with
    mb := { s.mb with
      outstanding := s.mb.outstanding.map fun (o : Outst) => if ofPair o.iss k then { o with dropped := true } else o
      waiting := s.mb.waiting.map (mapIssue cut) }
    log := { s.log with fifo := s.log.fifo.map told, waitWrites := s.log.waitWrites.map told } }

/-- Every queue pair that a host owns goes back to its reset values; commands started from it run on, and their
completions are discarded (R37, R41). -/
def State.resetPairs (s : State) (h : HostId) : State :=
  (List.range 8).foldl (fun t k =>
    if t.fld (qpReg k 0x1C) 13 12 == ownerCode h then
      let t := t.disown k
      let t := (List.range 8).foldl (fun u j => u.wr (qpReg k (4 * j)) (regReset (qpReg k (4 * j)))) t
      t.setErr k false
    else t) s

/-- The PCIe link is reset (R37): the endpoint, the MSI-X table and pending bits, MB_EVENT and MB_EVENT_EN, and the pairs
of HOSTP. -/
def State.linkReset (s : State) : State :=
  let s := (List.range 64).foldl (fun t j => t.wr (0x12000 + 4 * j) (regReset (0x12000 + 4 * j))) s
  (s.wrAll [(0x13000, 0), (0x10014, 0), (0x10018, 0)]).resetPairs .hostp

/-- PCIE_LINK_RESET (R37): the four causes act alike. -/
def execPcieLinkReset (_cause : LinkReset) (s : State) : Out := .next s.linkReset

/-- BAR0_BAD_ACCESS (R35): an access that is not one aligned 32-bit access is an Unsupported Request and is discarded. -/
def execBar0BadAccess (_write : Bool) (_offset : Nat) (_length : Nat) (s : State) : Out :=
  .next (s.fromHost .hostp fun s => { s with bus := { data := [], ur := true } })

/-- UNSUPPORTED_REQUEST (R33). -/
def execUnsupportedRequest (s : State) : Out :=
  .next (s.fromHost .hostp fun s => { s with bus := { data := [], ur := true } })

/-- A BAR2 access that receives the error response (R38): MB_ERR code 5 and the window offset, and the fabric's record of
the refusal (R450). -/
def State.bar2Error (s : State) (h : HostId) (write : Bool) (off : Nat) : State :=
  let s := (s.wr 0x10044 (w32 off)).mbErr 5 0 false
  s.violation (masterId (hostMaster h)) 0 (b2n write) (s.window + off) false

/-- A run of the window meets no poisoned word that a read would return or a write would cover in part (R488). -/
def State.cleanRun (s : State) (write : Bool) (a n : Nat) : Bool :=
  (List.range n).all fun i =>
    let w := (a + i) / 8 * 8
    !s.poisoned (a + i) || (write && decide (a ≤ w) && decide (w + 8 ≤ a + n))

/-- A host's write through the window (R72, R447, R488): stored, or refused as a whole with the error response. -/
def State.bar2Write (s : State) (h : HostId) (off : Nat) (d : Bytes) : State :=
  let a := s.window + off
  if off + d.length ≤ 0x1000000 && s.sramOk (hostMaster h) true a d.length then
    let bad := !s.cleanRun true a d.length
    let s := (s.breach (hostMaster h) a d.length).wrMem a d
    if bad then (s.wr 0x10044 (w32 off)).mbErr 5 0 false else s
  else s.bar2Error h true off

/-- A host's read through the window: the bytes, or zeros with the error response (R38). -/
def State.bar2Read (s : State) (h : HostId) (off n : Nat) : State :=
  let a := s.window + off
  if off + n ≤ 0x1000000 && s.sramOk (hostMaster h) false a n then
    let bad := !s.cleanRun false a n
    let s := { s with bus := { data := s.rdMem a n, ur := false } }
    if bad then (s.wr 0x10044 (w32 off)).mbErr 5 0 false else s
  else { s.bar2Error h false off with bus := { data := List.replicate n 0, ur := false } }

/-- BAR2_WRITE (R72). -/
def execBar2Write (host : HostId) (offset : W32) (data : Bytes) (s : State) : Out :=
  .next (s.fromHost host fun s => s.bar2Write host offset.toNat data)

/-- BAR2_ERROR_ACCESS (R38): an access that receives the error response completes normally with data 0, or its write is
discarded. -/
def execBar2ErrorAccess (host : HostId) (write : Bool) (offset : W32) (length : Nat) (s : State) : Out :=
  .next (s.fromHost host fun s =>
    let s := s.bar2Error host write offset.toNat
    if write then s else { s with bus := { data := List.replicate length 0, ur := false } })

/-! ### The Octal SPI target (R39, R41) -/

/-- The SPI target's sub-block is on. -/
abbrev State.spiOn (s : State) : Bool := s.hostOn .hosts

/-- WRITE_ENABLE (R39). -/
def execWriteEnable (s : State) : Out := .next (if s.spiOn then { s with spi := { s.spi with wel := true } } else s)

/-- WRITE_DISABLE (R39). -/
def execWriteDisable (s : State) : Out := .next (if s.spiOn then { s with spi := { s.spi with wel := false } } else s)

/-- READ_STATUS (R39): WIP lasts at most 2 µs after a Page Program and is over here (DESIGN CHOICE, log 1). -/
def execReadStatus (s : State) : Out :=
  .next (if s.spiOn then { s with bus := { data := [BitVec.ofNat 8 (2 * b2n s.spi.wel)], ur := false } } else s)

/-- READ_ID (R39). -/
def execReadId (s : State) : Out :=
  .next (if s.spiOn then { s with bus := { data := leBytes 4 (s.rd 0x10000).toNat, ur := false } } else s)

/-- ENTER_OCTAL_SDR (R39). -/
def execEnterOctalSdr (s : State) : Out := .next (if s.spiOn then { s with spi := { s.spi with octal := true } } else s)

/-- EXIT_OCTAL (R39). -/
def execExitOctal (s : State) : Out := .next (if s.spiOn then { s with spi := { s.spi with octal := false } } else s)

/-- The SPI Reset command (R41). -/
def State.spiReset (s : State) : State := ({ s with spi := { octal := false, wel := false } } : State).resetPairs .hosts

/-- SPI_RESET (R41). -/
def execSpiReset (s : State) : Out := .next (if s.spiOn then s.spiReset else s)

/-- SPI_IGNORED_COMMAND (R39): no effect. -/
def execSpiIgnoredCommand (_code : Byte) (s : State) : Out := .next s

end Sys2Proof.Machine
end

