-- ==== Sys2Proof/Machine/Rot.lean ====
section
/-! DEFINITION. The rotation of roles: instants, the phases of a handover, the cut (17, R481 to R486), and the end of a
switch of a power domain (R469, R470). -/

namespace Sys2Proof.Machine

/-- The self-test of the spare lanes in powered domains at a rotation instant (R486): one that fails is retired. -/
def State.testSpares (s : State) (failing : List Nat) : State :=
  (s.spares.filter failing.contains).foldl (fun t k => (t.retireLane k 2).postFirn 0x0F07 (w32 k) 0 0) s

/-- A rotation instant (R481, R484, R486): deferred while FREEZE is asserted; without effect on roles while a handover
runs; the roles of an activation whose handover was abandoned go before the order (R441). -/
def State.rotInstant (s : State) (failing : List Nat) : State :=
  let s := s.testSpares failing
  if s.frozen then { s with pwr := { s.pwr with rotRetry := true } }
  else if s.rotPhase ≠ 0 then s
  else
    match s.boot.activating with
    | some a =>
      if a.later.isEmpty then s.startNext
      else ({ s with boot := { s.boot with activating := some { a with roles := a.roles ++ a.later, later := [] } } } : State).advance
    | none => s.startNext

/-- Rotation runs: enabled, with a reserve (R18, R481). -/
def State.rotating (s : State) : Bool := s.bit aRotCtrl 0 && s.hasRsv

/-- The next rotation instant falls one interval after an instant. -/
def State.setRotNext (s : State) (t : Nat) : State := s.wr64 aRotNext (w64 (t + (s.rd aRotInterval).toNat * 1000000000))

/-- SYS_ROTATE (R491): the lanes that fail the test of the instant that it makes are the outside's. -/
def execSysRotate (i : Issue) (interval : W32) (now : Byte) (s : State) : Out :=
  .next (s.hostCmd { op := 0x0107, plen := 5, frozenNo := true } i fun s =>
    let n := interval.toNat
    s.checked i [(!(n == 0 || decide (3600 ≤ n ∧ n ≤ 2592000)) || decide (now.toNat > 1), eParam),
                 (s.rotPhase != 0 || !s.hasRsv, eState)] fun s =>
      let s := (s.wr aRotInterval interval).setBit aRotCtrl 0 (n != 0)
      let s := if n = 0 then s.wr64 aRotNext 0 else s.setRotNext s.now
      (if now = 1 then s.rotInstant i.env.badLanes.lanes else s).done i eOk)

/-- ROTATION_INSTANT (R481). -/
def execRotationInstant (at_ : Nat) (failing : LaneList) (s : State) : Out :=
  .next (
    let s := s.reach at_
    if !s.rotating || decide (at_ < (s.rd64 aRotNext).toNat) then s
    else (s.setRotNext at_).rotInstant failing.lanes)

/-- ROTATION_NOW (R481): PCR_ROT_CTRL.NOW is open to Firn. -/
def execRotationNow (master : Master) (failing : LaneList) (s : State) : Out :=
  .next (s.atReg master aRotCtrl fun s => if master = .firn ∧ s.hasRsv then s.rotInstant failing.lanes else s)

/-- The role of an activation in progress has ended its handover: the next one follows (R441). -/
def State.activationStep (s : State) : State :=
  ({ s with boot := { s.boot with activating := s.boot.activating.map fun (a : Activation) => { a with current := none } } } : State).advance

/-- BIST_DONE (R482, R484): the reserve passes and takes the role's firmware and its copied state, up to the wait for a
window; a firmware that does not match its DIGEST is not loaded, and the handover stays in its phase 2 (DEDUCED, log 51). Or it
fails, is retired, and the handover is abandoned. In phase 6 the old tile becomes the reserve or is retired. -/
def execBistDone (passed : Bool) (s : State) : Out :=
  .next (match s.rotPhase with
    | 1 =>
      if passed then s.setFld aRotState 2 0 (if s.componentOk (roleComponent s.rotRole) then 4 else 2)
      else
        let v := s.rotDst
        ((s.abandonHandover 1).retireTile v 1).advance
    | 6 =>
      let t := s.rotSrc
      let s := s.endHandover
      (if passed then s else s.retireTile t 1).activationStep
    | _ => s)

/-- The instants of the next releases of a role's tasks, as the state of the runtime has them (R218, R231, R239). -/
def State.nextReleases (s : State) (role : Nat) : List Nat :=
  let from_ := fun (p : Option Program) (t : Nat) => ((p.map fun q => q.tasks).getD []).filterMap fun d =>
    if d.role = role then some (nextRelease d (max t s.cyc.first)) else none
  match s.cycState with
  | 2 => from_ s.cyc.act s.now
  | 3 => ((from_ s.cyc.act s.now).filter fun t => decide (t < s.switchAt)) ++ from_ s.cyc.pend (max s.now s.switchAt)
  | _ => []

/-- R241: no task of the role is in its cycle, and the next release of one lies at least 60 µs ahead. -/
def State.cycWindow (s : State) (role : Nat) : Bool :=
  ((List.range 16).all fun t => !(s.inCycle t && (s.defOfTask t).any fun d => d.role == role)) &&
  (s.nextReleases role).all fun t => decide (s.now + 60000 ≤ t)

/-- The instant lies inside the times of a round or a commit that R483 keeps free of the cut of SEQ. -/
def State.seqBusy (s : State) : Bool :=
  match s.bidSpan, s.periodAt (s.now + 2000000) with
  | some span, some k =>
    let upd := if s.isHead then leAt (s.drift.hd.net.getD []) 20 4 * 1000 else 0
    [k - 1, k].any fun j =>
      ((List.range s.rounds).any fun i =>
        let t := s.roundAt j (i + 1)
        decide (t ≤ s.now + 1000000 ∧ s.now ≤ t + span + upd)) ||
      (let t := s.commitAt j
       decide (t ≤ s.now + 2000000 ∧ s.now ≤ t + 2000000))
  | _, _ => false

/-- R483 for a NET role: no descriptor of the CPU port's transmit ring that waits for its queue has a launch time within
1 ms. -/
def State.netWindow (s : State) : Bool :=
  (List.range ((s.fld 0x8001C 7 0 + 256 - s.port.txIdx) % 256)).all fun i =>
    let d := (s.rd 0x80018).toNat + 32 * ((s.port.txIdx + i) % 256)
    let launch := s.rdLe (d + 8) 8
    launch == 0 || decide (s.now + 1000000 < launch)

/-- A calculator's step may end within 1 ms, with which its commit falls due (R273, R275). -/
def State.calcStepDue (s : State) : Bool :=
  s.bit 0x50004 0 && (s.rd 0x5000C).toNat % 10 == 9 && s.mtr.nextEnd.any fun t => decide (t ≤ s.now + 1000000)

/-- The window of a role (R483), as far as the state tells; when MTR commits a step that has ended is the outside's. -/
def State.cutWindow (s : State) (k : Nat) : Bool :=
  if k ≤ 3 then s.cycWindow k
  else if k = 7 then s.queueOrder.isEmpty && !s.seqBusy
  else if k = 4 ∨ k = 5 then s.netWindow
  else !s.calcStepDue

/-- The cut (R482): the tiles swap identifiers, the old tile starts its self-test, the record. A thermal migration counts
as a rotation of its role (R477). -/
def State.cut (s : State) : State :=
  let k := s.rotRole
  let src := s.rotSrc
  let dst := s.rotDst
  let s := ((s.setRoleTile k dst).setRsv src).setFld aRotState 2 0 6
  let s := (s.setBit aRoleVer k true).postFirn 0x0110 (w32 k) (w32 src) (w32 dst)
  if !s.pwr.rotThermal then { s with pwr := { s.pwr with pos := (k + 1) % 8 } }
  else if s.migrating then
    { s with pwr := { s.pwr with counted := insNat s.pwr.counted k, thermalAt := some s.now } }
  else s

/-- ROTATE (R482, R483). -/
def execRotate (dirty : Nat) (window : Bool) (s : State) : Out :=
  .next (if s.rotPhase == 4 && window && decide (dirty ≤ 256) && !s.frozen && s.cutWindow s.rotRole then s.cut else s)

/-- ROTATE_ABANDON (R484, R241): no window within 10 s of the instant. -/
def execRotateAbandon (s : State) : Out :=
  .next (if 1 ≤ s.rotPhase ∧ s.rotPhase ≤ 4 then
    ((s.reach (s.pwr.rotSince + 10000000000)).abandonHandover 2).advance else s)

/-! ### The end of a domain's switch -/

/-- Zero a run of memory that a domain loses. -/
def State.dropMem (s : State) (lo hi : Nat) : State :=
  { s with mem := s.mem.filter fun c => !(decide (lo ≤ c.1) && decide (c.1 < hi)),
           poison := s.poison.filter fun w => !(decide (lo ≤ w) && decide (w < hi)) }

/-- The registers of an address range go back to their reset values. -/
def State.dropRegs (s : State) (lo hi : Nat) : State :=
  { s with regs := s.regs.filter fun c => !(decide (lo ≤ regOffset c.1) && decide (regOffset c.1 < hi)) }

/-- What a domain's switch-on ends with (R469): lane domains test and map their lanes; the LPDDR4X is initialised. The
answer is whether it succeeds. -/
def State.switchedOn (s : State) (c : Nat) (f : LaneList) : State × Bool :=
  if c = 0x0C ∨ c = 0x0D then (s.testLanes c f.lanes, true)
  else if c = 0x16 ∧ (s.chip.ddrSize = 0 ∨ f.ddrCode < s.chip.ddrSize) then ((s.setBit aDomOn c false).setBit aDomReq c false, false)
  else (s, true)

/-- What a domain's switch-off ends with (R470): its contents and the values of its registers. -/
def State.switchedOff (s : State) (c : Nat) : State :=
  if c = 0x0C then (s.dropLanes c).dropMem 0x20000000 0x20440000
  else if c = 0x0D then (s.dropLanes c).dropMem 0x20440000 0x20880000
  else if 0x10 ≤ c ∧ c ≤ 0x13 then
    let p := c - 0x10
    let s := (s.removeFrames p (fun _ => true) 5).dropRegs (pReg p 0x100) (pReg p 0x200)
    { s with port := { s.port with
      addr := s.port.addr.filter fun (e : MacEntry) => e.port != p
      sas := s.port.sas.filter fun (a : MacSa) => a.port != p
      gates := s.port.gates.filter fun (g : Nat × Gate) => g.1 / 8 != p
      gatesNext := s.port.gatesNext.filter fun (g : Nat × Nat × Gate) => g.1 / 8 != p } }
  else if c = 0x14 then s.linkReset
  else if c = 0x15 then s.spiReset
  else s.dropMem 0x100000000 0x200000000

/-- DOMAIN_SWITCH (R469, R470): a switch in progress ends, with the record and the command's completion; an LPDDR4X that
fails its initialisation stays off and the command fails (R468, R512). -/
def execDomainSwitch (domain : Byte) (failing : LaneList) (s : State) : Out :=
  .next (match s.pwr.switching.find? fun d => d.code == domain.toNat with
    | none => s
    | some d =>
      let s := { s with pwr := { s.pwr with switching := s.pwr.switching.filter fun e => e != d } }
      let s := s.setBit aDomBusy d.code false
      let (s, ok) :=
        if d.turnOn then (s.setBit aDomOn d.code true).switchedOn d.code failing
        else (((s.setBit aDomOn d.code false).switchedOff d.code).countLanes failing.corrected, true)
      let s := s.postFirn 0x0F01 (w32 d.code) (w32 (b2n (s.bit aDomOn d.code))) (w32 ((s.now - d.since) / 1000))
      s.finishAll (fun c => match c with | .pwrDomainSet _ dom _ => dom == domain | _ => false) (if ok then eOk else eState) 0 0 0)

end Sys2Proof.Machine
end

