-- ==== Sys2Proof/Machine/Time.lean ====
section
/-! DEFINITION. The TIME class commands and the events of the time base, the servo, PPS and the TEVT pins (09). -/

namespace Sys2Proof.Machine

/-- TIME_READ (R287): the value after the second TIMECLK edge. -/
def execTimeRead (i : Issue) (s : State) : Out :=
  .next (s.hostCmd { op := 0x0701, plen := 0 } i fun s =>
    let s := s.timeEdges 2
    s.complete i eOk (lo32 s.time.ns) (hi32 s.time.ns) s.time.frac)

/-- The row behind a TIME_SET is a SERVO_STEP of a master that may request one: both are evaluated on the same edge, since no
time passes between two rows without an instant (DESIGN CHOICE, log 81). -/
def State.servoWins (s : State) : Bool :=
  match s.pending with
  | .servoStep m :: _ => s.servoWriter m && (s.regDenied m 0x60028 true).isNone
  | _ => false

/-- TIME_SET (R293): the step is taken at the third TIMECLK edge after the register write; a servo request that is evaluated
on that edge wins. -/
def execTimeSet (i : Issue) (ns : W64) (s : State) : Out :=
  .next (s.hostCmd { op := 0x0702, plen := 8 } i fun s =>
    s.checked i [(s.timeState != 0 || s.time.pendStep.isSome || s.servoWins, eState)] fun s =>
      ((s.edges 3).takeStep ns 1).done i eOk)

/-- ADJ in ppb, rounded half away from zero (R314): ADJ * 10^9 / 17,179,869,184. -/
def adjPpb (adj : Int) : Int :=
  let m := (adj.natAbs * 1000000000 * 2 + 17179869184) / (2 * 17179869184)
  if adj < 0 then -m else m

/-- TIME_STATE (R314). -/
def execTimeState (i : Issue) (s : State) : Out :=
  .next (s.hostCmd { op := 0x0703, plen := 0 } i fun s =>
    s.complete i eOk (w32 (s.fld 0x60004 7 0)) (s.rd 0x60024) (i32 (adjPpb (s.rd 0x60020).toInt)))

/-- TIME_PORT_CORR (R298). -/
def execTimePortCorr (i : Issue) (port : Byte) (ingress : W32) (egress : W32) (asymmetry : W32) (s : State) : Out :=
  .next (s.hostCmd { op := 0x0704, plen := 13 } i fun s =>
    s.checked i [(decide (port.toNat > 3) || ingress.msb || egress.msb, eParam)] fun s =>
      let p := port.toNat
      (((s.wr (tpReg p 0x100) ingress).wr (tpReg p 0x104) egress).wr (tpReg p 0x108) asymmetry).done i eOk)

/-- A signed byte of a buffer. -/
def sByte (b : Bytes) (o : Nat) : Int := (b.getD o 0).toInt
/-- An unsigned byte of a buffer. -/
def uByte (b : Bytes) (o : Nat) : Nat := (b.getD o 0).toNat

/-- The fields of a TIME_PTP_CONFIG buffer. -/
def ptpOf (b : Bytes) : PtpCfg :=
  { clockType := uByte b 2, domain := uByte b 3, refsrc := uByte b 4, servoRole := uByte b 5, delayMech := uByte b 6,
    stepMode := uByte b 7, portEn := b.getD 8 0, tcEn := (b.getD 9 0).getLsbD 0, priority1 := uByte b 10,
    priority2 := uByte b 11, clockClass := uByte b 12, accuracy := uByte b 13, logSync := sByte b 14,
    logMinDelay := sByte b 15, logAnnounce := sByte b 16, annTimeout := uByte b 17, slaveOnly := uByte b 18 == 1,
    oslv := leAt b 26 2, lockLimit := leAt b 20 4, lockCount := uByte b 24, faultCount := uByte b 25,
    holdLimit := leAt b 28 4, ppsMode := uByte b 32, ppsWidth := leAt b 36 4, ppsCorr := (w32 (leAt b 40 4)).toInt,
    utcOffset := (BitVec.ofNat 16 (leAt b 44 2)).toInt }

/-- Every field of a PTP configuration lies in its range (R301, table of TIME_PTP_CONFIG). -/
def ptpOk (c : PtpCfg) : Bool :=
  decide (c.clockType ≤ 1) && decide (c.domain ≤ 127) && decide (c.refsrc ≤ 2) && decide (c.servoRole ≤ 1) &&
  decide (c.delayMech ≤ 1) && decide (c.stepMode ≤ 1) && decide (c.portEn.toNat ≤ 15) &&
  decide (-4 ≤ c.logSync ∧ c.logSync ≤ 4) && decide (-4 ≤ c.logMinDelay ∧ c.logMinDelay ≤ 6) &&
  decide (0 ≤ c.logAnnounce ∧ c.logAnnounce ≤ 4) && decide (2 ≤ c.annTimeout ∧ c.annTimeout ≤ 10) &&
  decide (100 ≤ c.lockLimit ∧ c.lockLimit ≤ 1000000) && decide (1 ≤ c.lockCount) && decide (1 ≤ c.faultCount) &&
  decide (1 ≤ c.holdLimit ∧ c.holdLimit ≤ 86400) && decide (c.ppsMode ≤ 2) &&
  decide (1 ≤ c.ppsWidth ∧ c.ppsWidth ≤ 500000) && decide (-500000000 ≤ c.ppsCorr ∧ c.ppsCorr ≤ 500000000)

/-- The reserved and Boolean bytes of a TIME_PTP_CONFIG buffer are in range. -/
def ptpBytesOk (b : Bytes) : Bool :=
  decide (uByte b 9 ≤ 1) && decide (uByte b 18 ≤ 1) && decide (uByte b 19 ≤ 2) && leAt b 33 3 == 0 && leAt b 46 2 == 0

/-- The status of a TIME_PTP_CONFIG buffer, in the order of R303. -/
def ptpStatus (b : Bytes) : Nat :=
  if b.length < 48 then eParam
  else if leAt b 0 2 ≠ 1 then eVersion
  else if uByte b 19 = 1 ∨ uByte b 19 = 2 then eNotsupp
  else if !ptpOk (ptpOf b) || !ptpBytesOk b then eParam
  else eOk

/-- PPS_MODE 0 holds PPS_OUT low (R310). -/
def State.settlePps (s : State) : State :=
  if s.fld 0x60060 1 0 = 0 then { s with time := { s.time with ppsOut := none } } else s

/-- A PTP configuration comes into force (R303): the limits stand in the TIME registers, and a change of DOMAIN,
CLOCK_TYPE, DELAY_MECH, PORT_EN or SERVO_ROLE restarts the PTP state of every port. With REFSRC 0 HOLDOVER is never set
(R289). -/
def State.setPtp (s : State) (c : PtpCfg) : State :=
  let o := s.time.ptp
  let again := o.domain != c.domain || o.clockType != c.clockType || o.delayMech != c.delayMech ||
    o.portEn != c.portEn || o.servoRole != c.servoRole
  let s := { s with time := { s.time with ptp := c, ptpRestarts := s.time.ptpRestarts + b2n again } }
  let s := if c.refsrc = 0 then s.setBit 0x60004 3 false else s
  State.settlePps <| s.wrAll [(0x60040, w32 c.lockLimit), (0x60044, w32 (c.lockCount + c.faultCount * 256)), (0x60048, w32 c.holdLimit),
           (0x60060, w32 c.ppsMode), (0x60064, w32 c.ppsWidth), (0x60068, i32 c.ppsCorr)]

/-- TIME_PTP_CONFIG (R303). -/
def execTimePtpConfig (i : Issue) (buf : Buf) (s : State) : Out :=
  .next (s.hostCmd { op := 0x0705, plen := 8 } i fun s =>
    s.checked i [(!s.bufOk i.host false buf, eAccess)] fun s =>
      let st := ptpStatus (s.rdBuf buf)
      s.checked i [(st != eOk, st)] fun s => (s.setPtp (ptpOf (s.rdBuf buf))).done i eOk)

/-- Set a TEVT pin's mode (R312): a change flushes its FIFO and drives an output low. -/
def State.setEvMode (s : State) (k mode : Nat) : State :=
  if s.fld (tpReg k 0x200) 2 0 = mode then s
  else
    let s := (s.flushFifo k false).wr (tpReg k 0x200) (w32 mode)
    { s with time := { s.time with evOut := kdel s.time.evOut k } }

/-- TIME_EVENT_CONFIG (R312). -/
def execTimeEventConfig (i : Issue) (pin : Byte) (mode : Byte) (s : State) : Out :=
  .next (s.hostCmd { op := 0x0706, plen := 2 } i fun s =>
    s.checked i [(decide (pin.toNat > 3) || decide (mode.toNat > 5), eParam)] fun s =>
      (s.setEvMode pin.toNat mode.toNat).done i eOk)

/-- A servo step request with its copy of STEP_AT and STEP_VAL (R293): it becomes pending in UNSET, with no other pending and
STEP_AT ahead; otherwise it is refused. -/
def State.requestStep (s : State) (at_ val : W64) : State :=
  if s.timeState = 0 ∧ s.time.pendStep = none ∧ s.now < at_.toNat then
    ({ s with time := { s.time with pendStep := some (at_, val) } } : State).setBit 0x60004 5 true
  else (s.setBit 0x60004 6 true).postHw 0x0707 (w32 s.timeState) (lo32 at_) 0

/-- A write of TIME_SERVO_CTRL by the SERVO_ROLE or Firn (R291 to R293): STEP_CANCEL acts as it lands (DESIGN CHOICE, log 81);
UPDATE and STEP are evaluated at the third TIMECLK edge, STEP with STEP_AT and STEP_VAL as they stood when it landed. -/
def State.servoCtrl (s : State) (m : Master) (update step cancel : Bool) : State :=
  if !s.servoWriter m then s
  else
    let s := if cancel then ({ s with time := { s.time with pendStep := none } } : State).setBit 0x60004 5 false else s
    if !update && !step then s
    else
      let at_ := s.rd64 0x60030
      let val := s.rd64 0x60038
      let s := s.timeEdges 3
      let s := if update then s.update else s
      if step then s.requestStep at_ val else s

/-- SERVO_UPDATE (R292). -/
def execServoUpdate (master : Master) (s : State) : Out :=
  .next (s.atReg master 0x60028 fun s => s.servoCtrl master true false false)

/-- SERVO_STEP (R293). -/
def execServoStep (master : Master) (s : State) : Out :=
  .next (s.atReg master 0x60028 fun s => s.servoCtrl master false true false)

/-- STEP_CANCEL (R293). -/
def execStepCancel (master : Master) (s : State) : Out :=
  .next (s.atReg master 0x60028 fun s => s.servoCtrl master false false true)

/-- STEP_TAKEN (R293, R294). -/
def execStepTaken (s : State) : Out := .next s.stepDue

/-- ADJ is clamped to ±8,589,934 (R286). -/
def clampAdj (v : Int) : Int := max (-8589934) (min 8589934 v)

/-- ADJ_WRITE (R286): a clamped value sets ADJ_CLAMP and writes a record; the change takes effect at the third TIMECLK
edge. -/
def execAdjWrite (master : Master) (value : W32) (s : State) : Out :=
  .next (s.atReg master 0x60020 fun s => if s.servoWriter master then
    let c := i32 (clampAdj value.toInt)
    let s := if c = value then s else (s.setBit 0x60004 4 true).postHw 0x0706 value c 0
    ((s.timeEdges 2).wr 0x60020 c).timeEdges 1
  else s)

/-- TIME_NOW_CAPTURE (R287): the reader's own copy of all 96 bits after the second TIMECLK edge; the read returns the low
word. -/
def execTimeNowCapture (master : Master) (s : State) : Out :=
  .next (s.atRead master 0x60010 fun s =>
    let m := masterId master
    let s := (s.timeEdges 2).freshHi master 0x60010
    let v := s.time
    (s.wrAll [(bankKey 0x60010 m, lo32 v.ns), (bankKey 0x60014 m, hi32 v.ns), (bankKey 0x60018 m, v.frac)]).answer
      (leBytes 4 (lo32 v.ns).toNat))

/-- The instant at which no update has come for `d` ns; where none has come since reset, that instant has passed (DEDUCED,
log 68). -/
def State.noUpdateFor (s : State) (d : Nat) : State :=
  match s.time.lastUpd with
  | some t => s.reach (t + d).toNat
  | none => s

/-- LOCK_LOST (R288): in LOCKED no update has come for HOLD_LIMIT seconds. -/
def execLockLost (s : State) : Out :=
  .next (
    if s.timeState = 2 ∧ s.time.ptp.refsrc ≠ 0 then
      let s := s.noUpdateFor ((s.rd 0x60048).toNat * 1000000000)
      (s.setTimeState 1).postHw 0x0703 s.sinceUpd (s.rd 0x60020) 0
    else s)

/-- HOLDOVER (R289): in LOCKED no update has come for 1 s. -/
def execHoldover (s : State) : Out :=
  .next (if s.timeState = 2 ∧ s.time.ptp.refsrc ≠ 0 then (s.noUpdateFor 1000000000).setBit 0x60004 3 true else s)

/-- PPS_IN_EDGE (R311): the stamp is the edge's time less 12 ns. -/
def execPpsInEdge (at_ : Nat) (s : State) : Out :=
  .next (
    let s := s.reach at_
    let s := (s.wr64 0x60070 (s.time.ns - 12)).wr 0x60078 s.time.frac
    ({ s.count 0x6007C 1 with time := { s.time with ppsInAt := s.now } } : State).setBit 0x60004 7 false)

/-- PPS_IN_LOSS (R311): no edge has come for 2 s. -/
def execPpsInLoss (s : State) : Out :=
  .next (
    if s.bit 0x60004 7 then s
    else ((s.reach (s.time.ppsInAt + 2000000000).toNat).setBit 0x60004 7 true).postHw 0x070A (s.rd 0x6007C) 0 0)

/-- The time base stands at the first TIMECLK edge at which NS has reached `t`, and has not stepped over `t` (R294, R310). -/
def State.firstEdgeOf (s : State) (t : Nat) : Bool :=
  decide (t * 2 ^ 32 ≤ s.instant ∧ s.instant < t * 2 ^ 32 + s.inc) &&
  (s.timeState == 0 || decide ((s.rd64 0x60058).toNat ≤ t))

/-- PPS_OUT_PULSE (R310): the instant k * 10^9 + PPS_CORR; the output rises 2 TIMECLK later, if the mode allows it. -/
def execPpsOutPulse (at_ : Nat) (s : State) : Out :=
  .next (
    let s := s.reach at_
    let mode := s.fld 0x60060 1 0
    if s.firstEdgeOf at_ ∧ ((at_ : Int) - (s.rd 0x60068).toInt) % 1000000000 = 0 ∧ (mode = 1 ∨ (mode = 2 ∧ s.timeState = 2)) then
      let s := s.timeEdges 2
      { s with time := { s.time with ppsOut := some ((s.now : Int) + (s.rd 0x60064).toNat * 1000) } }
    else s)

/-- A stamp enters a TEVT FIFO of 16, or is lost (R312). -/
def State.pushStamp (s : State) (k : Nat) (v : W64) : State :=
  let l := kget [] s.time.fifo k
  if l.length < 16 then
    ({ s with time := { s.time with fifo := kset s.time.fifo k (l ++ [v]) } } : State).setFld (tpReg k 0x21C) 4 0 (l.length + 1)
  else s.setBit (tpReg k 0x21C) 8 true

/-- TEVT_CAPTURE (R312). -/
def execTevtCapture (pin : Byte) (rising : Bool) (at_ : Nat) (s : State) : Out :=
  .next (
    let s := s.reach at_
    let k := pin.toNat
    let mode := s.fld (tpReg k 0x200) 2 0
    if k < 4 ∧ (mode = 3 ∨ (mode = 1 ∧ rising) ∨ (mode = 2 ∧ !rising)) then s.pushStamp k (s.time.ns - 12) else s)

/-- The compare of a pin fires at the TIMECLK edge that the time base stands at, for the instant `at_` (R312): in mode 4 at the
first edge at which NS ≥ CMP, in mode 5 at the first of each of CMP and every PERIOD after it. -/
def State.compareDue (s : State) (k at_ : Nat) : Bool :=
  let cmp := (s.rd64 (tpReg k 0x204)).toNat
  let period := (s.rd (tpReg k 0x210)).toNat
  let mode := s.fld (tpReg k 0x200) 2 0
  s.time.armed.getLsbD k && decide (cmp ≤ at_) &&
  ((mode == 4 && decide (cmp ≤ s.now)) || (mode == 5 && decide (1000 ≤ period ∧ period ≤ 4000000000) &&
    decide ((s.rd (tpReg k 0x20C)).toNat < period) && (at_ - cmp) % period == 0 && s.firstEdgeOf at_))

/-- The instant up to which time passes for a compare that is due by `at_` (R312): CMP in mode 4, where a compare that is armed
and past fires at once. -/
def State.compareAt (s : State) (k at_ : Nat) : Nat :=
  if s.fld (tpReg k 0x200) 2 0 = 4 then min at_ (s.rd64 (tpReg k 0x204)).toNat else at_

/-- TEVT_COMPARE (R312): the pin rises 2 TIMECLK after the edge and falls WIDTH ns later; mode 4 fires once. -/
def execTevtCompare (pin : Byte) (at_ : Nat) (s : State) : Out :=
  .next (
    let k := pin.toNat
    let s := s.reach (s.compareAt k at_)
    if k < 4 ∧ s.compareDue k at_ then
      let s := s.timeEdges 2
      let t := s.time
      { s with time := { t with
        evOut := kset t.evOut k ((s.now : Int) + (s.rd (tpReg k 0x20C)).toNat)
        armed := if s.fld (tpReg k 0x200) 2 0 = 4 then t.armed &&& ~~~(1#4 <<< k) else t.armed } }
    else s)

/-- The masters of the *Event* fields (09, TIME registers). -/
def eventWriter (m : Master) : Bool := (0x00FD : BitVec 16).getLsbD (masterId m)

/-- TEVT_ARM (R312): a write of CMP_HI arms the compare. -/
def execTevtArm (master : Master) (pin : Byte) (value : W32) (s : State) : Out :=
  .next (
    let k := pin.toNat
    if k ≥ 4 then s else
    s.atReg master (tpReg k 0x208) fun s => if eventWriter master then
      let s := s.wr (tpReg k 0x208) value
      { s with time := { s.time with armed := s.time.armed ||| (1#4 <<< k) } }
    else s)

/-- TEVT_FIFO_READ (R313): the read of _LO removes the oldest stamp and captures _HI for the reader. -/
def execTevtFifoRead (master : Master) (pin : Byte) (s : State) : Out :=
  .next (
    let k := pin.toNat
    s.atRead master (0x60214 + 0x20 * k) fun s =>
      match kget [] s.time.fifo k with
      | [] => s.answer (leBytes 4 0)
      | v :: t =>
        let s := { s with time := { s.time with fifo := kset s.time.fifo k t } }
        let s := ((s.setFld (tpReg k 0x21C) 4 0 t.length).freshHi master (tpReg k 0x214)).wr (bankKey (tpReg k 0x218) (masterId master)) (hi32 v)
        s.answer (leBytes 4 (lo32 v).toNat))

end Sys2Proof.Machine
end

