-- ==== Sys2Proof/Machine/BootOps.lean ====
section
/-! DEFINITION. Resets and the start: what a reset keeps, the choice of the slot, and what Firn does up to READY (15, R424 to
R427, R442 to R445; 17, R477 to R481 and the table of reset types). A start is one command: its instants up to READY are
maxima (R480), and none of them shows (DESIGN CHOICE, log 28). -/

namespace Sys2Proof.Machine

/-- A register keeps its value over a power-on reset (`power`) or a system reset, `aon` while PD0 AON kept power. -/
def keptReg (power aon : Bool) (a : Nat) : Bool :=
  match (regRow a).map (fun (r : RegRow) => r.keep) with
  | some .powerOn => !power
  | some .aon => aon
  | some .mram => true
  | _ => false

/-- The part of CAL_STATUS that PD0 AON keeps: the calendar's own flags, not CAPDONE, DSTREJ, STGERR and BATLOW (10). -/
def calKept : W32 := 0xF7F

/-- The Guard after a reset (R454, R456, R463): the root and its GEN, which counts in slot 0 while debug masks the root, the
BAD map, ROOT_ID, modes and latches stand in PD0 AON; the records in the configuration store. `badSlots` fail the test of
their storage: a power-on reset tests the slots that are BAD, a start after PD0 AON has lost power every slot. -/
def KeySt.afterReset (k : KeySt) (power aon : Bool) (badSlots : List Nat) : KeySt :=
  let zero := (kfind k.slots 0).getD emptySlot
  let root := { k.masked.getD zero with gen := zero.gen }
  let bad := fun n => if !aon then badSlots.contains n
    else ((kfind k.slots n).getD emptySlot).bad && (!power || badSlots.contains n)
  let slots := (List.range 128).filterMap fun n => if n != 0 && bad n then some (n, { emptySlot with bad := true }) else none
  if aon then
    { k with slots := kset slots 0 { root with bad := bad 0, key := if bad 0 then List.replicate 32 0 else root.key,
                                               valid := root.valid && !bad 0 }
             masked := none, debug := false, scope := 0, refused := 0 }
  else { KeySt.init with slots := slots, records := k.records, live := k.live, challenge := k.challenge, lfsr := k.lfsr,
                           deviceKey := k.deviceKey }

/-- What a reset leaves (17, reset types): MRAM, what PD0 AON holds while it has power, and on a system reset what stands
until the next power-on. The calendar, the log's count and the markers lie in PD0 AON. -/
def State.cleared (s : State) (power aon : Bool) (badSlots : List Nat) : State :=
  let mram := fun (a : Nat) => decide (0x10000000 ≤ a ∧ a < 0x12000000)
  let cnt := s.fld 0x10010 31 24
  let calStatus := s.rd aCalStatus &&& calKept
  let t : State :=
    { s with
      mem := s.mem.filter fun c => mram c.1
      poison := s.poison.filter mram
      regs := s.regs.filter fun r => keptReg power aon r.1
      mb := { Mb.init with msix := s.mb.msix, last := s.mb.last }
      spi := { octal := false, wel := false }
      acc := []
      fault := .init
      log := { LogSt.init with unset := !aon || s.log.unset, written := aon && s.log.written, tail := if aon then s.logNext else 0 }
      boot := { s.boot with
        opened := none, blocks := [], tx := [], activating := none, goodDone := false
        rx := s.boot.rx.map fun (r : AvRx) => { r with held := r.saved, block := 0, frags := [] } }
      key := { s.key.afterReset power aon badSlots with lfsrAt := s.key.lfsrAt - s.now }
      jtag := if power then { ir := 0x01, dr := [] } else s.jtag
      pwr := { PwrSt.init with pos := if aon then s.pwr.pos else 0, rows := s.pwr.rows, remap := s.pwr.remap,
                                roleLost := if power then 0 else s.pwr.roleLost }
      time := .init
      pair := .init
      port := .init
      cyc := { CycSt.init with act := s.cyc.act, pend := s.cyc.pend, stored := s.cyc.stored, longest := if power then [] else s.cyc.longest }
      solv := .init
      io := .init
      loop := .init
      drift := .init
      mtr := .init
      cal := if aon then { s.cal with shadows := [], meas := none, began := s.cal.began - s.now, edgeAt := none } else .init
      halves := { lows := [], shadows := [] } }
  let t := if power then t else t.setFld 0x10010 31 24 cnt
  if aon then t.wr aCalStatus calStatus else t

/-- PCR_RSTCAUSE and PCR_RSTCNT (R478). -/
def State.noteReset (s : State) (cause : Nat) : State :=
  let s := s.wr 0xE0020 (w32 (cause + s.fld 0xE0020 7 0 * 256))
  if cause = 1 then s.setFld 0xE0024 31 16 (s.fld 0xE0024 31 16 + 1)
  else if cause < 0x10 then s.setFld 0xE0024 15 0 (s.fld 0xE0024 15 0 + 1)
  else s

/-! ### Bedrock -/

/-- The slot that Bedrock takes next (R425 step 2): TRIAL, then GOOD with the higher VERSION, then STAGED, A before B. -/
def State.pickSlot (s : State) : Option Nat :=
  let has := fun (k st : Nat) => s.slotState k == st
  if has 0 slTrial then some 0
  else if has 1 slTrial then some 1
  else if has 0 slGood || has 1 slGood then
    some (if has 0 slGood && (!has 1 slGood || decide ((s.slotVersion 1).toNat ≤ (s.slotVersion 0).toNat)) then 0 else 1)
  else if has 0 slStaged then some 0
  else if has 1 slStaged then some 1
  else none

/-- R425 steps 2 to 7: each slot taken counts its attempt; one that has had its three attempts, or that fails its
verification, is FAILED with a record, and the choice goes on. The cause of a BOOT_FAIL at the fourth attempt is not given:
it is a free value (DESIGN CHOICE, log 4). `n` bounds the search. -/
def State.chooseSlot (s : State) : Nat → State × Option Nat
  | 0 => (s, none)
  | n + 1 =>
    match s.pickSlot with
    | none => (s, none)
    | some k =>
      let s := (s.setAttempts k (s.attempts k + 1)).bootWrite
      let a := s.attempts k
      if a ≥ 4 then
        let c := s.drawn
        (((s.draw).setSlotState k slFailed).bootWrite.postFirn 0x0D02 (w32 k) (lo32 c) (w32 a)).chooseSlot n
      else
        match s.slotVerify k with
        | some step => (((s.setSlotState k slFailed).bootWrite).postFirn 0x0D02 (w32 k) (w32 step) (w32 a)).chooseSlot n
        | none => (s, some k)

/-- The region of each host at start-up: the whole window, for reading and writing (R74). -/
def hostRegions : List AccEntry := [⟨0, 11, 0, 0x01000000, 0x01FFFFFF, 3⟩, ⟨0, 12, 0, 0x01000000, 0x01FFFFFF, 3⟩]

/-- EPOCH and the claim at every reset (R365), under the stored pair configuration. -/
def State.loadEpoch (s : State) : State :=
  let c := s.conf.pair
  let s := { s with pair := { s.pair with cfg := c } }
  s.setEpoch (max (s.rd aEpoch).toNat (max s.conf.epoch c.epochMin))

/-- Bedrock recovery (R444): RECOVERY and READY; every output stays at high impedance; T1L port 0 is brought up with
auto-negotiation and serves Avalanche under the record's address and SYSID (DEDUCED, log 29). The hosts hold the regions of
R74, for the commands that R70 serves (DEDUCED, log 29). -/
def State.enterRecovery (s : State) (cause : Nat) : State :=
  let s := (({ s with acc := hostRegions } : State).showLanes).loadEpoch
  let s := (s.setBit aDomOn 0x10 true).setBit aDomReq 0x10 true
  let s := (s.setFld 0x80008 13 0 s.conf.address.toNat).wr 0x8000C (w32 s.conf.sysid.toNat)
  let s := (s.setBit aBootState 9 true).postFirn 0x0D03 (w32 cause) 0 0
  (s.status 2 true).status 0 true

/-! ### The start of Firn -/

/-- FIRN's entries grant all of its hardwired paths (R448), W and X in entries of their own. -/
def State.firnEntries (s : State) : List AccEntry :=
  let ddr := ddrBytes s.chip.ddrSize - 1
  [⟨0, 0, 0, 0, 0x01FFFFFF, 3⟩, ⟨0, 0, 1, 0, 0x01FFFFFF, 4⟩, ⟨1, 0, 0, 0, 0x01FFFFFF, 3⟩, ⟨2, 0, 0, 0, 0x0087FFFF, 3⟩,
   ⟨3, 0, 0, 0, ddr, if s.chip.ddrSize = 0 then 0 else 3⟩, ⟨3, 0, 1, 0, ddr, if s.chip.ddrSize = 0 then 0 else 4⟩] ++
  ((List.range 17).filter fun b => b != 0 && b != 0xD).map fun b => (⟨0x10 + b, 0, 0, 0, 0xFFFF, 3⟩ : AccEntry)

/-- The default access tables (R448): FIRN's own entries, the writers and readers of R27, the runtime areas of R220, which HWENG
and the CYC roles alone reach, the areas that Firn gives
the other roles (DEDUCED, log 29), RSV's self-test region, the register blocks of R21, the hosts' window (R74); then the
record's regions. Each passes through the staging registers, where the last one stays (R449). -/
def State.installTables (s : State) : State :=
  let all := 0x01FFFFFF
  let test := Config.rsvTestBase.toNat
  let rsv : List AccEntry := [⟨0, 10, 0, test, test + Config.rsvTestLen.toNat - 1, 3⟩]
  let blocks := fun (m : Nat) => ((List.range 17).filter fun b => decide (2 ≤ b) && b != 0xD).map fun b =>
    (⟨0x10 + b, m, 0, 0, 0xFFFF, if b == 0xC || b == 0xE || b == 0xF then 1 else 3⟩ : AccEntry)
  let cyc := [2, 3, 4, 5].flatMap fun m =>
    [⟨0, m, 0, 0x00400000, 0x0047FFFF, 3⟩, ⟨0, m, 1, 0x00600000, 0x007FFFFF, 4⟩, ⟨0, m, 2, 0x00800000, 0x00FFFFFF, 3⟩,
     ⟨1, m, 0, 0x00C00000, 0x00DFFFFF, 1⟩, ⟨1, m, 1, 0x00E00000, 0x011FFFFF, 1⟩, ⟨1, m, 2, 0x01B00000, 0x01EFFFFF, 3⟩]
  let roles := [6, 7, 8, 9].flatMap fun m => [⟨0, m, 0, 0, 0x003FFFFF, 3⟩, ⟨1, m, 0, 0x00C00000, 0x00DFFFFF, 1⟩]
  let saves : List AccEntry := [⟨1, 8, 1, 0x01A00000, 0x01AFFFFF, 1⟩]
  let guard : List AccEntry := [⟨1, 1, 0, 0, 0x00BFFFFF, 1⟩]
  let outside := fun (m : Nat) => ([⟨0, m, 0, 0, 0x003FFFFF, 3⟩, ⟨0, m, 1, 0x00488000, 0x004FFFFF, 3⟩,
    ⟨0, m, 2, 0x01000000, 0x01FFFFFF, 3⟩] : List AccEntry)
  let engines : List AccEntry := outside 13 ++ [⟨2, 13, 0, 0, 0x0087FFFF, 3⟩] ++ outside 14 ++
    [⟨0, 15, 0, 0, all, 3⟩, ⟨1, 15, 0, 0x00E00000, 0x01AFFFFF, 2⟩]
  let ddr : List AccEntry := if s.chip.ddrSize = 0 then [] else [⟨3, 9, 0, 0, ddrBytes s.chip.ddrSize - 1, 3⟩]
  let own := s.conf.regions
  let base := s.firnEntries ++ rsv ++ cyc ++ roles ++ ddr ++ saves ++ guard ++ engines ++ ([2, 3, 4, 5, 6, 7, 8, 9].flatMap blocks) ++
    hostRegions.filter (fun (e : AccEntry) => own.all fun (x : AccEntry) => x.master != e.master || x.target != 0)
  let s := own.foldl State.putEntry { s with acc := base }
  (s.stageEntry ((own.getLast?.orElse fun _ => base.getLast?).getD ⟨0, 0, 0, 0, 0, 0⟩)).setBit 0x20 2 false

/-- Configuration formats at a start (R442, R443): the firmware's format is the running image's. -/
def State.settleFormat (s : State) (mig : Option (List (Nat × Bytes) × CfgRecord)) : State :=
  let fw := s.rdLe (slotBase s.running + 20) 2
  let st := s.fld aCfgFmt 15 0
  let n := s.cfgBytes.length
  let s := s.wr aCfgFmt (w32 (fw * 65536 + st))
  if fw > st then
    let s := { s with boot := { s.boot with oldCfg := some (st, s.conf, s.cfgBytes) } }
    let s : State := match mig with
      | some (l, c) => { s with cfg := s.cfg.map fun _ => c, cfgBytes := l.foldl (fun m p => kset m p.1 p.2) s.cfgBytes }
      | none => s
    (s.setFld aCfgFmt 15 0 fw).postFirn 0x0D09 (w32 st) (w32 fw) (w32 n)
  else if fw < st then
    match s.boot.oldCfg with
    | some (f, c, b) =>
      ({ s with cfg := some c, cfgBytes := b, boot := { s.boot with oldCfg := none } } : State).setFld aCfgFmt 15 0 f
        |>.postFirn 0x0D0A (w32 f) (w32 b.length) 0
    | none => { s with cfg := none }
  else s

/-- The log at a start (R415): the newest flushed record, the count where PD0 AON lost it, now or at an earlier reset that no
start of Firn followed, RESTART, LOG_CTRL.RUN. Where the
count was lost, RESTART is its first record, before the postings that wait. The ring's place is the model's
(DESIGN CHOICE, log 30). -/
def State.startLog (s : State) (kept : Bool) (cause : Nat) : State :=
  let aon := kept && !s.log.unset
  let l := s.scanLog
  let top := if aon then s.logNext - 1 else l.foldl max 0
  let full := fun (x : Nat) => let c := top / 2 ^ 32 * 2 ^ 32 + x; if c ≤ top then c else c - 2 ^ 32
  let q := (l.map full).filter fun x => decide (x ≤ top)
  let newest := q.foldl max 0
  let next := if aon then max 1 s.logNext else newest + 1
  let oldest := (q.filter fun x => decide (newest < x + 262144)).foldl (fun (m : Option Nat) x => some (min (m.getD x) x)) none
  let s := ((s.wr64 0xB0010 (w64 next)).wr64 0xB0018 (w64 newest)).wr 0xB0024 0x00100000
  let s := { s with log := { s.log with unset := false, oldest := oldest, tail := next, written := aon && s.log.written } }
  let s := s.conf.rates.foldl (fun t r => t.limitCode r.code.toNat r.rate r.burst) s
  let s := if aon then s.postFirn 0x0C03 (w32 (next - 1 - newest)) (w32 newest) (w32 cause)
    else s.putRecord 0x0C03 .firn (s.timeState == 0) s.time.ns 0xFFFFFFFF (w32 newest) (w32 cause)
  s.setBit 0xB0004 0 true

/-- The depth of a derivation record, looking at most `f` parents up. -/
def recDepth (l : List DerivRec) : Nat → Nat → Nat
  | 0, _ => 0
  | _, 0 => 0
  | f + 1, n => match l.find? fun r => r.target == n with
    | some r => 1 + recDepth l f r.parent
    | none => 1

/-- The replay of the derivation records (R456), in ascending depth and, within it, in ascending slot. -/
def State.replayKeys (s : State) : State :=
  let l := s.key.records
  let order := (List.range 9).flatMap fun d => (List.range 128).flatMap fun n =>
    l.filter fun r => r.target == n && recDepth l 9 n == d
  order.foldl (fun t r =>
    if (t.slot r.target).bad then t
    else
      let st := t.deriveStatus (BitVec.ofNat 8 r.parent) (BitVec.ofNat 8 r.target) r.usage r.label.length
      if st = eOk then t.deriveInto r.target r.parent r.usage r.label false
      else t.postFirn 0x0E08 (w32 r.target) (w32 r.parent) (w32 st)) s

/-- The Guard at every reset (R452, R465): slots 1 and 2, a new challenge; a root whose storage fails its test now is gone
(R454), with its record; `was` says that slot 0 was BAD before. -/
def State.startGuard (s : State) (was : Bool) : State :=
  let s := (s.deriveFixed).newChallenge
  if (s.slot 0).bad && !was then s.postGuard 0x0E03 (w32 (s.slot 0).gen) 0 0 else s

/-- The pool at a start (R17, R18): failing tiles are retired, the first healthy eight carry the roles in order, a ninth is
the reserve. With eight healthy tiles every reset's count writes the record of the retired one (R18). With fewer than eight
the last roles of the order have no tile (DEDUCED, log 31). -/
def State.startTiles (s : State) (power : Bool) (bad : BitVec 9) : State :=
  let s := if power then s.setFld aTileStat 8 0 0 else s
  let was := s.fld aTileStat 8 0
  let s := (List.range 9).foldl (fun t k => if bad.getLsbD k && !was.testBit k then t.retireTile (k + 2) 1 else t) s
  let s := (List.range 9).foldl (fun t k =>
    if t.healthy == 8 && was.testBit k && popCount 9 was == 1 then
      t.postFirn 0x0112 (w32 (k + 2)) (if t.pwr.roleLost.getLsbD k then 2 else 1) 8 else t) s
  let ok := ((List.range 9).filter fun k => !(s.bit aTileStat k)).map fun k => k + 2
  let s := (List.range 8).foldl (fun t k => match ok[k]? with
    | some x => (t.setRoleTile k x).setBit aRoleVer k true
    | none => { t.setRoleTile k 0 with pwr := { t.pwr with lost := t.pwr.lost ||| (1#8 <<< k) } }) s
  let s := s.setRsv (ok[8]?.getD 15)
  let s := (List.range 9).foldl (fun t k => if t.bit aTileStat k then (t.setBit aDomOn (k + 2) false).setBit aDomReq (k + 2) false else t) s
  if s.healthy < 8 then s.level 2 true else s

/-- The domains that a start leaves on (R30, R31), lanes tested and mapped (R82), the LPDDR4X of a HEAD initialised (R512). A
HEAD whose LPDDR4X fails keeps it switched on, asserts DDR_INIT and goes on to READY in FREEZE: R31 says neither whether the
controller stays on nor whether the start goes on (DESIGN CHOICE, log 74). -/
def State.startDomains (s : State) (env : BootEnv) : State :=
  let bad := (List.range 34).filter fun k => env.badLanes.getLsbD k
  if s.isHead then
    let s := (s.wr aDomOn 0x7FFFFF).wr aDomReq 0x7FFFFF
    let s := ((s.failLanes 12 bad).failLanes 13 bad).showLanes.remap
    if s.chip.ddrSize = 0 ∨ env.ddrCode < s.chip.ddrSize then
      s.level 20 true
    else s
  else s.testLanes 12 bad

/-- The PLLs at a power-on's lock test (R471). -/
def State.startPlls (s : State) (f : BitVec 2) : State :=
  let a := f.getLsbD 0
  let b := f.getLsbD 1
  s.wr 0xE0010 (w32 (0x1F - b2n a - 2 * b2n b + 256 * b2n a + 512 * b2n b + 65536 * b2n (a && !b) + 131072 * b2n (b && !a)))

/-- PLL_LOCK asserts while TILECLK or SOLVCLK has no locked source (R471): PCR_PLL_STATE shows neither PLL_A nor PLL_B locked.
What the lock test of the last power-on, and the losses since, have left stands over a system reset. -/
def State.lostClocks (s : State) : State :=
  if s.bit 0xE0010 0 || s.bit 0xE0010 1 then s else s.level 32 true

/-- A register takes the fields of a value that its summary lets Firn write. -/
def State.loadReg (s : State) (a : Nat) (v : W32) : State :=
  match regRow a with
  | some r => s.wr a ((s.rd a &&& ~~~(w32 r.rw)) ||| (v &&& w32 r.rw))
  | none => s

/-- The ports at a start (R359, R363): the record's configuration of each, the address, SYSID, value groups; the pair link's
mode and MACsec requirement come from the pair configuration. -/
def State.startPorts (s : State) : State :=
  let c := s.conf
  let cfgOf := fun (p : Nat) =>
    let x := ((c.ports.find? fun q => q.1 == p).map fun q => q.2).getD (defaultPortCfg s.isHead p)
    if p = 3 ∧ c.pair.mode ≠ 0 then { x with enable := true, fwd := 0x10, required := c.pair.macsec, mode := b2n c.pair.baseX } else x
  let s := (List.range 4).foldl (fun t p =>
    ((t.setBit aDomOn (0x10 + p) (cfgOf p).enable).setBit aDomReq (0x10 + p) (cfgOf p).enable).setPortCfg p (cfgOf p)) s
  let s := (s.setFld 0x80008 13 0 c.address.toNat).wr 0x8000C (w32 c.sysid.toNat)
  let s := { s with port := { s.port with groups := c.groups } }
  let s := match c.ptp with
    | some p => s.setPtp p
    | none => s
  s.setBit 0x80004 0 true

/-- The pair unit at a start (R363, R365, R385): EPOCH, the claim, PAIR_CTRL.EN with a pairing (DEDUCED, log 60), and the
first state. -/
def State.startPair (s : State) : State :=
  let c := s.conf.pair
  let s := s.loadEpoch.setBit aPairCtrl 0 (c.mode != 0)
  (if c.mode = 1 then s.setPairState 1 else if c.mode = 2 then s.setPairState 7 else s).refreshAlive

/-- Metering at a start (R257, R278, R282): the record's configuration, the last save, MTR_CTRL.RUN. -/
def State.startMeter (s : State) : State :=
  let m := s.conf.mtr
  let s := m.gain.foldl (fun t p => (t.wr64 (0x50100 + 0x20 * p.1) p.2).setMtr fun x =>
    { x with gain := kput (dOne, dZero) x.gain p.1 (p.2, (kget (dOne, dZero) x.gain p.1).2) }) s
  let s := m.offset.foldl (fun t p => (t.wr64 (0x50108 + 0x20 * p.1) p.2).setMtr fun x =>
    { x with gain := kput (dOne, dZero) x.gain p.1 ((kget (dOne, dZero) x.gain p.1).1, p.2) }) s
  let s := m.delay.foldl (fun t p => t.wr (0x50110 + 0x20 * p.1) (w32 p.2.toNat)) s
  let s := (s.wr 0x50024 (w32 m.auxMode.toNat)).wr 0x50020 m.capt
  let s := m.ku.foldl (fun t p => t.wr64 (sysReg p.1 0) p.2) s
  let s := m.ki.foldl (fun t p => t.wr64 (sysReg p.1 8) p.2) s
  let s := m.iref.foldl (fun t p => t.wr64 (sysReg p.1 0x10) p.2) s
  let s := m.pulse.foldl (fun t p => (t.wr (poutReg p.1 0) p.2.1).wr (poutReg p.1 4) p.2.2) s
  let s := m.heat.foldl (fun t p => t.setMtr fun x => { x with heat := kput {} x.heat p.1 { cfg := p.2 } }) s
  (s.restoreMeters.setBit 0x50004 1 s.conf.metroLock).setMeterRun true

/-- A loop moves to its START_MODE (R204, R188, R516). -/
def State.startLoop (s : State) (k : Nat) : State :=
  let c := s.lcfg k
  let m := leAt c 9 1
  let out := dblAt c 40
  if m = 0 ∨ m > 2 then s
  else if s.loopUnset k then s.postFirn 0x0403 (w32 k) (w32 (8 + m)) 6
  else match s.loadFails k with
    | some n => s.postFirn 0x0401 (w32 k) (w32 n) 3
    | none =>
      let s := s.setLmode k m
      if m = 1 then (s.setLrun k { s.lrun k with dreset := true }).wr64 (lReg k 0x10) out
      else s.setLrun k { s.lrun k with dreset := true, xfer := some out }

/-- The loops at a start (R204), in ascending number, which decides the loops that fail the load test of R188 (DESIGN CHOICE,
log 89). -/
def State.startLoops (s : State) : State :=
  let s := s.conf.loops.foldl (fun t p => t.putPart (p.1 / 4) (p.1 % 4) p.2) s
  (List.range 256).foldl State.startLoop (s.setBit 0x30004 0 true)

/-- The auto-start (R234): a CYC_START of the record's mode, which FREEZE (R71) or the other personality (R4) refuses as it
would the command; a refusal leaves the runtime STOPPED, with a record. -/
def State.autoStart (s : State) (mode : Nat) : State :=
  let r := if s.persMismatch then (s, ePersonality) else if s.frozen then (s, eFrozen) else s.startCyc mode true
  if r.2 = eState ∨ r.2 = eFrozen ∨ r.2 = ePersonality then r.1.postFirn 0x0507 (w32 mode) (w32 r.2) 0 else r.1

/-- The cycle runtime at a start (R215, R230, R234): the programs kept, markers, auto-start. -/
def State.startRuntime (s : State) (aon : Bool) : State :=
  let s := (s.setCycState (b2n s.cyc.act.isSome)).showProgs
  let s := if aon then s else s.setBit aCycState 10 true
  let torn := s.tornTasks
  let s := match torn with
    | t :: _ => s.postFirn 0x0504 (w32 ((torn.map fun k => 2 ^ k).sum)) (w32 (s.fld (markReg t) 29 0)) 0
    | [] => s
  let auto := s.conf.autostart
  if auto = 1 ∨ auto = 2 then s.autoStart (2 - auto) else s

/-- Tampers that no running Firn has told are told (R463); then the tamper modes of the record apply under the rules of
KEY_TAMPER_CONFIG (R461). -/
def State.startTamper (s : State) : State :=
  let l := s.key.missed
  let s := l.foldl (fun t p => t.tellTamper p.1 p.2.1 p.2.2) { s with key := { s.key with missed := [] } }
  s.conf.tamper.foldl (fun t p => if t.tamperStatus p.1 p.2.toNat = eOk then t.setTamperMode p.1 p.2.toNat else t) s

/-- The process outputs at a start (R398, R399; 18): IO registers, safe values, then FAULT_CTRL.RUN, at which every PWM
counter starts (R508). -/
def State.startOutputs (s : State) : State :=
  let s := s.conf.io.foldl (fun t p => if p.1 < 0x10000 then t.loadReg (0xF0000 + p.1) p.2 else t) s
  let s := s.settleHold
  let s := s.conf.safe.foldl (fun t p => t.putSafe p.1 p.2) s
  ((List.range 16).foldl State.pwmStart (s.setBit 0xA0004 0 true).settleHold).showGpio

/-- VALID_LOST (R318): the first start that finds VALID at 0 with a new cause. -/
def State.startCalendar (s : State) : State :=
  if s.calValid || s.cal.newLoss == 0 then s
  else (s.postFirn 0x0804 (w32 s.cal.newLoss) 0 0).setCal fun c => { c with newLoss := 0 }

/-- Firn starts from the running slot (R480): up to READY. -/
def State.startFirn (s : State) (cause : Nat) (power aon : Bool) (env : BootEnv) : State :=
  let s := s.settleFormat env.migrated
  let s := if s.cfg.isNone then s.level 3 true else s
  let s := { s with chip := { s.chip with ddrSize := s.conf.ddrSize } }
  let s := (s.installTables).replayKeys
  let s := s.startTamper
  let s := ((s.startDomains env).startTiles power env.badTiles)
  let s := s.wr 0xE0030 (w32 (b2n s.conf.avsEn + 2 * s.conf.avsAddr.toNat))
  let s := (s.startPorts).startMeter
  let s := ((s.startOutputs).startLoops).startLog aon cause
  let s := (s.startPair).startCalendar
  let s := (s.setBit 0x10010 6 s.persMismatch).status 0 true
  let s := s.setRotNext s.now
  let s := { s with chip := { s.chip with firnStart := s.now } }
  s.startRuntime aon

/-- Factory test (R466): the real root masked, the test root in force with slots 1 and 2 derived from it, the whole scope
open. -/
def State.testKeys (s : State) : State :=
  let root := s.slot 0
  let s := { s with key := { s.key with masked := some root, scope := 7 } }
  (s.setSlot 0 { root with key := Config.testRoot, valid := true, bad := false }).deriveFixed

/-- A reset of the chip and its start (R425, R478 to R480): Bedrock chooses a slot or enters recovery. `failed` is the boot
that has failed: its slot, R426's event and the attempt. -/
def State.bootWith (s : State) (cause : Nat) (straps : Straps) (failed : Option (Nat × Nat × Nat)) (env : BootEnv) : State :=
  let power := cause == 1
  let aon := !power || env.pd0Kept
  let was := aon && (s.slot 0).bad
  let s := (s.cleared power aon env.badSlots).noteReset cause
  let s := if aon then s else s.seedMesh
  let s := { s with chip := { s.chip with straps := straps, running := false, resetOut := false, factory := false, firnStart := 0,
                                          restarts := [], draining := none, ddrSize := 0, porstLow := false } }
  let s := (s.setFld 0x10010 5 4 straps.pers.toNat).startGuard was
  let held := straps.pers == 2 || decide (straps.bootsel.toNat ≥ 2) || straps.pers == 3
  if held then
    -- R2: Bedrock does not start and RESET_OUT_N stays low; PERS 0b11 with TEST_EN is the factory test.
    let test := straps.pers == 3 && straps.testEn && decide (straps.bootsel.toNat < 2)
    if test then ({ s with chip := { s.chip with factory := true } } : State).testKeys else s
  else
    let s : State := { s with chip := { s.chip with running := true, resetOut := true } }
    let s := ((if power then s.startPlls env.pllFailed else s).lostClocks).readBoot
    let s := ((s.setBit aBootState 9 false).setBit aBootState 10 (straps.bootsel == 1))
    let s := match failed with
      | some (k, ev, a) => s.postFirn 0x0D02 (w32 k) (w32 ev) (w32 a)
      | none => s
    if straps.bootsel == 1 then s.enterRecovery 1
    else
      match s.chooseSlot 3 with
      | (s, none) => s.enterRecovery 2
      | (s, some k) =>
        let s := (s.setBit aBootState 8 (k == 1))
        let s := (if s.slotState k = slStaged then s.setSlotState k slTrial else s).bootWrite
        (s.postFirn 0x0D01 (w32 k) (s.slotVersion k) (w32 (s.attempts k))).startFirn cause power aon env

/-- A system reset (R478). -/
def State.systemReset (s : State) (cause : Nat) (env : BootEnv) : State := s.bootWith cause s.chip.straps none env

/-- A failed boot (R426): event 9 an unplanned Firn restart, 10 FIRN_LOCKSTEP or ROLE_LOST, 11 120 s; Firn follows it with a
system reset. -/
def State.failedBoot (s : State) (event : Nat) (env : BootEnv) : State :=
  s.bootWith 4 s.chip.straps (some (s.running, event, s.attempts s.running)) env

/-- No boot has been declared good since Firn started (R426). -/
def State.onTrial (s : State) : Bool := s.chip.running && !s.recovery && !s.boot.goodDone

end Sys2Proof.Machine
end

