-- ==== Sys2Proof/Machine/Solv.lean ====
section
/-! DEFINITION. The SOLV class commands and the rows of the solver array (03). -/

namespace Sys2Proof.Machine

/-- SOLV_BATCH_SUBMIT (R111 to R115). -/
def execSolvBatchSubmit (i : Issue) (desc : Buf) (notify : Byte) (s : State) : Out :=
  .next (s.hostCmd { op := 0x0201, plen := 9 } i fun s =>
    s.checked i [(decide (notify.toNat > 1), eParam), (!s.bufOk i.host false desc, eAccess)] fun s =>
      match s.submit (hostMaster i.host) (s.winAddr desc.off) (some desc.len.toNat) (notify.getLsbD 0) false with
      | (t, 0, id) => t.complete i eOk (w32 id) 0 0
      | (_, st, _) => s.done i st)

/-- SOLV_BATCH_STATUS (R114, R123). -/
def execSolvBatchStatus (i : Issue) (batch : W32) (s : State) : Out :=
  .next (s.hostCmd { op := 0x0202, plen := 4 } i fun s =>
    match s.batch batch.toNat with
    | some b => s.complete i eOk (w32 b.done) (w32 b.carried) (s.batchWord b)
    | none => s.done i eParam)

/-- SOLV_BATCH_WAIT (R123). -/
def execSolvBatchWait (i : Issue) (batch : W32) (timeout : W32) (s : State) : Out :=
  .next (s.hostCmd { op := 0x0203, plen := 8, async := true } i fun s =>
    match s.batch batch.toNat with
    | some b =>
      if s.batchLive b.id then s.startAsync (.solvBatchWait i batch timeout) i b.id
      else s.complete i eOk (w32 b.done) (w32 b.carried) 0
    | none => s.done i eParam)

/-- The instant at which an outstanding wait runs out. -/
def waitEnd (o : Outst) : Nat :=
  match o.cmd with
  | .solvBatchWait _ _ t => o.since + t.toNat * 1000000
  | _ => o.since

/-- The wait on a batch that runs out first. -/
def State.firstWait (s : State) (batch : Nat) : Option Outst :=
  (s.mb.outstanding.filter fun o => o.ref == batch && match o.cmd with | .solvBatchWait _ _ _ => true | _ => false).foldl
    (fun m o => match m with
      | some p => if waitEnd o < waitEnd p then some o else some p
      | none => some o) none

/-- BATCH_WAIT_TIMEOUT (R123): the counts at that moment. -/
def execBatchWaitTimeout (batch : W32) (s : State) : Out :=
  .next (match s.firstWait batch.toNat with
    | none => s
    | some o =>
      let s := s.reach (waitEnd o)
      match s.batch batch.toNat with
      | some b => s.finish o eTimeout (w32 b.done) (w32 b.carried) 0
      | none => s.finish o eTimeout 0 0 0)

/-- One undispatched problem is cancelled (R97, R123): bytes 0 to 2 of its result record. The check of R117 belongs to the
dispatch and is not made here; where RES_OFF breaks R88 nothing is written, as R97 has it for BAD_PROBLEM (DESIGN CHOICE,
log 76). -/
def State.cancelOne (s : State) (id off : Nat) : State :=
  let r := (s.probAt off).resOff
  let s := if placed r 3 then s.wrMem r [0x09, 0x01, 0x09] else s
  s.countDone id false false false

/-- SOLV_BATCH_CANCEL (R123). -/
def execSolvBatchCancel (i : Issue) (batch : W32) (s : State) : Out :=
  .next (s.hostCmd { op := 0x0204, plen := 4 } i fun s =>
    match s.batch batch.toNat with
    | none => s.done i eParam
    | some b =>
      if !s.batchLive b.id then s.done i eState
      else
        let l := ((s.solv.front.filter fun f => f.1 == b.id).map fun f => f.2.1) ++ b.waiting
        let s := { s with solv := { s.solv with front := s.solv.front.filter fun f => f.1 != b.id } }
        let s := s.setBatch b.id fun b => { b with waiting := [], cancelled := true }
        let s := l.foldl (fun t k => t.cancelOne b.id (b.offsets.getD k 0)) s
        s.complete i eOk (w32 l.length) 0 0)

/-- SOLV_LANE_STATUS (R76). -/
def execSolvLaneStatus (i : Issue) (s : State) : Out :=
  .next (s.hostCmd { op := 0x0205, plen := 0 } i fun s =>
    s.complete i eOk (s.rd 0x20004) (s.rd 0x2000C) (s.rd 0x20010))

/-- SOLV_LANE_RETIRE (R84): a problem running on the lane is dispatched again; the corrected errors of its run are counted
(R83). -/
def execSolvLaneRetire (i : Issue) (lane : Byte) (s : State) : Out :=
  .next (s.hostCmd { op := 0x0206, plen := 1, async := true } i fun s =>
    let k := lane.toNat
    s.checked i [(decide (k > 33), eParam), (s.laneRetired k || !s.lanePowered k, eState),
                 (s.laneInService k && s.spares.isEmpty, eNospace)] fun s =>
      if s.laneInService k then
        let lg := s.laneLogical k
        (((s.stopLane lg 1).retireLane k 3).countLanes i.env.badLanes.corrected).complete i eOk (w32 lg) 0 0
      else (s.retireLane k 3).complete i eOk 0xFFFFFFFF 0 0)

/-- PIVTOL and REGDELTA lie from 2⁻⁶⁰ to 2⁻¹⁰ (R110). -/
def paramOk (v : Dbl) : Bool := decide (0x3C30000000000000 ≤ v.toNat ∧ v.toNat ≤ 0x3F50000000000000)

/-- SOLV_PARAM_SET (R110). -/
def execSolvParamSet (i : Issue) (pivtol : Dbl) (regdelta : Dbl) (s : State) : Out :=
  .next (s.hostCmd { op := 0x0207, plen := 16 } i fun s =>
    s.checked i [(!paramOk pivtol || !paramOk regdelta, eParam)] fun s =>
      ((s.wr64 0x20018 pivtol).wr64 0x20020 regdelta).done i eOk)

/-- The masters whose SOLV registers are banked: CYC0 to CYC3 and SEQ. -/
def solvSubmitter (m : Master) : Bool := (0x023C : BitVec 16).getLsbD (masterId m)

/-- BATCH_TILE_SUBMIT (R116): a write of SOLV_TSUB_CTRL with GO; other masters' writes are ignored. -/
def State.tileSubmit (s : State) (m : Master) (value : W32) : State :=
  let a := bankKey 0x20044 (masterId m)
  if !solvSubmitter m then s
  else
    let s := s.wr a ((s.rd a &&& ~~~(0x300 : W32)) ||| (value &&& 0x300))
    if !value.getLsbD 0 || s.bit a 1 then s
    else
      match s.submit m (s.rd (bankKey 0x20040 (masterId m))).toNat none (value.getLsbD 9) (value.getLsbD 8) with
      | (t, 0, id) => (t.wr (bankKey 0x20048 (masterId m)) (w32 id)).wr a ((s.rd a &&& 0xFF0300) ||| 4)
      | (_, st, _) => s.wr a ((value &&& 0x300) ||| 8 ||| w32 (st % 256 * 65536))

/-- BATCH_TILE_SUBMIT (R116). -/
def execBatchTileSubmit (master : Master) (value : W32) (s : State) : Out :=
  .next (s.atReg master 0x20044 fun s => s.tileSubmit master value)

/-- A problem starts on a lane (R104, R110). One that is dispatched again takes PIVTOL and REGDELTA as they stand then: R110 has
them apply at each dispatch, while R107's identical results would keep the first (DESIGN CHOICE, log 76). -/
def State.startRun (s : State) (lg : Nat) (w : Waiting) : State :=
  let p := (s.physOf lg).getD 0
  let i := s.laneIn w.off (s.rd64 0x20018) (s.rd64 0x20020)
  let r : SolvRun := { batch := w.batch.id, index := w.index, off := w.off, phys := p, tStart := s.now,
                       unset := s.timeState == 0, steps := [], pivtol := i.pivtol, regdelta := i.regdelta,
                       redisp := w.front, faulted := w.faulted, record := i.rec_, mask := i.mask, ws := i.ws, own := i.own }
  (({ s with solv := { s.solv with runs := kset s.solv.runs lg r } } : State).setBit (laneReg p) 11 true).setBit 0x20008 lg true

/-- PROBLEM_DISPATCH (R117, R119): SEQ takes the next problem and gives it its lane, or refuses it. -/
def execProblemDispatch (at_ : Nat) (s : State) : Out :=
  .next (
    let s := s.reach at_
    if s.solvStopped then s
    else
      match s.nextDispatch with
      | none => s
      | some (lg, w) =>
        let s := s.takeWaiting w
        let c := s.accessFault w.batch.master w.off
        if c ≠ 0 then s.refuseProblem w.batch.id w.index c else s.startRun lg w)

/-- PROBLEM_END (R92 to R106): the problem on logical lane `lane` ends, and the run's correctable errors are counted (R83).
Under a mismatch of personality the batches stand still (R4). -/
def execProblemEnd (lane : Byte) (spread : RunMeets) (s : State) : Out :=
  .next (
    let lg := lane.toNat
    match kfind s.solv.runs lg with
    | none => s
    | some r => if s.persMismatch then s else (s.endRun lg r (min 5000 spread.spread)).countCorrected r.phys spread.corrected)

/-- The LANE_FAULT record of a problem whose second run faults (R107), written by the array's record path; nothing is written
where the record itself has no place (R97). DL_IGNORED reports the run (R106): it began with the time base UNSET and had a
deadline (DEDUCED, log 87). -/
def State.laneFault (s : State) (lg : Nat) (r : SolvRun) : State :=
  let p := probOf r.record
  let s := (s.postFirn 0x0204 (w32 r.batch) (w32 r.index) 4).freeLane lg r
  let e : RunEnd := { status := if p.resOk r.off then 0x0107 else 0x010A, cyc := 0, sig := p.signature r.mask,
                      dlIgn := r.unset && p.deadline != noDeadline }
  s.writeEnd r.batch r.index p r.off (s.rdMem p.resOff p.resLen) e true r.phys lg r.tStart s.now

/-- LANE_ECC_UNCORRECTABLE (R83, R107): physical lane `lane`, with the corrected errors of the run before it. -/
def execLaneEccUncorrectable (lane : LaneEcc) (s : State) : Out :=
  .next (
    let k := lane.lane.toNat
    if k > 33 || s.laneRetired k || !s.lanePowered k then s
    else
      let lg := s.laneLogical k
      let s := match kfind s.solv.runs lg with
        | some r => if s.laneInService k && r.phys == k then (if r.faulted then s.laneFault lg r else s.stopRun lg 3 true) else s
        | none => s
      (s.retireLane k 1).countLanes [(k, lane.corrected)])

/-- A problem that no lane in service may take and whose deadline is reached (R514). -/
def State.orphan (s : State) : Option Waiting :=
  s.queueOrder.find? fun w =>
    let d := (s.probAt w.off).deadline
    !((List.range 32).any fun lg => (s.physOf lg).isSome && admits w.batch lg) && d != noDeadline && decide (s.now ≥ d)

/-- DEADLINE_WITHOUT_LANE (R514): the record path ends it as a run whose deadline is reached at the dispatch check
point. -/
def execDeadlineWithoutLane (at_ : Nat) (s : State) : Out :=
  .next (
    let s := s.reach at_
    if s.solvStopped || s.timeState == 0 then s
    else
      match s.orphan with
      | none => s
      | some w =>
        let s := s.takeWaiting w
        let c := s.accessFault w.batch.master w.off
        if c ≠ 0 then s.refuseProblem w.batch.id w.index c
        else
          let i := s.laneIn w.off 0 0
          s.writeEnd w.batch.id w.index (probOf i.rec_) w.off i.own (laneRun i (fun _ => true) fun _ => false) w.front
            0xFF 0xFF s.now s.now)

end Sys2Proof.Machine
end

