-- ==== Sys2Proof/Machine/Boot.lean ====
section
/-! DEFINITION. Restarts of Firn, resets, the live activation of an image, and the loss of a role (02, R67 to R69; 15, R425,
R426, R438 to R441; 17, R477 to R480, R485). -/

namespace Sys2Proof.Machine

/-! ### Restarts of Firn -/

/-- An outstanding command that completes within the wait of a planned restart (R67). -/
def outlivesRestart : Instr → Bool
  | .solvLaneRetire _ _ | .mtrSaveNow _ | .logFlush _ | .logSeal _ _ _ _ | .pairSwap _ | .pwrDomainSet _ _ _ => true
  | _ => false

/-- What R67's table abandons of an outstanding command. -/
def State.abandonOp (s : State) (o : Outst) : State :=
  match o.cmd with
  | .cycVarWrite _ _ _ => { s with cyc := { s.cyc with writes := s.cyc.writes.filter fun (w : VarWrite) => w.id != o.id } }
  | .mtrCalStart _ _ _ => s.endCal
  | .calTrimMeasure _ _ _ => s.setCal fun c => { c with meas := none }
  | _ => s

/-- An outstanding command completes with E_HANDOVER; SOLV_BATCH_WAIT gives its counts where `counts` (R67). -/
def State.handOver (s : State) (counts : Bool) (o : Outst) : State :=
  match o.cmd, counts with
  | .solvBatchWait _ b _, true =>
    match s.batch b.toNat with
    | some x => s.finish o eHandover (w32 x.done) (w32 x.carried) 0
    | none => s.finish o eHandover 0 0 0
  | _, _ => s.finish o eHandover 0 0 0

/-- Firn restarts: READY clears, RESTART is set, the restart is counted (R67, R478). -/
def State.firnRestart (s : State) (cause : Nat) (env : BootEnv) : State :=
  let s := ((s.status 0 false).status 1 true).noteReset cause
  let s := s.setFld 0x10010 31 24 (s.fld 0x10010 31 24 + 1)
  let s := ({ s with chip := { s.chip with firnStart := s.now, draining := none } } : State).startCalendar
  let s := if s.recovery then s else s.settleFormat env.migrated
  if s.cfg.isNone then s.level 3 true else s

/-- Every command has completed that a planned restart waits for without a bound: the synchronous ones that Firn has started,
of which a LOG_WRITE can be under way, and those that complete within the wait (R67). -/
def State.waitsOn (s : State) : Bool := !s.logWrites.isEmpty || s.mb.outstanding.any fun o => outlivesRestart o.cmd

/-- The wait of a planned restart (R67) ends once no command is outstanding, or at its end, when the asynchronous commands that
are left complete with E_HANDOVER; then Firn restarts. Until the synchronous commands have completed the 100 ms do not begin. -/
def State.endWait (s : State) (env : BootEnv) : State :=
  if !s.logWrites.isEmpty then { s with chip := { s.chip with drainEnd := s.now + 100000000 } }
  else if s.waitsOn || (!s.mb.outstanding.isEmpty && decide (s.now < s.chip.drainEnd)) then s
  else (s.mb.outstanding.foldl (fun t o => (t.abandonOp o).handOver true o) s).firnRestart 0x10 env

/-- A planned restart of Firn begins with the wait, of at most 100 ms (R67). -/
def State.plannedRestart (s : State) (env : BootEnv) : State :=
  ({ s with chip := { s.chip with draining := some env, drainEnd := s.now + 100000000 } } : State).endWait env

/-- The wait of a planned restart passes, up to its end. -/
def State.passWait (s : State) : State :=
  match s.chip.draining with
  | some env => (s.reach s.chip.drainEnd).endWait env
  | none => s

/-- What an unplanned restart undoes of an outstanding command, so that the command has no effect (R69). A flush that it has
started runs on (R417), and a swap or a resync too, since the pair unit changes state only as R385 lists (DEDUCED, log 60). -/
def State.undoOp (s : State) (o : Outst) : State :=
  match o.cmd with
  | .loopBankSwap _ k => s.setBit (lReg k.toNat 8) 5 false
  | .cycStop _ =>
    if s.cycState = 4 then
      let l := (s.cyc.act.map fun p => p.tasks).getD []
      (l.foldl (fun t d => if t.tphase d.task = 6 then t.setPhase d.task 0 else t) s).setCycState 2
    else s
  | .cycOnlineChange _ =>
    if s.cycState = 3 then ({ s with cyc := { s.cyc with switched := [], passed := false, onNew := [] } } : State).setCycState 2 else s
  | .netFrameSend _ _ _ _ _ =>
    let mine := fun (f : QFrame) => match f.origin with | .command id => id == o.id | _ => false
    let s := (List.range 4).foldl (fun t p => t.removeFrames p mine 0) s
    { s with port := { s.port with
      utx := s.port.utx.filter fun (q : Nat × UartTx) => q.2.command != some o.id
      uwait := s.port.uwait.map fun (q : Nat × List UartTx) => (q.1, q.2.filter fun t => t.command != some o.id) } }
  | .mtrSaveNow _ => if o.ref = 0 then s.setBit 0x51700 1 false else s.undoSave o.ref
  | .logFlush _ => s
  | .pairSwap _ => { s with pair := { s.pair with swapCmd := none } }
  | .pairResync _ => s
  | .logSeal _ _ _ _ =>
    { s with log := { s.log with seals := s.log.seals.filter fun (q : SealOp) => q.id != o.id } }
  | .pwrDomainSet _ d f =>
    let s := { s with pwr := { s.pwr with switching := s.pwr.switching.filter fun (x : DomSwitch) => x.code != d.toNat } }
    (s.setBit aDomReq d.toNat (f == 0)).setBit aDomBusy d.toNat false
  | _ => s.abandonOp o

/-- The LOG_WRITE commands whose record has not been written complete with E_HANDOVER (R69). Those that still wait for room
have no effect; a posting that stands in the FIFO is taken in as any other, since a restart does not affect intake (R417;
DEDUCED, log 53). -/
def State.dropWrites (s : State) : State :=
  let told := s.logWrites
  let s := { s with log := { s.log with fifo := s.log.fifo.map fun p => { p with waiter := none }, waitWrites := [] } }
  told.foldl (fun t i => (t.done i eHandover).settleSrc i.src) s

/-- The unplanned restarts of the current 600 s show in PCR_FIRNRST (R478). -/
def State.countUnplanned (s : State) : State :=
  let l := (s.chip.restarts.filter fun t => decide (s.now < t + 600000000000)) ++ [s.now]
  ({ s with chip := { s.chip with restarts := l } } : State).setFld 0xE0028 1 0 (min 3 l.length)

/-- An unplanned restart of Firn (R69): every command started completes with E_HANDOVER and has no effect. Before the good
declaration the boot has failed (R426), and the third within 600 s is followed by a system reset (R478). -/
def State.unplannedRestart (s : State) (env : BootEnv) : State :=
  let s := (s.dropWaiting fun _ => true).dropWrites
  let l := s.mb.outstanding
  let s := l.foldl (fun t o => (t.finish o eHandover 0 0 0).undoOp o) s
  let s := s.countUnplanned
  if s.onTrial then s.failedBoot 9 env
  else if s.chip.restarts.length ≥ 3 then s.systemReset 5 env
  else s.firnRestart 0x11 env

/-- SYS_RESTART (R67, R445, R478). -/
def execSysRestart (i : Issue) (kind : Byte) (s : State) : Out :=
  .next (s.hostCmd { op := 0x010A, plen := 1 } i fun s =>
    s.checked i [(decide (kind.toNat > 1), eParam)] fun s =>
      let s := s.done i eOk
      if kind = 1 then s.systemReset 2 i.env.boot else s.plannedRestart i.env.boot)

/-- READY (R67, R68): the wait of a planned restart passes; the restarted Firn is ready, and resumes fetching at each pair's
head. -/
def execReady (s : State) : Out :=
  let s := s.passWait
  .next (if s.bit 0x10010 1 then (s.status 1 false).status 0 true else s)

/-- FIRN_RESTART_UNPLANNED (R69). -/
def execFirnRestartUnplanned (at_ : Nat) (env : BootEnv) (s : State) : Out := .next ((s.reach at_).unplannedRestart env)

/-- FIRN_WDOG (R388): source 1 latches and Firn restarts unplanned. -/
def execFirnWdog (at_ : Nat) (env : BootEnv) (s : State) : Out := .next (((s.reach at_).raise 1).unplannedRestart env)

/-- FIRN_LOCKSTEP or ROLE_LOST has latched since `was` before the good declaration: the boot has failed (R426). -/
def State.latchedSince (s was : State) (env : BootEnv) : State :=
  if s.onTrial && [0, 4].any fun n => s.srcStatus n && !was.srcStatus n then s.failedBoot 10 env else s

/-- FIRN_LOCKSTEP (R388, R426): source 0 latches; before the good declaration the boot has failed. -/
def execFirnLockstep (env : BootEnv) (s : State) : Out :=
  let s := s.raise 0
  .next (if s.onTrial then s.failedBoot 10 env else s)

/-! ### Resets -/

/-- POWER_ON_RESET (R1, R2, R480). -/
def execPowerOnReset (straps : Straps) (env : BootEnv) (s : State) : Out := .next (s.bootWith 1 straps none env)

/-- SYSTEM_RESET (R478): causes 2 to 5; a number that is no cause of a system reset causes none. -/
def execSystemReset (cause : Byte) (env : BootEnv) (s : State) : Out :=
  .next (if 2 ≤ cause.toNat ∧ cause.toNat ≤ 5 then s.systemReset cause.toNat env else s)

/-- PORST_N_LOW (R479): everything but PD0 AON and MRAM is reset, RESET_OUT_N is low, and nothing runs. -/
def execPorstNLow (s : State) : Out :=
  let s := s.cleared true true []
  .next { s with chip := { s.chip with running := false, resetOut := false, factory := false, restarts := [], draining := none,
                                       ddrSize := 0, porstLow := true } }

/-- BOOT_TIMEOUT (R426): 120 s from Firn's start without a good declaration. -/
def execBootTimeout (env : BootEnv) (s : State) : Out :=
  .next (if s.onTrial then (s.reach (s.chip.firnStart + 120000000000)).failedBoot 11 env else s)

/-! ### Live activation (R438 to R441) -/

/-- The roles of a role component's section type (R420, R439). -/
def componentRoles (c : Nat) : List Nat :=
  match c with
  | 2 => [0, 1, 2, 3]
  | 3 => [4, 5]
  | 4 => [6]
  | 5 => [7]
  | _ => []

/-- ACTIVATED. -/
def State.postActivated (s : State) (c : Nat) : State := s.postFirn 0x0D07 (w32 c) (s.slotVersion s.running) 0

/-- The verification of R440 on the inactive slot: the status. R440 gives steps 1 to 3 none of their own: E_INTEGRITY, as a
CONTAINER whose bytes do not hold together (DESIGN CHOICE, log 86). -/
def State.firnVerdict (s : State) : Nat :=
  match s.slotVerify s.inactive with
  | none => eOk
  | some 4 => 0x0102
  | some n => if n ≥ 5 then 0x0101 else eIntegrity

/-- What the verification leaves of the slots (R440): TRIAL and running on success, FAILED where step 5, 6 or 7 fails. -/
def State.takeFirn (s : State) (verdict : Nat) : State :=
  let k := s.inactive
  if verdict = eOk then
    let s := (((s.setSlotState k slTrial).setBit aBootState 8 (k == 1)).wr aRoleVer 0).bootWrite
    { s with boot := { s.boot with goodDone := false } }
  else if verdict = 0x0101 then (s.setSlotState k slFailed).bootWrite
  else s

/-- Component 0x00 (R439): a STAGED inactive slot becomes TRIAL with attempt count 0. -/
def State.trialStaged (s : State) : State :=
  let k := s.inactive
  if s.slotState k = slStaged then ((s.setSlotState k slTrial).setAttempts k 0).bootWrite else s

/-- The roles of a component are handed over one at a time (R441). -/
def State.startRoles (s : State) (c : Nat) (roles : List Nat) : State :=
  ({ s with boot := { s.boot with activating := some { component := c, roles := roles } } } : State).advance

/-- IMG_ACTIVATE (R439 to R441). -/
def execImgActivate (i : Issue) (component : Byte) (s : State) : Out :=
  .next (s.hostCmd { op := 0x0D04, plen := 1, frozenNo := true, async := true } i fun s =>
    let c := component.toNat
    let run := s.slotState s.running
    let kept := run == slTrial || run == slGood
    s.checked i [(decide (c > 5), eParam), (s.boot.activating.isSome, eState),
                 (c == 0 && run == slTrial, eState),
                 (c == 1 && s.slotState s.inactive != slStaged, eState),
                 (decide (c ≥ 2) && (!kept || !s.hasRsv), eState),
                 (decide (c ≥ 2) && !s.componentOk c, 0x0101)] fun s =>
      if c = 0 then ((s.trialStaged).done i eOk).systemReset 3 i.env.boot
      else if c = 1 then
        let v := s.firnVerdict
        let s := (s.takeFirn v).done i v
        if v = eOk then (s.postActivated 1).plannedRestart i.env.boot else s
      else ((s.done i eOk).postActivated c).startRoles c (componentRoles c))

/-- The activation that ACTIVATE_AT starts does not run (R438): the cause, or none. -/
def State.activateSkip (s : State) (slot : Nat) : Option Nat :=
  if s.frozen then some 1
  else if s.timeState ≠ 2 then some 2
  else if s.slotState slot ≠ slStaged then some 3
  else none

/-- ACTIVATE_AT (R438): a STATION with AV_ACTIVATE whose slot became STAGED from an announce with that instant activates
Firn and then each role component, or records why not. The announce's instant is used once. -/
def execActivateAt (at_ : Nat) (env : BootEnv) (s : State) : Out :=
  .next (
    let s := s.reach at_
    match s.boot.actAt with
    | none => s
    | some (image, slot, at_) =>
      if s.isHead || s.recovery || !s.conf.avActivate || decide (s.now < at_.toNat) then s
      else
        let skip := s.activateSkip slot
        let s := ({ s with boot := { s.boot with actAt := none } } : State).bootWrite
        match skip with
        | some c => s.postFirn 0x0D08 image (w32 c) 0
        | none =>
          let v := s.firnVerdict
          let s := s.takeFirn v
          if v ≠ eOk then s
          else
            let s := (s.postActivated 1).plannedRestart env
            if !s.hasRsv then s
            else ([2, 3, 4, 5].foldl State.postActivated s).startRoles 2 (List.range 8))

/-! ### The loss of a role (R485) -/

/-- The reserve takes a lost role with a cold start of its firmware. -/
def State.coldRole (s : State) (k : Nat) : State :=
  let v := s.rsvTile
  let s := if s.rotPhase = 6 then s.endHandover else if s.rotPhase ≠ 0 then s.abandonHandover 1 else s
  ((s.setRoleTile k v).setRsv 15).setBit aRoleVer k true

/-- A role has no tile any more: its work stops. -/
def State.stopRole (s : State) (k : Nat) : State :=
  let s := { s.setRoleTile k 0 with pwr := { s.pwr with lost := s.pwr.lost ||| (1#8 <<< k) } }
  if k ≤ 3 then s.halt
  else if k = 6 then
    match s.mtr.cal with
    | some r => (s.endCal).finishId r.id eState 0 0 0
    | none => s
  else s

/-- ROLE_LOST (R485, R426): a tile that carries a role fails outside the role's own handover. -/
def execRoleLost (tile : Byte) (env : BootEnv) (s : State) : Out :=
  .next (match s.tileRole tile.toNat with
    | none => s
    | some k =>
      if 1 ≤ s.rotPhase ∧ s.rotPhase ≤ 5 ∧ s.rotRole = k then s
      else
        let s := s.raise 4
        let s := (if s.hasRsv then s.coldRole k else s.stopRole k).retireTile tile.toNat 2
        if s.onTrial then s.failedBoot 10 env else s)

end Sys2Proof.Machine
end

