-- ==== Sys2Proof/Machine/Cyc.lean ====
section
/-! DEFINITION. The CYC class commands, the rows of the image engine and remote I/O (07; 11, R358). -/

namespace Sys2Proof.Machine

/-! ### Commands -/

/-- CYC_LOAD (R214, R215, R217, R225, R244, R358). -/
def execCycLoad (i : Issue) (buf : Buf) (s : State) : Out :=
  .next (s.hostCmd { op := 0x0501, plen := 8 } i fun s =>
    let b := s.rdBuf buf
    let ks := s.decKeys
    let p := progOf ks b (i.env.prog.getD { syms := [] })
    s.checked i [(!s.bufOk i.host false buf, eAccess), (s.cycState == 3, eState),
                 (!progWhole ks b || !s.canDecrypt b || i.env.prog.isNone, eIntegrity),
                 (decide (leAt (progSection ks b 0x50) 8 2 > s.runtimeVer), eVersion),
                 (decide (cLength b > 0xC0000), eNospace),
                 (!progLayout ks b p (s.port.groups.map fun g => g.group) s.loopPwms, 0x0101)] fun s =>
      (({ s with cyc := { s.cyc with pend := some p } } : State).showProgs).complete i eOk p.ver 0 0)

/-- CYC_START (R231). -/
def execCycStart (i : Issue) (mode : Byte) (s : State) : Out :=
  .next (s.hostCmd { op := 0x0502, plen := 1, frozenNo := true } i fun s =>
    s.checked i [(decide (mode.toNat > 2), eParam)] fun s =>
      let (t, st) := s.startCyc mode.toNat false
      t.done i st)

/-- CYC_STOP (R233): tasks that are idle stop at once, the others after the cycle they are in. -/
def execCycStop (i : Issue) (s : State) : Out :=
  .next (s.hostCmd { op := 0x0503, plen := 0, async := true } i fun s =>
    match s.cycState with
    | 1 => s.done i eOk
    | 4 => s.startAsync (.cycStop i) i
    | 2 =>
      let s := (s.startAsync (.cycStop i) i).setCycState 4
      let s := s.takeWrites fun _ => true
      let l := (s.cyc.act.map fun p => p.tasks).getD []
      let s := l.foldl (fun t d => if t.inCycle d.task then t else (t.setPhase d.task 6).parkTask d) s
      s.stopCheck
    | _ => s.done i eState)

/-- Why an on-line change is refused (R238). -/
def changeRefused (old new : Program) : Option Nat :=
  if new.base != old.ver then some 0x0107
  else if old.tasks.any fun d => (new.task? d.task).any fun e => e.role != d.role then some 0x0108
  else if new.lineage != old.lineage || decide (new.gen < old.gen) then some 0x0105
  else none

/-- CYC_ONLINE_CHANGE (R238, R239). -/
def execCycOnlineChange (i : Issue) (s : State) : Out :=
  .next (s.hostCmd { op := 0x0504, plen := 0, frozenNo := true, async := true } i fun s =>
    match s.cyc.act, s.cyc.pend with
    | some old, some new =>
      if s.cycState != 2 then s.done i eState
      else
        match changeRefused old new with
        | some c => s.done i c
        | none =>
          if !s.progVerified new then
            (s.postFirn 0x0507 0 (w32 eIntegrity) new.ver).done i eIntegrity
          else
            let s := (s.startAsync (.cycOnlineChange i) i).setCycState 3
            let s := ({ s with cyc := { s.cyc with switched := [], passed := false, onNew := [] } } : State).placeCode new true
            s.wr64 0x40010 (w64 (roundUp (s.now + 1000000) 10000))
    | _, _ => s.done i eState)

/-- The symbol of the active program. -/
def State.activeSym (s : State) (id : W32) : Option Sym := s.cyc.act.bind fun p => p.sym? id.toNat

/-- The bytes of a force value beyond its type are 0, and a BOOL is 0 or 1 (R235). -/
def forceOk (ty : Nat) (v : W64) : Bool := decide (v.toNat < 256 ^ typeLen ty) && (ty != 1 || decide (v.toNat < 2))

/-- CYC_FORCE_SET (R235). -/
def execCycForceSet (i : Issue) (symbol : W32) (type : Byte) (value : W64) (s : State) : Out :=
  .next (s.hostCmd { op := 0x0505, plen := 13 } i fun s =>
    match s.activeSym symbol with
    | none => s.done i 0x0102
    | some x =>
      let held := (kfind s.cyc.forces symbol.toNat).isSome
      s.checked i [(x.ty != type.toNat || decide (type.toNat = 0 ∨ type.toNat > 12), 0x0103), (!forceOk type.toNat value, eParam),
                   (!held && decide (s.cyc.forces.length ≥ 1024), eNospace)] fun s =>
        let s := { s with cyc := { s.cyc with forces := kset s.cyc.forces symbol.toNat (type.toNat, value) } }
        (s.wr 0x40018 (w32 s.cyc.forces.length)).done i eOk)

/-- CYC_FORCE_CLEAR (R237). -/
def execCycForceClear (i : Issue) (symbol : W32) (s : State) : Out :=
  .next (s.hostCmd { op := 0x0506, plen := 4 } i fun s =>
    let l := if symbol = 0xFFFFFFFF then [] else kdel s.cyc.forces symbol.toNat
    let n := s.cyc.forces.length - l.length
    (({ s with cyc := { s.cyc with forces := l } } : State).wr 0x40018 (w32 l.length)).complete i eOk (w32 n) 0 0)

/-- CYC_FORCE_LIST (R237). A buf shorter than the list, of which no rule speaks, completes with E_NOSPACE (DESIGN CHOICE,
log 86). -/
def execCycForceList (i : Issue) (buf : Buf) (s : State) : Out :=
  .next (s.hostCmd { op := 0x0507, plen := 8 } i fun s =>
    let b := s.cyc.forces.flatMap fun f =>
      leBytes 4 f.1 ++ [BitVec.ofNat 8 f.2.1, 0] ++ leBytes 2 (((s.activeSym (w32 f.1)).map fun x => x.mask).getD 0) ++ le8 f.2.2
    s.checked i [(!s.bufOk i.host true buf, eAccess), (decide (buf.len.toNat < b.length), eNospace)] fun s =>
      (s.wrMem (s.winAddr buf.off) b).complete i eOk (w32 s.cyc.forces.length) 0 0)

/-- CYC_TASK_STATUS (R223, R250). -/
def execCycTaskStatus (i : Issue) (task : Byte) (s : State) : Out :=
  .next (s.hostCmd { op := 0x0508, plen := 1 } i fun s =>
    match s.cyc.act.bind fun p => p.task? task.toNat with
    | none => s.done i eParam
    | some d => s.complete i eOk (w32 (10 * d.period)) (s.rd (tReg d.task 0x10C)) (w32 (kget 0 s.cyc.longest d.task)))

/-- Where CYC_VAR_READ finds a variable: its place for the lowest task of its mask. -/
def symPlace (x : Sym) : Nat := ((symPlaces x ((bitsOf 16 x.mask).head?.getD 0)).head?).getD (areaBase x.area)

/-- CYC_VAR_READ (R250). -/
def execCycVarRead (i : Issue) (symbol : W32) (buf : Buf) (s : State) : Out :=
  .next (s.hostCmd { op := 0x0509, plen := 12 } i fun s =>
    match s.activeSym symbol with
    | none => s.done i 0x0102
    | some x =>
      s.checked i [(!s.bufOk i.host true buf, eAccess), (decide (buf.len.toNat < x.len), eParam)] fun s =>
        (s.wrMem (s.winAddr buf.off) (s.rdMem (symPlace x) x.len)).complete i eOk (w32 x.len) 0 0)

/-- CYC_VAR_WRITE (R250): at once while the state is not RUNNING, else with the next latch of its lowest task. -/
def execCycVarWrite (i : Issue) (symbol : W32) (buf : Buf) (s : State) : Out :=
  .next (s.hostCmd { op := 0x050A, plen := 12, async := true } i fun s =>
    match s.activeSym symbol with
    | none => s.done i 0x0102
    | some x =>
      let b := s.rdBuf buf
      s.checked i [(!s.bufOk i.host false buf, eAccess), (decide (buf.len.toNat ≠ x.len), eParam), (s.cycState == 3, eState)] fun s =>
        if s.cycState = 2 then
          let id := s.mb.serial
          let s := s.startAsync (.cycVarWrite i symbol buf) i
          { s with cyc := { s.cyc with writes := s.cyc.writes ++ [{ id := id, sym := x, bytes := b }] } }
        else (s.putSym x ((bitsOf 16 x.mask).head?.getD 0) b).done i eOk)

/-! ### The task cycle -/

/-- A request takes its place: in order of arrival, and among those of one instant latches first, then ascending task
(R221). -/
def insReq (r : EngReq) : List EngReq → List EngReq
  | [] => [r]
  | x :: t =>
    let before := decide (r.arrived < x.arrived) || (decide (r.arrived = x.arrived) &&
      ((!r.isCommit && x.isCommit) || (r.isCommit == x.isCommit && decide (r.task < x.task))))
    if before then r :: x :: t else x :: insReq r t

/-- A request reaches the image engine. -/
def State.request (s : State) (t : Nat) (isCommit : Bool) : State :=
  s.setReqs (insReq { arrived := s.now, isCommit := isCommit, task := t } s.cyc.reqs)

/-! ### Overrun (R224) -/

/-- The tick strobe at which the commit of a task's cycle must have completed. -/
def State.deadline (s : State) (d : TaskDef) : Nat := kget 0 s.cyc.rel d.task + 10000 * (d.period * d.ovf / 16)

/-- The tasks whose cycle has not completed by its deadline, at an instant. -/
def State.overdue (s : State) (at_ : Nat) : List TaskDef :=
  ((List.range 16).filterMap fun t => if s.inCycle t then s.defOfTask t else none).filter fun d => decide (s.deadline d ≤ at_)

/-- Overruns found at an instant: each task is marked and recorded, and the runtime halts. -/
def State.takeOverruns (s : State) (at_ : Nat) : State :=
  let l := s.overdue at_
  if l.isEmpty then s
  else
    let s := l.foldl (fun u d =>
      (u.setBit (tReg d.task 0x104) 7 true).postHw 0x0501 (w32 d.task) (w32 (kget 0 u.cyc.rel d.task))
        (w32 ((u.deadline d - kget 0 u.cyc.rel d.task) / 1000))) s
    s.halt.raise 48

/-- TASK_RELEASE (R218, R223, R224, R231, R234, R239): at a release tick of a task that runs, after the overrun test of
that tick. -/
def execTaskRelease (task : Byte) (at_ : Nat) (s : State) : Out :=
  .next (
    let s := s.reach at_
    let s := if s.persMismatch then s else s.takeOverruns at_
    let t := task.toNat
    let s := if s.cycState == 3 && decide (at_ ≥ s.switchAt) then s.passSwitch else s
    let new := s.cycState == 3 && decide (at_ ≥ s.switchAt)
    match (if new then s.cyc.pend else s.cyc.act).bind fun p => p.task? t with
    | none => s
    | some d =>
      if !(s.cycState == 2 || s.cycState == 3) || s.persMismatch || !releasedAt d at_ || decide (at_ < s.cyc.first) then s
      else if s.inCycle t then
        let s := s.count (tReg t 0x114) 1
        s.postHw 0x0503 (w32 t) (w32 at_) (s.rd (tReg t 0x114))
      else
        let s := { s with cyc := { s.cyc with rel := kset s.cyc.rel t at_, onNew := if new then insNat s.cyc.onNew t
                                                                                   else s.cyc.onNew.filter fun k => k != t } }
        (s.wr (tReg t 0x108) (w32 at_)).request t false)

/-- The request in front is served: it leaves the engine. -/
def State.popReq (s : State) : State :=
  s.setReqs (s.cyc.reqs.drop 1)

/-- The 1,025th dirty line (R227). -/
def State.overBudget (s : State) (t lines : Nat) : State :=
  ((s.postHw 0x0502 (w32 t) (w32 (kget 0 s.cyc.rel t)) (w32 lines)).halt).raise 49

/-- More than 1,024 dirty lines stand in a task's section. -/
def State.tooDirty (s : State) (d : TaskDef) : Bool := decide ((s.dirtyOf d).length > 1024)

/-- LATCH_COMPLETE (R222): the latch in service ends and the task's logic starts, or waits for one of higher priority
(R219). A cycle that has overrun completes no latch (R224). -/
def execLatchComplete (at_ : Nat) (s : State) : Out :=
  .next (match s.cyc.reqs with
    | r :: _ =>
      if r.isCommit || s.persMismatch then s
      else if !(s.overdue at_).isEmpty then (s.reach at_).takeOverruns at_
      else match s.progOfTask r.task, s.defOfTask r.task with
        | some p, some d =>
          let s := (s.reach at_).doLatch p d
          if s.tooDirty d then s.overBudget d.task 1025
          else ((s.setPhase r.task 3).popReq).showCur
        | _, _ => s
    | [] => s)

/-- A store of a task's logic (R447, R450): where the role's path and table admit it, and refused elsewhere. -/
def State.logicStore (s : State) (m : Master) (w : Nat × Bytes) : State :=
  if w.2.isEmpty then s
  else if s.memAdmits m 1 w.1 w.2.length then (s.breach m w.1 w.2.length).cycStore w.1 w.2
  else s.refused m 1 w.1

/-- The end of a task's logic (R222, R227): its commit is requested. -/
def State.endLogic (s : State) (d : TaskDef) : State :=
  if s.tooDirty d then s.overBudget d.task 1025 else (s.request d.task true).showCur

/-- TASK_END (R222, R226, R227): the role's task in logic has stored what it stored and writes CYC_TEND. A write that does
not name it starts nothing. -/
def execTaskEnd (master : Master) (task : Byte) (stores : Stores) (s : State) : Out :=
  .next (
    let logic := if masterId master < 2 ∨ masterId master > 5 ∨ s.persMismatch then none else s.curTask (masterId master - 2)
    let s := if logic.isSome then stores.writes.foldl (fun t w => t.logicStore master w) s else s
    s.atReg master 0x40020 fun s =>
      match logic with
      | some d => if d.task = task.toNat then s.endLogic d else s
      | none => s)

/-- The cycle ends: the counters of R223. -/
def State.endCycle (s : State) (t at_ : Nat) : State :=
  let run := (at_ - kget 0 s.cyc.rel t) % 2 ^ 32
  let s := (s.count (tReg t 0x118) 1).wr (tReg t 0x10C) (w32 run)
  let s := s.wr (tReg t 0x110) (w32 (max run (s.rd (tReg t 0x110)).toNat))
  { s with cyc := { s.cyc with longest := kset s.cyc.longest t (max run (kget 0 s.cyc.longest t)) } }

/-- COMMIT_COMPLETE (R222, R226, R227, R233, R239, R378): the commit in service ends. It cannot end before the task's
previous drain has (R228), nor after the overrun of a cycle (R224); it is not made where its forces dirty the 1,025th
line. -/
def execCommitComplete (at_ : Nat) (s : State) : Out :=
  .next (match s.cyc.reqs with
    | r :: _ =>
      if !r.isCommit || s.persMismatch || s.cyc.drains.any (fun x => x.task == r.task) then s
      else if !(s.overdue at_).isEmpty then (s.reach at_).takeOverruns at_
      else match s.progOfTask r.task, s.defOfTask r.task with
        | some p, some d =>
          let t := r.task
          let s := s.reach at_
          let s := s.applyForces p t [1, 2, 3]
          if s.tooDirty d then s.overBudget t 1025 else
          let s := d.commit.foldl (fun u e => u.commitEnt p d at_ e) s
          let s := s.copySources 0x100000 aOut d.outOff d.outLen
          let s := (s.endCycle t at_).keepImages t at_
          let s := s.snapshot d (s.rd (tReg t 0x118)).toNat
          let s := (s.setPhase t 0).popReq
          let s :=
            if s.cycState = 4 then ((s.setPhase t 6).parkTask d).stopCheck
            else match s.cyc.act, s.cyc.pend with
              | some old, some new =>
                if s.cycState == 3 && !s.cyc.onNew.contains t && (s.cyc.passed || decide (nextRelease d (at_ + 1) ≥ s.switchAt)) then
                  (s.switchTask old new t).changeCheck
                else s
              | _, _ => s
          (s.showCur).mirrorPoint
        | _, _ => s
    | [] => s)

/-- OVERRUN (R224): the tick strobe at which a cycle's commit should have completed. -/
def execOverrun (task : Byte) (at_ : Nat) (s : State) : Out :=
  .next (
    if !s.persMismatch && (s.overdue at_).any fun d => d.task == task.toNat then (s.reach at_).takeOverruns at_ else s)

/-- RET_BUDGET (R227): a task in logic dirties its 1,025th line. -/
def execRetBudget (task : Byte) (s : State) : Out :=
  .next (if s.tphase task.toNat = 3 then s.overBudget task.toNat 1025 else s)

/-- RETENTIVE_DRAIN (R228): the drain in progress ends, and the next begins unless the power-fail warning has been taken
(R229). -/
def execRetentiveDrain (s : State) : Out :=
  .next (match s.cyc.drains with
    | x :: _ =>
      if !s.bit (markReg x.task) 31 then (if s.pwr.pfw then s else s.openDrain)
      else
        let s := s.closeDrain
        if s.pwr.pfw then s else s.openDrain
    | [] => s)

/-- SWITCH_INSTANT (R239, R240). -/
def execSwitchInstant (at_ : Nat) (s : State) : Out :=
  .next (
    let s := s.reach at_
    if s.cycState == 3 && decide (at_ ≥ s.switchAt) then s.passSwitch else s)

/-! ### Remote I/O (R244 to R249, R358) -/

/-- A PUBLISH body (07). -/
def publishBody (group seq : Nat) (vals : List W64) : Bytes :=
  [BitVec.ofNat 8 group, 0] ++ beBytes 2 vals.length ++ beBytes 4 seq ++ vals.flatMap fun v => beBytes 8 v.toNat

/-- A tick of an interval. -/
def tickOf (at_ phase interval : Nat) : Bool :=
  at_ % 10000 == 0 && interval != 0 && decide (((at_ / 10000 : Nat) : Int) % (interval : Int) = (phase : Int) % (interval : Int))

/-- PUBLISH_LAUNCH (R245): the values of the latest commit at least 200 µs before; before any such commit the manual states
none, and they are free values (DESIGN CHOICE, log 4). -/
def execPublishLaunch (group : Byte) (at_ : Nat) (s : State) : Out :=
  .next (match s.cyc.act.bind fun p => p.publications.find? fun r => r.group == group.toNat with
    | some r =>
      if !tickOf at_ r.phase r.interval then s
      else
        let g := group.toNat
        let n := (kget 0 s.cyc.pubSeq g + 1) % 2 ^ 32
        let s := { s with cyc := { s.cyc with pubSeq := kset s.cyc.pubSeq g n } }
        let send := fun (t : State) (v : List W64) => t.sendOwn r.port r.queue at_ (t.fieldFrame r.peer 0x20 false (publishBody g n v))
        match (kget [] s.cyc.pubs g).find? fun q => decide (q.1 + 200000 ≤ at_) with
        | some q => send s q.2
        | none =>
          send { s with fresh := s.fresh + r.count } ((List.range r.count).map fun k => Config.freeValue (s.fresh + k))
    | none => s)

/-- VALUE_GROUP_LAUNCH (R358). -/
def execValueGroupLaunch (group : Byte) (at_ : Nat) (s : State) : Out :=
  .next (match s.port.groups.find? fun v => v.group == group.toNat with
    | some v =>
      if !tickOf at_ v.phase v.interval then s
      else
        let n := (kget 0 s.port.launches v.group + 1) % 2 ^ 32
        let s := { s with port := { s.port with launches := kset s.port.launches v.group n } }
        let l := (List.range v.count).map fun i => s.txAt (at_ - 200000) (v.first + i)
        s.sendOwn v.port v.queue at_ (s.fieldFrame v.peer.toNat 0x20 false (publishBody v.group n l))
    | none => s)

/-- The subscriptions of the active program with their numbers. -/
def State.numbered (s : State) : List (Nat × Remote) :=
  let l := (s.cyc.act.map Program.subscriptions).getD []
  (List.range l.length).zip l

/-- The quality of a subscription changes (R246). -/
def State.quality (s : State) (n : Nat) (r : Remote) (q miss : Nat) : State :=
  if s.rxq r.rx = q then s else (s.setRxq r q).postFirn 0x0508 (w32 n) (w32 q) (w32 miss)

/-- PUBLISH (R246): valid for every subscription that it matches. -/
def execPublish (header : FrameHeader) (body : ValuesBody) (s : State) : Out :=
  .next (s.received header 0x20 false fun s =>
    if (s.portCfg header.port).required && !header.sec then s
    else
      (s.numbered.filter fun p => p.2.ty == 3 && p.2.peer == header.src.toNat && p.2.group == body.group.toNat &&
        p.2.count == body.values.length).foldl (fun t p =>
          ((t.quality p.1 p.2 0 0).setRxvals p.2 body.values).setSub p.2 { t.subRun p.2 with miss := 0, got := true }) s)

/-- CHECK_INSTANT (R246): every publication subscription whose check instant it is. -/
def execCheckInstant (at_ : Nat) (s : State) : Out :=
  .next (
    let s := s.reach at_
    (s.numbered.filter fun p => p.2.ty == 3 && tickOf at_ p.2.phase p.2.interval).foldl (fun t p =>
      let x := t.subRun p.2
      if x.got then t.setSub p.2 { x with got := false }
      else
        let m := min 255 (x.miss + 1)
        (t.setSub p.2 { x with miss := m }).quality p.1 p.2 (if m < p.2.limit then 1 else 2) m) s)

/-- COMMAND_ACK to the sender of a command, on the port it came from; a command that is refused is counted and recorded
(R247). -/
def State.ackCommand (s : State) (h : FrameHeader) (group : Byte) (result : Nat) (seq : W32) : State :=
  let s := if result = 0 then s
    else ({ s with cyc := { s.cyc with refused := s.cyc.refused + 1 } } : State).postFirn 0x050A (w32 h.src.toNat)
      (w32 group.toNat) (w32 result)
  s.sendOwn h.port 7 0 (s.fieldFrame h.src.toNat 0x22 false ([group, BitVec.ofNat 8 result, 0, 0] ++ beBytes 4 seq.toNat))

/-- COMMAND (R247): the claim check of R176 first, then the group, then COUNT. -/
def execCommand (header : FrameHeader) (body : ValuesBody) (s : State) : Out :=
  .next (
    match s.accepts header true with
    | .claimLow => (((s.reach header.at_).count 0x80024 1).postFirn 0x0304 header.claim (s.hiClaim header.claim) 0x21).ackCommand
        header body.group 1 body.seq
    | _ => s.received header 0x21 true fun s =>
      let mine := (s.numbered.map fun p => p.2).filter fun r => r.ty == 4 && r.peer == header.src.toNat && r.group == body.group.toNat
      let fit := mine.filter fun r => r.count == body.values.length
      let s := fit.foldl (fun t r => (t.setRxvals r body.values).setSub r
        { t.subRun r with holding := true, fallback := false, seq := body.seq.toNat, since := t.now }) s
      s.ackCommand header body.group (if mine.isEmpty then 3 else if fit.isEmpty then 2 else 0) body.seq)

/-- COMMAND_ACK (R248). -/
def execCommandAck (header : FrameHeader) (body : AckBody) (s : State) : Out :=
  .next (s.received header 0x22 false fun s =>
    let g := body.group.toNat
    match s.cyc.act.bind fun p => p.remotes.find? fun r => r.ty == 2 && r.group == g && r.peer == header.src.toNat with
    | some _ =>
      let x := s.group g
      let q := body.seq.toNat
      let ok := body.result == 0
      let late := (x.seq + 2 ^ 32 - q) % 2 ^ 32
      s.setGroup g { x with ackSeq := q, rej := body.result == 1, ackLast := if ok && late == 0 then true else x.ackLast,
                            unack := if ok then min x.unack late else x.unack }
    | none => s)

/-- COMMAND_HOLD_EXPIRY (R249). -/
def execCommandHoldExpiry (at_ : Nat) (s : State) : Out :=
  .next (
    let s := s.reach at_
    let span := s.drift.hold * s.districtNs
    (s.numbered.filter fun p => p.2.ty == 4 && (s.subRun p.2).holding && decide ((s.subRun p.2).since + span ≤ at_)).foldl
      (fun t p =>
        let x := t.subRun p.2
        let rod := (t.cyc.act.map fun q => q.rodata).getD []
        let t := t.setRxvals p.2 ((List.range p.2.count).map fun k => w64 (leAt rod (p.2.fb + 8 * k) 8))
        let t := t.setSub p.2 { x with holding := false, fallback := true }
        t.postFirn 0x0509 (w32 p.1) (w32 p.2.peer) (w32 x.seq)) s)

end Sys2Proof.Machine
end

