-- ==== Sys2Proof/Machine/Fault.lean ====
section
/-! DEFINITION. The FAULT class commands and the fault block's events (13). -/

namespace Sys2Proof.Machine

/-- FAULT_STATUS (R403). -/
def execFaultStatus (i : Issue) (s : State) : Out :=
  .next (s.hostCmd { op := 0x0B01, plen := 0 } i fun s =>
    s.complete i eOk
      (w32 (s.fld 0xA000C 7 0 + b2n (s.bit 0xA0008 2) * 2 ^ 31))
      (w32 (b2n (s.bit 0xA0008 3) + s.fld 0xA0008 15 8 * 256))
      (w32 s.assertedList.length))

/-- ASSERTED of 32 sources as a word. -/
def State.assertWord (s : State) (g : Nat) : W32 :=
  w32 (((List.range 32).map fun b => b2n (s.asserted (32 * g + b)) * 2 ^ b).sum)

/-- The 72-byte record of FAULT_READ_ALL (13). -/
def State.faultRecord (s : State) : Bytes :=
  leBytes 2 (if s.bit 0xA0008 2 then s.fld 0xA000C 7 0 else 0xFFFF) ++
  leBytes 1 (s.fld 0xA0008 15 8) ++ leBytes 1 (s.fld 0xA0008 4 0) ++
  leBytes 4 (s.rd 0xA0018).toNat ++ leBytes 8 (s.rd64 0xA0010).toNat ++
  ((List.range 6).flatMap fun g => leBytes 4 (s.rd (0xA0020 + 4 * g)).toNat) ++
  ((List.range 6).flatMap fun g => leBytes 4 (s.assertWord g).toNat) ++
  leBytes 4 (s.rd 0xA001C).toNat ++ leBytes 4 0

/-- FAULT_READ_ALL (R403). -/
def execFaultReadAll (i : Issue) (buf : Buf) (s : State) : Out :=
  .next (s.hostCmd { op := 0x0B02, plen := 8 } i fun s =>
    s.checked i [(decide (buf.len.toNat < 72), eParam), (!s.bufOk i.host true buf, eAccess)] fun s =>
      (s.wrMem (s.winAddr buf.off) s.faultRecord).complete i eOk 72 0 0)

/-- FAULT_CLEAR (R401): the conditions that arise on the edge of the request refuse it, and latch (R391). -/
def execFaultClear (i : Issue) (s : State) : Out :=
  .next (s.hostCmd { op := 0x0B03, plen := 0 } i fun s =>
    let r := s.clearRequest i.env.rising
    ((r.1.latch (s.assertedWith i.env.rising)).done i (if r.2 then eOk else eState)).latchedSince s i.env.boot)

/-- FAULT_SAFE_SET (R398): writes the FAULT block and the configuration record. -/
def execFaultSafeSet (i : Issue) (output : W16) (value : W64) (s : State) : Out :=
  .next (s.hostCmd { op := 0x0B04, plen := 10 } i fun s =>
    s.checked i [(!safeOk output.toNat value, eParam)] fun s =>
      let s := (s.putSafe output.toNat value).safeChanged output.toNat
      let s := s.setConf fun c => { c with safe := putAssoc c.safe output.toNat value }
      (s.postFirn 0x0B06 (w32 output.toNat) (lo32 value) (hi32 value)).done i eOk)

/-- A test of source `n` (R402): TESTED, the record, and the condition for one edge. -/
def State.faultTest (s : State) (n : Nat) : State :=
  ((s.setBit 0xA0008 4 true).postHw 0x0B05 (w32 n) 0 0).raise n

/-- FAULT_TEST (R402). -/
def execFaultTest (i : Issue) (source : Byte) (s : State) : Out :=
  .next (s.hostCmd { op := 0x0B05, plen := 1 } i fun s =>
    s.checked i [(!sourceDefined source.toNat, eParam),
                 (!s.conf.testAllow || s.fld 0x90008 3 0 == 2, eState)] fun s =>
      ((s.faultTest source.toNat).done i eOk).latchedSince s i.env.boot)

/-- FAULT_CONDITION (R391): the conditions that hold on one edge. REFCLK_LOSS and
VCORE, levels that only the outside world decides, follow the operand from here on; every other condition named holds
for this edge. A boot that it fails (R426) meets nothing else that fails (DESIGN CHOICE, log 86). -/
def execFaultCondition (conditions : Sources) (s : State) : Out :=
  .next (
    let m : Sources := 0x3#192 <<< 33
    let u := { s with fault := { s.fault with live := (s.fault.live &&& ~~~m) ||| (conditions &&& m) } }
    (u.latch (u.assertedWith conditions)).latchedSince s {})

/-- A master may write the *User* fields of the fault block (R390). -/
def userWriter (m : Master) : Bool :=
  match m with
  | .firn | .cyc0 | .cyc1 | .cyc2 | .cyc3 | .seq => true
  | _ => false

/-- A write of FAULT_USER0 or FAULT_USER1 (R390): the conditions of the sources follow the bits, and a source whose
condition arises is latched. -/
def State.userWrite (s : State) (index : Nat) (v : W32) : State := (s.wr (0xA0080 + 4 * index) v).latchAsserted

/-- FAULT_USER_WRITE (R390): CYC0 to CYC3, SEQ and FIRN write; the write of another master is ignored (R21). -/
def execFaultUserWrite (master : Master) (index : Byte) (value : W32) (s : State) : Out :=
  .next (if index.toNat > 1 then s else
    s.atReg master (0xA0080 + 4 * index.toNat) fun s => if userWriter master then s.userWrite index.toNat value else s)

/-- FAULT_CTRL_CLEAR (R401): Firn writes CLEAR on an edge on which other conditions may arise, which win. -/
def execFaultCtrlClear (master : Master) (rising : Sources) (s : State) : Out :=
  .next (
    let t := s.atReg master 0xA0004 fun s => if master == .firn then (s.clearRequest rising).1 else s
    (t.latch (s.assertedWith rising)).latchedSince s {})

/-- FAULT_TESTREQ_GO (R402): Firn's register request for a test of the source it names. -/
def execFaultTestreqGo (master : Master) (source : Byte) (s : State) : Out :=
  .next ((s.atReg master 0xA00A0 fun s =>
    if master == .firn then (s.setFld 0xA00A0 7 0 source.toNat).faultTest source.toNat else s).latchedSince s {})

/-- FAULT_INPUT (R389): a GPIO's filtered level changes; the fault inputs that read it follow. -/
def execFaultInput (gpio : Byte) (level : Bool) (s : State) : Out :=
  .next (if gpio.toNat < 24 then (s.setBit 0xF0018 gpio.toNat level).latchAsserted else s)

end Sys2Proof.Machine
end

