-- ==== Sys2Proof/Machine/Img.lean ====
section
/-! DEFINITION. Writing an image, the good declaration and Avalanche (15). The activation rows stand in Boot.lean. -/

namespace Sys2Proof.Machine

/-- IMG_OPEN (R428). -/
def execImgOpen (i : Issue) (slot : Byte) (size : W32) (s : State) : Out :=
  .next (s.hostCmd { op := 0x0D01, plen := 5 } i fun s =>
    let k := slot.toNat
    let n := size.toNat
    s.checked i [(decide (k > 1) || n % 64 != 0 || decide (n < 192 ∨ n > 0x600000), eParam),
                 ((k == s.running && !s.recovery) || s.slotState k == slTrial || s.boot.opened.isSome || s.receiving k,
                  eState)] fun s =>
      let s := (s.makeWriting k).loseSlot k
      -- An Avalanche reception into this slot that had ended is forgotten with the slot's content.
      let gone := s.boot.rx.any fun r => r.slot == k
      let s := { s with boot := { s.boot with opened := some (k, n), blocks := [],
                                              rx := if gone then none else s.boot.rx } }
      s.bootWrite.done i eOk)

/-- IMG_WRITE (R429). More than 64 KB completes with E_PARAM (DESIGN CHOICE, log 86). -/
def execImgWrite (i : Issue) (offset : W32) (buf : Buf) (s : State) : Out :=
  .next (s.hostCmd { op := 0x0D02, plen := 12 } i fun s =>
    match s.boot.opened with
    | none => s.done i eState
    | some (k, n) =>
      let o := offset.toNat
      let l := buf.len.toNat
      s.checked i [(decide (o + l > n ∨ l > 65536), eParam), (!s.bufOk i.host false buf, eAccess)] fun s =>
        let s := s.wrMem (slotBase k + o) (s.rdBuf buf)
        let touched := if l = 0 then [] else (List.range ((o + l - 1) / 4096 - o / 4096 + 1)).map fun j => o / 4096 + j
        ({ s with boot := { s.boot with blocks := touched.foldl insNat s.boot.blocks } } : State).done i eOk)

/-- IMG_CLOSE (R430). -/
def execImgClose (i : Issue) (s : State) : Out :=
  .next (s.hostCmd { op := 0x0D03, plen := 0 } i fun s =>
    match s.boot.opened with
    | none => s.done i eState
    | some (k, n) =>
      let all := decide (s.boot.blocks.length = nBlocks n)
      let st : Nat := match s.slotCheck k with
        | some 2 => if all then ePersonality else eIntegrity
        | some _ => eIntegrity
        | none => if all && decide (cLength (s.slotBytes k) ≤ n) then eOk else eIntegrity
      s.checked i [(st != eOk, st)] fun s =>
        let s := { s with boot := { s.boot with opened := none, blocks := [] } }
        let s := s.makeStaged k 0
        s.complete i eOk (w32 (cLength (s.slotBytes k))) 0 0)

/-- IMG_STATUS (R446). -/
def execImgStatus (i : Issue) (s : State) : Out :=
  .next (s.hostCmd { op := 0x0D05, plen := 0 } i fun s =>
    s.complete i eOk (w32 (s.fld aBootState 8 0)) (s.rd aBootCnt) (s.slotVersion s.running))

/-- IMG_AVALANCHE_START (R437): a transfer of a slot's image to the neighbour at the port begins. -/
def execImgAvalancheStart (i : Issue) (port : Byte) (slot : Byte) (s : State) : Out :=
  .next (s.hostCmd { op := 0x0D06, plen := 2, pers := some 1 } i fun s =>
    let p := port.toNat
    let k := slot.toNat
    s.checked i [(decide (p > 1 ∨ k > 1), eParam), (s.standby, eClaim),
                 (!(s.slotState k == slStaged || s.slotState k == slTrial || s.slotState k == slGood) ||
                   (kfind s.boot.tx p).isSome || s.downAddr p == 0, eState)] fun s =>
      let b := s.slotBytes k
      let v := s.slotVersion k
      (s.startTx p k (annBody v (cLength b) (cFlags b) v (s.slotSvn k) s.conf.activateAt)).done i eOk)

/-- Every role runs from the running slot (R426, BOOT_ROLEVER). -/
def State.rolesCurrent (s : State) : Bool := s.fld aRoleVer 7 0 == 0xFF

/-- Firn declares the boot good (R426, R427) once the roles run, the configuration has loaded and 60 s have passed since
Firn started; the records before a migration are released (R442). -/
def execBootGood (at_ : Nat) (s : State) : Out :=
  let s := s.reach at_
  let k := s.running
  if s.recovery || s.boot.goodDone || !s.rolesCurrent || s.cfg.isNone || s.now < s.chip.firnStart + 60000000000 then
    .next s
  else
    let s := (s.setSlotState k slGood).setAttempts k 0
    let low := if s.slotState (1 - k) = slGood then min (s.slotSvn 0).toNat (s.slotSvn 1).toNat else (s.slotSvn k).toNat
    let s := s.wr aMinSvn (w32 (max (s.rd aMinSvn).toNat low))
    let s := if s.rdLe (slotBase k + 22) 1 = 1 then s.setBit aBootState 11 true else s
    .next ({ s.bootWrite with boot := { s.bootWrite.boot with goodDone := true, oldCfg := none } })

/-- The sender of Avalanche that this unit accepts: UP_ADDR (R431); recovery needs no configuration (R432, R444). -/
def State.upOk (s : State) (h : FrameHeader) : Bool :=
  if s.recovery then h.port == 0 else h.src == s.conf.upAddr && s.conf.upAddr != 0

/-- An announce is refused (R433): STATE 2 and an AV_REFUSED record, whose cause the manual does not number (DESIGN CHOICE, log 4). -/
def State.avRefuse (s : State) (h : FrameHeader) (image : W32) : State :=
  let c := s.drawn
  ((s.draw).sendAck h.port h.src image 0 0 2).postFirn 0x0D05 image (w32 h.src.toNat) (lo32 c)

/-- Forward an accepted announce to DOWN_ADDR with this unit's own claim (R433). -/
def State.relayAnnounce (s : State) (r : AvRx) : State :=
  let p := 1 - s.conf.upPort
  if s.recovery || s.isHead || s.downAddr p == 0 then s
  else s.startTx p r.slot (annBody r.image r.length r.flags r.version r.svn r.activateAt)

/-- AV_ANNOUNCE (R433). -/
def execAvAnnounce (header : FrameHeader) (body : AnnounceBody) (s : State) : Out :=
  .next (s.avReceived header 0x30 true (low := fun s => s.avRefuse header body.image) fun s =>
    let k := s.avSlot
    let b := annBody body.image body.length.toNat body.flags body.version body.svn body.activateAt
    let fits := decide (1 ≤ body.length.toNat ∧ body.length.toNat ≤ 0x600000)
    if !s.upOk header || !s.slotValid 2 || cmac256 s.avlKey b != body.cmac || !cAllows body.flags s.isHead ||
        decide (body.svn.toNat < (s.rd aMinSvn).toNat) || !fits || s.boot.opened.any (fun o => o.1 == k) ||
        (s.recovery && s.boot.opened.isSome) then s.avRefuse header body.image
    else
      match s.boot.rx.filter (fun r => r.image == body.image && r.slot == k && s.slotState k != slEmpty) with
      | some r =>
        let r := { r with sender := header.src }
        let full := decide (r.held.length = nBlocks r.length)
        ((s.setRx r (!full)).ackRx header.port r (b2n full)).relayAnnounce r
      | none =>
        let r : AvRx := { image := body.image, length := body.length.toNat, flags := body.flags, version := body.version,
                          svn := body.svn, activateAt := body.activateAt, slot := k, sender := header.src, held := [],
                          saved := [], block := 0, frags := [], started := s.now }
        let s := ((s.makeWriting k).setRx r true).bootWrite
        (s.ackRx header.port r 0).relayAnnounce r)

/-- AV_FRAG (R434): a fragment joins the block in hand; a later block that begins discards an incomplete one. -/
def execAvFrag (header : FrameHeader) (body : FragBody) (s : State) : Out :=
  .next (s.avReceived header 0x31 false fun s =>
    match s.boot.rx with
    | none => s
    | some r =>
      if r.image != body.image || header.src != r.sender || !s.receiving r.slot ||
          decide (body.block.toNat ≥ nBlocks r.length) then s
      else
        let b := body.block.toNat
        let stale := b != r.block && !r.frags.isEmpty
        let r := if b = r.block then r else { r with block := b, frags := [] }
        let s := if stale then s.ackRx header.port r 0 else s
        let f := kset r.frags body.frag.toNat body.data
        let r := { r with frags := if body.frag = 3 then kset f 4 body.cmac else f }
        if r.frags.length = 5 then s.avBlock header.port r
        else s.setRx r true)

/-- AV_ACK (R434): the window of the transfer on that port advances; STATE 1 and 2 end it. -/
def execAvAck (header : FrameHeader) (body : AvAckBody) (s : State) : Out :=
  .next (s.avReceived header 0x32 false fun s =>
    let p := header.port
    match kfind s.boot.tx p with
    | none => s
    | some x =>
      if x.image != body.image || header.src != s.downAddr p then s
      else if body.state = 1 ∨ body.state = 2 then { s with boot := { s.boot with tx := kdel s.boot.tx p } }
      else
        let n := body.next.toNat
        let fresh := !x.announced || x.suspended || decide (n > x.next)
        let x := { x with announced := true, suspended := false, next := n, sent := if x.suspended then n else max n x.sent,
                          resends := if fresh then 0 else x.resends, since := if fresh then s.now else x.since }
        (s.setTx p x).pump p 8)

/-- AV_ABORT (R431): the reception of that image ends; its slot stays WRITING (R430). The manual gives the frame and no
further effect (DEDUCED, log 23). -/
def execAvAbort (header : FrameHeader) (image : W32) (_cause : Byte) (s : State) : Out :=
  .next (s.avReceived header 0x33 true fun s =>
    match s.boot.rx with
    | some r =>
      if r.image == image && header.src == r.sender && s.receiving r.slot then
        (({ s with boot := { s.boot with rx := none } } : State).wrAll [(aAvId, 0), (aAvHeld, 0)]).bootWrite
      else s
    | none => s)

/-- AV_RESEND (R434): NEXT has not advanced for 500 ms; the sender resends from NEXT, and after 20 resends suspends. -/
def execAvResend (port : Byte) (s : State) : Out :=
  let p := port.toNat
  match kfind s.boot.tx p with
  | none => .next s
  | some x =>
    if x.suspended || s.avStopped then .next s
    else
      let s := s.reach (x.since + 500000000)
      let x := { x with since := s.now }
      if x.resends ≥ 20 then .next (s.setTx p { x with suspended := true })
      else .next ((s.setTx p { x with sent := x.next, resends := x.resends + 1 }).pump p 8)

/-- AV_ANNOUNCE_REPEAT (R434): a suspended transfer repeats its announce every 30 s. -/
def execAvAnnounceRepeat (port : Byte) (s : State) : Out :=
  let p := port.toNat
  match kfind s.boot.tx p with
  | some x =>
    if x.suspended && !s.avStopped then
      let s := s.reach (x.since + 30000000000)
      .next ((s.sendAnnounce p x).setTx p { x with since := s.now })
    else .next s
  | none => .next s

end Sys2Proof.Machine
end

