-- ==== Sys2Proof/Machine/Access.lean ====
section
/-! DEFINITION. Accesses to registers by masters of the fabric, by hosts and through the debug module (01, R10, R11, R20 to
R25; 02, R40; 06, R212; 16, R447 to R450). A register is named by its offset from 0x00_4000_0000. -/

namespace Sys2Proof.Machine

/-- The state that a row's meaning answers. -/
def State.took (s : State) (o : Out) : State :=
  match o with
  | .next t => t
  | _ => s

/-! ### 64-bit register pairs (R212) -/

/-- The pairs that masters write: the first low half, how many, at which stride. -/
def pairRuns : List (Nat × Nat × Nat) :=
  [(0x20018, 2, 8), (0x30050, 1, 8), (0x30400, 64, 8), (0x34010, 256, 32), (0x34018, 256, 32), (0x38000, 1024, 8),
   (0x50100, 16, 32), (0x50108, 16, 32), (0x50600, 2, 64), (0x50608, 2, 64), (0x50610, 2, 64), (0x60030, 2, 8),
   (0xA0200, 16, 8)] ++
  [0x51380, 0x51480, 0x51580, 0x51680].flatMap fun b => [(b, 6, 8), (b + 64, 4, 8)]

/-- The register is the low half of a pair that masters write. -/
def isPairLo (a : Nat) : Bool :=
  pairRuns.any fun r => decide (r.1 ≤ a) && (a - r.1) % r.2.2 == 0 && decide ((a - r.1) / r.2.2 < r.2.1)

/-- The read-only pairs: the first low half, how many, at which stride. -/
def readRuns : List (Nat × Nat × Nat) :=
  [(0x38, 1, 8), (0x30038, 3, 8), (0x30600, 64, 8), (0x34000, 256, 32), (0x3C000, 1024, 8), (0x40010, 1, 8), (0x50010, 1, 8),
   (0x50400, 64, 8), (0x50618, 2, 64), (0x50800, 256, 8), (0x51100, 8, 8), (0x60010, 1, 8), (0x60050, 2, 8), (0x60070, 1, 8),
   (0x60214, 4, 32), (0x70060, 1, 8), (0x80130, 4, 0x100), (0xA0010, 1, 8), (0xB0010, 2, 8), (aRotNext, 1, 8)] ++
  [0x51300, 0x51400, 0x51500, 0x51600].flatMap fun b => [(b, 6, 8), (b + 64, 4, 8)]

/-- A write of a low half is held. -/
def State.holdLow (s : State) (m : Master) (a : Nat) (v : W32) : State :=
  { s with halves := { s.halves with lows := kset s.halves.lows (halfKey a (masterId m)) v } }

/-- A write of the high half of the pair at `a` commits both halves; without a low half held it commits the low half as it
is. -/
def State.commitPair (s : State) (m : Master) (a : Nat) (v : W32) : State :=
  let lo := (kfind s.halves.lows (halfKey a (masterId m))).getD (s.rd a)
  let s := s.wr64 a (join64 lo v)
  if 0xA0200 ≤ a ∧ a < 0xA0280 then s.safeChanged (0x100 + (a - 0xA0200) / 8) else s

/-! ### What a write of a register does (R10) -/

/-- A register's row lets a master write. -/
def RegRow.opens (r : RegRow) (m : Master) : Bool := (BitVec.ofNat 16 r.who).getLsbD (masterId m)

/-- A write under the access types of the register's fields (R10): RW fields take the value, W1C bits written 1 clear, the
rest ignores it. A master to which the register is not open writes nothing. -/
def State.plainWrite (s : State) (m : Master) (a : Nat) (v : W32) : State :=
  match regRow a with
  | some r =>
    if r.opens m then
      let k := if r.banked then bankKey a (masterId m) else a
      s.wr k (((s.rd k &&& ~~~(w32 r.rw)) ||| (v &&& w32 r.rw)) &&& ~~~(v &&& w32 r.w1c))
    else s
  | none => s

/-- A write of an MSI-X vector control (R59): a vector that is unmasked with its message pending sends it. -/
def State.msixWrite (s : State) (m : Master) (a : Nat) (v : W32) : State :=
  let s := s.plainWrite m a v
  let n := (a - 0x12000) / 16
  if a % 16 = 12 ∧ s.bit 0x13000 n ∧ !s.bit a 0 then
    (s.setBit 0x13000 n false).sendMsix n
  else s

/-- A write to the MAILBOX (02). A descriptor of a pair that is enabled or active does not change. -/
def State.mailboxWrite (s : State) (m : Master) (a : Nat) (v : W32) : State :=
  match hostOf m with
  | none => s.plainWrite m a v
  | some h =>
    if a = 0x10014 then s.clearEvents v 0
    else if 0x10020 ≤ a ∧ a < 0x10040 then s.doorbell h ((a - 0x10020) / 4) v
    else if a = 0x10048 then (if v.getLsbD 0 then s.immGoWrite h else s)
    else if 0x10100 ≤ a ∧ a < 0x10200 then
      let k := (a - 0x10100) / 0x20
      if a % 0x20 = 0x1C then s.writeQpCtrl h k v
      else if s.bit (qpReg k 0x1C) 0 || s.qpActive k then s
      else s.plainWrite m a v
    else if 0x12000 ≤ a ∧ a < 0x12100 then s.msixWrite m a v
    else s.plainWrite m a v

/-- A write to the TIME block; the servo registers are open to the SERVO_ROLE and Firn (R291). -/
def State.timeWrite (s : State) (m : Master) (a : Nat) (v : W32) : State :=
  if a = 0x60020 then s.took (execAdjWrite m v s)
  else if a = 0x60028 then s.servoCtrl m (v.getLsbD 0) (v.getLsbD 1) (v.getLsbD 2)
  else if a = 0x60060 then (s.plainWrite m a v).settlePps
  else if a = 0x60024 then (if s.servoWriter m then s.wr a v else s)
  else if 0x60200 ≤ a ∧ a % 0x20 = 8 then s.took (execTevtArm m (BitVec.ofNat 8 ((a - 0x60200) / 0x20)) v s)
  else if 0x60200 ≤ a ∧ a % 0x20 = 0 ∧ m = .firn then s.setEvMode ((a - 0x60200) / 0x20) (v.toNat % 8)
  else s.plainWrite m a v

/-- A write of CAL_CTRL (R323, R325, R326): a COMMIT acts, and a shift written with it is rejected; of two shift requests
the one that DST refuses is rejected. -/
def State.calCtrl (s : State) (m : Master) (v : W32) : State :=
  if !calWriter m then s
  else
    let s := if v.getLsbD 1 then s.calCapture false else s
    if v.getLsbD 0 then
      let s := s.calCommit false
      if v.getLsbD 2 || v.getLsbD 3 then s.setBit aCalStatus 13 true else s
    else
      let fwd := v.getLsbD 2 && !s.shiftRefused true false
      let back := v.getLsbD 3 && !s.shiftRefused false false
      let s := if (v.getLsbD 2 && !fwd) || (v.getLsbD 3 && !back) then s.setBit aCalStatus 13 true else s
      if fwd then s.calShift true false else if back then s.calShift false false else s

/-- A write to the PAIR block. Firn raises EPOCH only. -/
def State.pairWrite (s : State) (m : Master) (a : Nat) (v : W32) : State :=
  if a = aPairCtrl then
    let s := s.plainWrite m a v
    if v.getLsbD 1 ∧ m = .firn then s.refreshAlive else s
  else if a = aEpoch then
    (if m = .firn ∧ (s.rd aEpoch).toNat < v.toNat % 2 ^ 24 then s.setEpoch (v.toNat % 2 ^ 24) else s)
  else if a = 0x90034 then (if v.getLsbD 0 then s.took (execMirrorPointRequest m s) else s)
  else if 0x90100 ≤ a ∧ a < 0x90380 ∧ m = .firn then
    let k := (a - 0x90100) / 8
    let t := s.wr a v
    t.setRegion k (t.region k).1 (t.region k).2
  else s.plainWrite m a v

/-- A write to the FAULT block: RUN settles the hold, CLEAR and GO are requests, and a change of an enable, a user bit or an
input's choice latches what is asserted (R388 to R391, R398, R401, R402). -/
def State.faultWrite (s : State) (m : Master) (a : Nat) (v : W32) : State :=
  if a = 0xA0004 then
    if m ≠ .firn then s
    else
      let s := (s.plainWrite m a v).settleHold
      (if v.getLsbD 1 then (s.clearRequest 0).1 else s).showGpio
  else if a = 0xA0080 ∨ a = 0xA0084 then
    (if userWriter m then s.userWrite ((a - 0xA0080) / 4) v else s)
  else if a = 0xA00A0 then
    let s := s.plainWrite m a v
    if v.getLsbD 31 ∧ m = .firn then s.faultTest (s.fld a 7 0) else s
  else (((s.plainWrite m a v).latchAsserted).showGpio)

/-- Firn's write of PCR_DOM_REQ: the register takes the value, and the switchable domains whose state it changes begin to
switch, within the refusals of R468 (R468 to R470). A STATION's SOLVB and LPDDR4X come on by a PWR class command alone (R30). -/
def State.domWrite (s : State) (v : W32) : State :=
  [0x0C, 0x0D, 0x10, 0x11, 0x12, 0x13, 0x14, 0x15, 0x16].foldl (fun t c =>
    let b := v.getLsbD c
    if t.bit aDomOn c == b || t.bit aDomBusy c || t.domainBarred c b || (b && !t.isHead && (c == 0x0D || c == 0x16)) then t
    else t.startSwitch c b) (s.plainWrite .firn aDomReq v)

/-- A master may write the pair of a half: the register is open to it, and a servo register is to the SERVO_ROLE and Firn
alone (R291). -/
def State.mayPair (s : State) (m : Master) (a : Nat) : Bool :=
  (regRow a).any (fun (r : RegRow) => r.opens m) && (a / 0x40 != 0x60000 / 0x40 || s.servoWriter m)

/-- A write of a register by a master that may reach it (R10), by block; an offset that names no register ignores it (R25). -/
def State.regWrite (s : State) (m : Master) (a : Nat) (v : W32) : State :=
  if (regRow a).isNone then s
  else if isPairLo a then
    (if s.mayPair m a then s.holdLow m a v else s)
  else if 4 ≤ a ∧ isPairLo (a - 4) then
    (if s.mayPair m a then s.commitPair m (a - 4) v else s)
  else
    match a / 0x10000 with
    | 0x0 =>
      if a = 0x20 then
        let s := if v.getLsbD 0 then s.atLoad else s
        if v.getLsbD 1 then s.atCommit else s
      else s.plainWrite m a v
    | 0x1 => s.mailboxWrite m a v
    | 0x2 => if a = 0x20044 then s.tileSubmit m v else s.plainWrite m a v
    | 0x3 =>
      if a = 0x30058 then (if v.getLsbD 0 then s.took (execPlanArm m s) else s)
      else if a = 0x30024 then (if m = .firn then s.ddata true v else s)
      else if 0x34000 ≤ a ∧ a < 0x36000 ∧ a % 32 = 12 then
        (if loopWriter m then s.writeLoopCmd ((a - 0x34000) / 32) v else s)
      else s.plainWrite m a v
    | 0x4 => if a = 0x40020 then s.took (execTaskEnd m (BitVec.ofNat 8 (v.toNat % 16)) ⟨[]⟩ s) else s.plainWrite m a v
    | 0x5 =>
      if a = 0x50004 then
        (if m = .firn ∧ v.getLsbD 0 ≠ s.bit a 0 then s.setMeterRun (v.getLsbD 0) else s)
      else if a = 0x51700 then (if v.getLsbD 0 ∧ m = .firn then s.askSave else s)
      else if 0x513F0 ≤ a ∧ a % 0x100 = 0xF0 then
        (if v.getLsbD 0 ∧ m = .mtr then s.heatCommit ((a - 0x513F0) / 0x100) else s)
      else s.plainWrite m a v
    | 0x6 => s.timeWrite m a v
    | 0x7 => if a = 0x70004 then s.calCtrl m v else s.plainWrite m a v
    | 0x8 =>
      if a = 0x8001C then s.took (execTxTailWrite m v s)
      else if 0x80600 ≤ a ∧ a % 0x20 = 0 then
        (if v.getLsbD 0 then s.took (execUartGo m (BitVec.ofNat 8 ((a - 0x80600) / 0x20)) s) else s)
      else s.plainWrite m a v
    | 0x9 => s.pairWrite m a v
    | 0xA => s.faultWrite m a v
    | 0xB => if a = 0xB004C then s.took (execLogPost m (BitVec.ofNat 16 v.toNat) s) else s.plainWrite m a v
    | 0xC => if a = 0xC000C then (if v.getLsbD 0 ∧ m = .firn then s.took (execBootGood s.now s) else s) else s
    | 0xE =>
      if a = aRotCtrl then
        let s := s.plainWrite m a v
        if v.getLsbD 1 ∧ m = .firn ∧ s.hasRsv then s.rotInstant [] else s
      else if a = aDomReq then (if m = .firn then s.domWrite v else s)
      else if a = 0xE0030 ∨ (0xE0040 ≤ a ∧ a < 0xE0064) then s.avsWrite m a v
      else s.plainWrite m a v
    | _ => (s.plainWrite m a v).showGpio

/-! ### What a read of a register returns -/

/-- The value of a register as a master sees it: WO fields read 0, a banked register is the master's own copy, and the fields
that follow other state are formed at the read. -/
def State.view (s : State) (m : Master) (a : Nat) : W32 :=
  let n := masterId m
  let own := fun (x : Nat) => s.rd (bankKey x n)
  if 0xA0040 ≤ a ∧ a < 0xA0058 then s.assertWord ((a - 0xA0040) / 4)
  else if a = 0xB0008 then s.logState
  else if a = 0x6004C then s.sinceUpd
  else if a = 0x70054 then w32 s.presc
  else if a = 0x60014 ∨ a = 0x60018 ∨ (0x60200 ≤ a ∧ a < 0x60280 ∧ a % 0x20 = 0x18) then own a
  else if a = aRotNext ∨ a = aRotNext + 4 then (if s.timeState = 0 then 0 else s.rd a)
  else if a = aCalStatus then putFld (s.rd a) 15 15 (b2n (kfind s.cal.shadows n).isSome)
  else if a = 0x20054 ∨ a = 0x20058 ∨ a = 0x2005C then
    match s.batch (own 0x20050).toNat with
    | some b => if a = 0x20054 then w32 b.done else if a = 0x20058 then w32 b.carried else s.batchWord b
    | none => if a = 0x2005C then 0xFFFFFFFF else 0
  else
    match regRow a with
    | some r => (if r.banked then own a else s.rd a) &&& ~~~(w32 r.wo)
    | none => 0

/-- The register is the low half of a 64-bit pair that masters read (R212): those they write, and the read-only ones. -/
def isReadLo (a : Nat) : Bool :=
  isPairLo a || readRuns.any fun r => decide (r.1 ≤ a) && (a - r.1) % r.2.2 == 0 && decide ((a - r.1) / r.2.2 < r.2.1)

/-- A read of a low half captures the high half as it stands then, for the reader (R212). -/
def State.captureHi (s : State) (m : Master) (a : Nat) : State :=
  if isReadLo a then
    { s with halves := { s.halves with shadows := kset s.halves.shadows (halfKey (a + 4) (masterId m)) (s.view m (a + 4)) } }
  else s

/-- What a register whose RC fields a read clears holds after it (R10, R11): what hardware sets in the same cycle stays. -/
def rcAfter (v reset rc rising : W32) : W32 :=
  (v &&& ~~~rc) ||| (if rising &&& rc = 0 then reset &&& rc else rising &&& rc)

/-- A read of a register: the value; RC fields clear, but for what hardware sets in the same cycle (R11); a low half
captures its high half, a high half with a capture is the captured one (R212). -/
def State.regRead (s : State) (m : Master) (a : Nat) (rising : W32) : State × W32 :=
  let k := halfKey a (masterId m)
  if a = 0x60010 then
    let t := s.took (execTimeNowCapture m s)
    (t.captureHi m a, w32 (leNat t.bus.data))
  else if 0x60200 ≤ a ∧ a < 0x60280 ∧ a % 0x20 = 0x14 then
    let t := s.took (execTevtFifoRead m (BitVec.ofNat 8 ((a - 0x60200) / 0x20)) s)
    (t.captureHi m a, w32 (leNat t.bus.data))
  else if a = 0x30024 ∧ m = .firn then
    let t := s.ddata false 0
    (t, w32 (leNat t.bus.data))
  else if 0x70010 ≤ a ∧ a < 0x7002C then
    let r := s.readGroup (masterId m) ((a - 0x70010) / 4)
    (r.2, w32 r.1.toNat)
  else
    match kfind s.halves.shadows k with
    | some v => ({ s with halves := { s.halves with shadows := kdel s.halves.shadows k } }, v)
    | none =>
      let v := s.view m a
      let s := s.captureHi m a
      match regRow a with
      | some r => if r.rc = 0 then (s, v) else (s.wr a (rcAfter (s.rd a) (regReset a) (w32 r.rc) rising), v)
      | none => (s, v)

/-! ### Transactions -/

/-- Bits that hardware sets in the cycle of a write stay set where the write would clear them (R11). -/
def State.setWins (s : State) (m : Master) (a : Nat) (rising : W32) : State :=
  if rising = 0 then s else
  match regRow a with
  | some r =>
    let k := if r.banked then bankKey a (masterId m) else a
    s.wr k (s.rd k ||| (rising &&& w32 r.w1c))
  | none => s

/-- A master writes a register; `rising` are the W1C bits that hardware sets in the same cycle (R11). -/
def State.busWrite (s : State) (m : Master) (a : Nat) (v : W32) (rising : W32 := 0) : State :=
  s.atReg m a fun s => if a = 0x10014 then s.clearEvents v (rising.truncate 16) else (s.regWrite m a v).setWins m a rising

/-- A master reads a register: a read that is not admitted returns 0 (R24). -/
def State.busRead (s : State) (m : Master) (a : Nat) (rising : W32) : State × W32 :=
  match s.regDenied m a false with
  | some p => (s.denyReg m a false p, 0)
  | none => s.regRead m a rising

/-- REGISTER_WRITE (R10, R11): a write of an aligned register. -/
def execRegisterWrite (master : Master) (address : Nat) (value : WriteData) (s : State) : Out :=
  .next (s.busWrite master (address / 4 * 4) value.value value.rising)

/-- RC_READ (R10, R11): a read of a register; `rising` are the bits that hardware sets in the same cycle. -/
def execRcRead (master : Master) (address : Nat) (rising : W32) (s : State) : Out :=
  let r := s.busRead master (address / 4 * 4) rising
  .next { r.1 with bus := { data := leBytes 4 r.2.toNat, ur := false } }

/-- PAIR_HI_WRITE (R212): a write of a high half commits the pair. -/
def execPairHiWrite (master : Master) (address : Nat) (value : W32) (s : State) : Out :=
  .next (s.busWrite master (address / 4 * 4) value)

/-- PAIR_LO_READ (R212): a read of a low half captures the high half for the reader. -/
def execPairLoRead (master : Master) (address : Nat) (s : State) : Out :=
  let r := s.busRead master (address / 4 * 4) 0
  .next { r.1 with bus := { data := leBytes 4 r.2.toNat, ur := false } }

/-- FABRIC_AT_LOAD (R449): the FABRIC block is reached by FIRN alone. -/
def execFabricAtLoad (master : Master) (s : State) : Out :=
  .next (if master = .firn then s.atLoad else s.denyReg master 0x20 true true)

/-- FABRIC_AT_COMMIT (R449). -/
def execFabricAtCommit (master : Master) (s : State) : Out :=
  .next (if master = .firn then s.atCommit else s.denyReg master 0x20 true true)

/-- A master's access to an address is admitted: memory by R447, a register by its path and its block's table. -/
def State.admits24 (s : State) (m : Master) (kind a : Nat) : Bool :=
  if 0x40000000 ≤ a ∧ a < 0x40110000 then
    decide (kind ≤ 1) && (s.regDenied m ((a - 0x40000000) / 4 * 4) (kind == 1)).isNone
  else s.memAdmits m kind a 1

/-- ACCESS_VIOL (R24, R450): a transaction that is not admitted is refused; `kind` 0 read, 1 write, 2 fetch. A read returns
0. One that is admitted is no violation. -/
def execAccessViol (master : Master) (kind : Byte) (address : Nat) (s : State) : Out :=
  let a := address % 2 ^ 40
  let k := kind.toNat % 4
  if k > 2 || s.admits24 master k a then .next s
  else
    let s := s.refused master k a
    .next { s with bus := { data := if k = 1 then [] else leBytes 4 0, ur := false } }

/-- A store of a core to memory; a CYC role's marks retentive lines (R226). -/
def State.coreStore (s : State) (m : Master) (a : Nat) (d : Bytes) : State :=
  let s := ((s.breach m a d.length).wrMem a d).spoilBoot a d.length
  if 2 ≤ masterId m ∧ masterId m ≤ 5 then s.markRet a d.length else s

/-- The debug module reaches the cores in scope (R465, R466): [0] pool tiles, [1] the Firn pair; in factory test all. The
Guard core is never in scope. -/
def State.inScope (s : State) (core : Master) : Bool :=
  let n := masterId core
  let tile := decide (2 ≤ n ∧ n ≤ 10)
  (tile || n == 0) && (s.chip.factory || (s.key.debug && s.key.scope.getLsbD (if tile then 0 else 1)))

/-- DBG_ACCESS (R20, R465): a debugger's 32-bit read, or its write of the bytes given, under the identifier of the core to
which it is attached. Without debug the instruction is not available and the TAP selects BYPASS (PRESUMED, log 17). -/
def execDbgAccess (core : Master) (address : Nat) (write : Bool) (data : Bytes) (s : State) : Out :=
  if !s.inScope core then .next (s.jtagScan 0x1F [0])
  else
    let a := address % 2 ^ 40
    let n := if write then data.length else 4
    if 0x40000000 ≤ a ∧ a < 0x41000000 then
      let o := (a - 0x40000000) / 4 * 4
      if write then .next ((s.busWrite core o (w32 (leAt data 0 4))).jtagScan 0x12 [])
      else
        let r := s.busRead core o 0
        .next (r.1.jtagScan 0x12 (leBytes 4 r.2.toNat))
    else if n = 0 then .next (s.jtagScan 0x12 [])
    else if s.memAdmits core (b2n write) a n then
      if write then .next ((s.coreStore core a data).jtagScan 0x12 [])
      else .next (s.jtagScan 0x12 (s.rdMem a n))
    else
      let s := s.refused core (b2n write) a
      .next (s.jtagScan 0x12 (if write then [] else leBytes 4 0))

/-! ### The Octal SPI target's address map (R40) -/

/-- What the bytes of an SPI access beside the BAR0 range meet: the state, the bytes read, the window offsets of the bytes that
received the error response, and whether a byte is unmapped. -/
structure SpiRun where
  s : State
  data : Bytes := []
  bad : List Nat := []
  unmapped : Bool := false

/-- The target takes one byte of the BAR2 range (R40): admitted and stored or read, or not. -/
def SpiRun.byte (r : SpiRun) (off : Nat) (w : Option Byte) : SpiRun :=
  let a := r.s.window + off
  let ok := r.s.sramOk .hosts w.isSome a 1 && r.s.cleanRun w.isSome a 1
  { r with s := match w with
             | some b => if ok then (r.s.breach .hosts a 1).wrMem a [b] else r.s
             | none => r.s
           data := r.data ++ (if ok && w.isNone then r.s.rdMem a 1 else [0])
           bad := if ok then r.bad else r.bad ++ [off] }

/-- A read of `n` bytes from SPI address `a`, byte by byte (R40); `f` bounds the pieces. -/
def SpiRun.read (r : SpiRun) (a n : Nat) : Nat → SpiRun
  | 0 => r
  | f + 1 =>
    if n = 0 then r
    else if a < 0x10000 ∧ a % 4 = 0 ∧ 4 ≤ n then
      let q := r.s.busRead .hosts (0x10000 + a) 0
      ({ r with s := q.1, data := r.data ++ leBytes 4 q.2.toNat } : SpiRun).read (a + 4) (n - 4) f
    else if 0x01000000 ≤ a ∧ a < 0x02000000 then (r.byte (a - 0x01000000) none).read (a + 1) (n - 1) f
    else ({ r with data := r.data ++ [0], unmapped := r.unmapped || decide (0x10000 ≤ a) } : SpiRun).read (a + 1) (n - 1) f

/-- A write of bytes to SPI address `a`, byte by byte (R40). -/
def SpiRun.write (r : SpiRun) (a : Nat) (d : Bytes) : Nat → SpiRun
  | 0 => r
  | f + 1 =>
    if d.isEmpty then r
    else if a < 0x10000 ∧ a % 4 = 0 ∧ 4 ≤ d.length then
      ({ r with s := r.s.busWrite .hosts (0x10000 + a) (w32 (leAt d 0 4)) } : SpiRun).write (a + 4) (d.drop 4) f
    else if 0x01000000 ≤ a ∧ a < 0x02000000 then (r.byte (a - 0x01000000) d.head?).write (a + 1) (d.drop 1) f
    else ({ r with unmapped := r.unmapped || decide (0x10000 ≤ a) } : SpiRun).write (a + 1) (d.drop 1) f

/-- The access ends: MB_ERR once with code 5 where a byte was in error (R40), MB_ERRADDR and the fabric's record for the first
byte that the window refused (R38, R450; DESIGN CHOICE, log 75). -/
def SpiRun.close (r : SpiRun) (write : Bool) : State :=
  let s := match r.bad with
    | [] => r.s
    | o :: _ =>
      let s := r.s.wr 0x10044 (w32 o)
      if s.sramOk .hosts write (s.window + o) 1 then s else s.violation 12 0 (b2n write) (s.window + o) false
  if r.bad.isEmpty && !r.unmapped then s else s.mbErr 5 0 false

/-- FAST_READ (R39, R40). -/
def execFastRead (address : W32) (length : Nat) (s : State) : Out :=
  if !s.spiOn then .next s
  else
    let r := ({ s := s } : SpiRun).read address.toNat length length
    .next { r.close false with bus := { data := r.data, ur := false } }

/-- PAGE_PROGRAM (R39, R40): 1 to 256 bytes, with WEL, which it clears. R39 gives no effect to any other length: such an
access is ignored whole and WEL stays (DESIGN CHOICE, log 75). -/
def execPageProgram (address : W32) (data : Bytes) (s : State) : Out :=
  if !s.spiOn || !s.spi.wel || data.isEmpty || decide (data.length > 256) then .next s
  else
    let r := ({ s := s } : SpiRun).write address.toNat data data.length
    .next { r.close true with spi := { r.s.spi with wel := false } }

end Sys2Proof.Machine
end

