-- ==== Sys2Proof/Machine/ConfigCmd.lean ====
section
/-! DEFINITION. The configuration record: reading it, storing it, and what takes effect at once (02, R76; 15, R442). What
the bytes of a record mean comes with the command, since the manual gives no layout (DESIGN CHOICE, log 7). -/

namespace Sys2Proof.Machine

/-- SYS_CONFIG_READ (R76). -/
def execSysConfigRead (i : Issue) (record : W16) (buf : Buf) (s : State) : Out :=
  .next (s.hostCmd { op := 0x0108, plen := 10 } i fun s =>
    match kfind s.cfgBytes record.toNat with
    | none => s.done i eParam
    | some b =>
      s.checked i [(!s.bufOk i.host true buf, eAccess), (decide (buf.len.toNat < b.length), eNospace)] fun s =>
        (s.wrMem (s.winAddr buf.off) b).complete i eOk (w32 b.length) (w32 (s.fld aCfgFmt 15 0)) 0)

/-- CAPT of both MCLK groups lies in 3 to 12 (R252; E_PARAM, DESIGN CHOICE, log 78). -/
def captOk (v : W32) : Bool :=
  decide (3 ≤ fldOf v 3 0 ∧ fldOf v 3 0 ≤ 12) && decide (3 ≤ fldOf v 11 8 ∧ fldOf v 11 8 ≤ 12)

/-- What the manual says a stored record must keep to: DDR_SIZE (R512), access regions of tile roles and hosts (R448),
PDIV (R503). -/
def State.recordOk (s : State) (c : CfgRecord) : Bool :=
  decide (c.ddrSize ≤ 4) && (c.regions.all s.entryOk) && captOk c.mtr.capt &&
  c.io.all fun p => p.1 != 4 || decide (fldOf p.2 7 4 ≤ 11)

/-- The bytes that the configuration store has for records: 2 MB less the boot record (R27, R424). -/
def storeRoom : Nat := 0x200000 - 0x2000

/-- The metrological fields that a new record alters, as METRO_CHANGE names them (R257): METRO_LOCK, KU, KI, IREF,
MTR_CAPT, MTR_AUXMODE. -/
def metroFields (a b : CfgRecord) : List Nat :=
  (if a.metroLock = b.metroLock then [] else [0]) ++ (if a.mtr.ku = b.mtr.ku then [] else [1]) ++
  (if a.mtr.ki = b.mtr.ki then [] else [2]) ++ (if a.mtr.iref = b.mtr.iref then [] else [3]) ++
  (if a.mtr.capt = b.mtr.capt then [] else [4]) ++ (if a.mtr.auxMode = b.mtr.auxMode then [] else [5])

/-- A record becomes the active one (R4, R257, R388, R512): MTR_CTRL.METRO_LOCK and MB_STATUS.PERS_MISMATCH follow it,
CONFIG_BAD ends, and the stored format is the firmware's (R442, R443); DDR_SIZE waits for the next reset. -/
def State.takeRecord (s : State) (c : CfgRecord) : State :=
  let old := s.conf
  let s := ({ s with cfg := some c } : State).setFld aCfgFmt 15 0 (s.fld aCfgFmt 31 16)
  let s := (s.setBit 0x50004 1 c.metroLock).setBit 0x10010 6 s.persMismatch
  ((metroFields old c).foldl State.metroChange s).level 3 false

/-- SYS_CONFIG_WRITE (R442, R448, R512). -/
def execSysConfigWrite (i : Issue) (record : W16) (buf : Buf) (s : State) : Out :=
  .next (s.hostCmd { op := 0x0109, plen := 10 } i fun s =>
    s.checked i [(!s.bufOk i.host false buf, eAccess), (i.env.recFormat.toNat != s.fld aCfgFmt 31 16, eVersion)] fun s =>
      match i.env.record with
      | none => s.done i eIntegrity
      | some c =>
        let rest := kdel s.cfgBytes record.toNat
        let used := (rest.map fun (p : Nat × Bytes) => p.2.length).sum
        s.checked i [(!s.recordOk c, eParam), (decide (used + buf.len.toNat > storeRoom), eNospace)] fun s =>
          (({ s with cfgBytes := kset s.cfgBytes record.toNat (s.rdBuf buf) } : State).takeRecord c).done i eOk)

end Sys2Proof.Machine
end

