-- ==== Sys2Proof/Machine/Drift.lean ====
section
/-! DEFINITION. The DRIFT class commands and the rows of drift rounds (05). -/

namespace Sys2Proof.Machine

/-! ### Commands (R180, R181) -/

/-- DRIFT_NET_CONFIG (R153, R156, R159, R170, R178, R180). -/
def execDriftNetConfig (i : Issue) (buf : Buf) (s : State) : Out :=
  .next (s.hostCmd { op := 0x0301, plen := 8, pers := some 1, frozenNo := true } i fun s =>
    let b := s.rdBuf buf
    s.checked i [(!s.bufOk i.host false buf, eAccess), (leAt b 0 2 != 1, eVersion),
                 (!netShape b || !netTimes b || !(s.drift.sched.all (netFitsSched b)) ||
                   (s.paired && decide (netVolume b s.rounds > 0x800000)), eParam)] fun s =>
      let s := s.takeNet (((s.periodAt s.now).map s.periodStart).getD 0)
      (s.setHd fun h => { h with netNext := some (s.now, b) }).done i eOk)

/-- DRIFT_PERIOD_SET (R151, R153, R178, R180). -/
def execDriftPeriodSet (i : Issue) (period : W32) (rounds : Byte) (start : W64) (s : State) : Out :=
  .next (s.hostCmd { op := 0x0302, plen := 13, frozenNo := true } i fun s =>
    let q := (period.toNat, rounds.toNat, start.toNat)
    s.checked i [(!decide (1 ≤ q.1 ∧ q.1 ≤ 3600 ∧ 1 ≤ q.2.1 ∧ q.2.1 ≤ 16) ||
                   (s.isHead && s.netHeld.any fun b => !netFitsSched b q || (s.paired && decide (netVolume b q.2.1 > 0x800000))), eParam),
                 (s.isHead && s.drift.hd.started.isSome, eState)] fun s =>
      ({ s with drift := { s.drift with sched := some q } } : State).done i eOk)

/-- DRIFT_TEMPLATE_SET (R162). -/
def execDriftTemplateSet (i : Issue) (buf : Buf) (s : State) : Out :=
  .next (s.hostCmd { op := 0x0303, plen := 8, pers := some 0, frozenNo := true } i fun s =>
    let b := s.rdBuf buf
    s.checked i [(!s.bufOk i.host false buf, eAccess), (leAt b 0 2 != 1, eVersion), (!s.tmplOk b, eParam)] fun s =>
      (s.setSt fun t => { t with tmplNext := some (s.now, (s.probAt (tBase b)).n, b) }).done i eOk)

/-- This unit's bid waits in a queue. -/
def State.bidQueued (s : State) : Bool :=
  (List.range 4).any fun p => (s.portFrames p).any fun f => isOwnDrift f && subtypeOf f.bytes == 0x12

/-- DRIFT_SLOT_SET (R180). -/
def execDriftSlotSet (i : Issue) (position : Byte) (slot : W16) (s : State) : Out :=
  .next (s.hostCmd { op := 0x0304, plen := 3, pers := some 0, frozenNo := true } i fun s =>
    s.checked i [(!decide (1 ≤ position.toNat ∧ position.toNat ≤ 64 ∧ slot.toNat ≤ 1023), eParam), (s.bidQueued, eState)] fun s =>
      (s.setSt fun t => { t with placeNext := some (s.now, position.toNat, slot.toNat) }).done i eOk)

/-- DRIFT_FALLBACK_SET (R175, R180). -/
def execDriftFallbackSet (i : Issue) (buf : Buf) (hold : Byte) (s : State) : Out :=
  .next (s.hostCmd { op := 0x0305, plen := 9, pers := some 0 } i fun s =>
    let n := buf.len.toNat
    s.checked i [(!decide (8 ≤ n ∧ n ≤ 512 ∧ n % 8 = 0 ∧ 1 ≤ hold.toNat), eParam), (!s.bufOk i.host false buf, eAccess)] fun s =>
      let l := dblsOf (n / 8) (s.rdBuf buf)
      let s := s.setSt fun t => { t with fallback := l }
      ({ s with drift := { s.drift with hold := hold.toNat } } : State).done i eOk)

/-- DRIFT_START (R153, R154, R180, R77). -/
def execDriftStart (i : Issue) (s : State) : Out :=
  .next (s.hostCmd { op := 0x0306, plen := 0, pers := some 1, frozenNo := true } i fun s =>
    match s.netHeld, s.drift.sched with
    | some b, some q =>
      s.checked i [(s.standby, eClaim), (s.timeState != 2 || s.drift.hd.started.isSome, eState), (!netFitsSched b q, eParam)] fun s =>
        let p := q.1 * 1000000000
        let k := (s.now + 1000000000 - q.2.2 + p - 1) / p
        let s := s.setHd fun h => { h with started := some k, freshBranches := (netBranches b).map fun x => x.id }
        s.complete i eOk (w32 (s.periodStart k)) 0 0
    | _, _ => s.done i (if s.standby then eClaim else eState))

/-- DRIFT_STOP (R180): a period whose final round has been completed still commits its plan. -/
def execDriftStop (i : Issue) (s : State) : Out :=
  .next (s.hostCmd { op := 0x0307, plen := 0, pers := some 1 } i fun s =>
    let s := s.setHd fun h => { h with started := none, ran := h.ran && h.final != 0 }
    let s := (List.range 4).foldl (fun t p =>
      (t.removeFrames p (fun f => isOwnDrift f && subtypeOf f.bytes != 0x13) 2).setDriftWaiting p
        ((t.driftWaiting p).filter fun q => subtypeOf q.2 == 0x13)) s
    s.done i eOk)

/-- The number of the period now, modulo 2^32. -/
def State.nowPeriod (s : State) : Nat := (s.periodAt s.now).getD 0

/-- Write a read's bytes (R181). -/
def State.answerRead (s : State) (i : Issue) (buf : Buf) (b : Bytes) (w1 : Nat) : State :=
  s.checked i [(!s.bufOk i.host true buf, eAccess), (decide (buf.len.toNat < b.length), eNospace)] fun s =>
    (s.wrMem (s.winAddr buf.off) b).complete i eOk (w32 b.length) (w32 w1) 0

/-- DRIFT_PRICES_READ (R180, R181). -/
def execDriftPricesRead (i : Issue) (period : W32) (round : Byte) (buf : Buf) (s : State) : Out :=
  .next (s.hostCmd { op := 0x0308, plen := 13, pers := some 1 } i fun s =>
    let now := s.nowPeriod
    let l := s.drift.hd.prices.filter fun q => keptHead now q.1 && q.1 % 2 ^ 32 == period.toNat && q.2.1 == round.toNat
    if l.isEmpty then s.done i eParam
    else s.answerRead i buf ((sortBy (fun q => q.2.2.1) l).flatMap fun q => q.2.2.2) 0)

/-- DRIFT_PLAN_READ (R180, R181). -/
def execDriftPlanRead (i : Issue) (period : W32) (buf : Buf) (s : State) : Out :=
  .next (s.hostCmd { op := 0x0309, plen := 12 } i fun s =>
    let now := s.nowPeriod
    if s.isHead then
      let l := s.drift.hd.plans.filter fun q => keptHead now q.1 && q.1 % 2 ^ 32 == period.toNat
      if l.isEmpty then s.done i eParam
      else s.answerRead i buf ((sortBy (fun q => q.2.1) l).flatMap fun q => planEntry q.2.1 q.2.2.1 q.2.2.2) 0
    else
      match s.drift.st.plans.find? fun p => decide (p.period ≤ now ∧ now ≤ p.period + 1) && p.period % 2 ^ 32 == period.toNat with
      | some p => s.answerRead i buf
          (leBytes 4 p.period ++ [BitVec.ofNat 8 p.final, BitVec.ofNat 8 p.src, 0, 0] ++ p.pv.flatMap le8) 0
      | none => s.done i eParam)

/-- A bid's PERIOD is that of the current or the previous period (R181): PERIOD counts modulo 2^32. -/
def keptBid (now k : Nat) : Bool := decide ((now + 2 ^ 32 - k) % 2 ^ 32 ≤ 1)

/-- DRIFT_BID_READ (R180, R181). -/
def execDriftBidRead (i : Issue) (period : W32) (round : Byte) (buf : Buf) (s : State) : Out :=
  .next (s.hostCmd { op := 0x030A, plen := 13, pers := some 0 } i fun s =>
    match s.drift.st.bids.find? fun q => keptBid s.nowPeriod q.1 && q.1 == period.toNat && q.2.1 == round.toNat with
    | some q => s.answerRead i buf q.2.2 (b2n ((q.2.2.getD 5 0).getLsbD 0))
    | none => s.done i eParam)

/-! ### The HEAD -/

/-- No drift round runs: the state of R4, recovery, or a lost SEQ role (R485). -/
def State.driftStopped (s : State) : Bool := s.solvStopped

/-- The round whose round-start instant is `t`: period and round. -/
def State.roundOf (s : State) (t : Nat) : Option (Nat × Nat) :=
  if s.driftStopped then none
  else (s.periodAt t).bind fun k => ((List.range s.rounds).find? fun i => s.roundAt k (i + 1) == t).map fun i => (k, i + 1)

/-- A template and a place that were set before a round-start instant take effect at it (R162, R180). -/
def State.takeSettings (s : State) (tr : Nat) : State :=
  s.setSt fun t =>
    let t := match t.tmplNext with
      | some (at_, n, b) => if at_ < tr then { t with tmpl := some (n, b), tmplNext := none } else t
      | none => t
    match t.placeNext with
    | some (at_, p) => if at_ < tr then { t with place := p, placeNext := none } else t
    | none => t

/-- The PRICE frames of a round (R160): by ascending branch; those sent are kept for DRIFT_PRICES_READ (R181). -/
def State.sendPrices (s : State) (b : Bytes) (k r : Nat) : State :=
  if !s.launches then s
  else s.setHd fun h => { h with prices := h.prices ++ (sortBy NetBranch.id (netBranches b)).map fun x =>
    (k, r, x.id, priceBody false k r x (s.headBranch x.id).lam) }

/-- The ROUND_START frame of a round and the PRICE frames behind it (R160, R171): a T1L port gets the prices of the branches
of its chain. -/
def State.sendRound (s : State) (b : Bytes) (k r : Nat) (stop : Bool) (at_ : Nat) : State :=
  let st := netStations b
  s.sendAll at_ ((0x10, s.roundBody b k r stop at_, fun _ => true) ::
    (if stop then [] else (sortBy NetBranch.id (netBranches b)).map fun x =>
      (0x11, priceBody true k r x (s.headBranch x.id).lam, fun c => st.any fun t => t.chain == c && t.branch == x.id)))

/-- ROUND_START_INSTANT (R152 to R155, R169, R171, R172): the HEAD's frames and supply problems of a round; the frames alone
wait for a LOCKED time base and no FREEZE. At a STATION its new template and place take effect. -/
def execRoundStartInstant (at_ : Nat) (s : State) : Out :=
  .next (
    let s := s.reach at_
    match s.roundOf at_ with
    | none => s
    | some (k, r) =>
      if !s.isHead then s.takeSettings at_
      else if !(s.drift.hd.started.any fun k0 => decide (k0 ≤ k)) || s.standby then s
      else
        let s := if s.drift.hd.period ≠ k ∨ !s.drift.hd.ran then s.beginPeriod k r else s
        let b := s.drift.hd.net.getD []
        let fin := s.drift.hd.final
        if fin ≠ 0 then
          if r = fin + 1 then s.sendRound b k r true at_ else s
        else
          let s := s.setHd fun h => { h with round := r, ran := true }
          ((s.sendRound b k r false at_).sendPrices b k r).startSupplies b r at_)

/-- The first condition of R167 that a bid fails; 0 none. -/
def State.bidFails (s : State) (h : FrameHeader) (v : BidBody) : Nat :=
  let d := s.drift.hd
  let b := d.net.getD []
  match (netStations b).find? fun t => t.addr == h.src.toNat with
  | none => 1
  | some t =>
    if v.branch.toNat != t.branch || v.draws.length != netK b t.branch then 2
    else if v.period.toNat != d.period % 2 ^ 32 || v.round.toNat != d.round || !d.ran || d.started.isNone then 3
    else if v.crc.toNat != priceCrc (s.headBranch t.branch).lam ||
        !(d.prices.any fun q => q.1 == d.period && q.2.1 == d.round && q.2.2.1 == t.branch) then 4
    else if !v.draws.all dFinite then 5
    else if h.at_ ≥ s.roundAt d.period d.round + (leAt b 8 4 + leAt b 16 4) * 1000 || d.closed == d.round then 6
    else if (s.headStation t.addr).bids.any fun q => q.1 == d.round then 7
    else 0

/-- BID (R167). -/
def execBid (header : FrameHeader) (body : BidBody) (s : State) : Out :=
  .next (s.received header 0x12 false fun s =>
    if s.driftStopped || !s.isHead then s
    else
      match s.bidFails header body with
      | 0 =>
        let a := header.src.toNat
        let c := s.headStation a
        s.setHeadStation a { c with bids := (s.drift.hd.round, body.draws) :: c.bids }
      | n => (s.setHd fun h => { h with rejected := h.rejected + 1 }).postSeq 0x0303 header.src.toNat body.round.toNat n)

/-- BID_CLOSE (R168 to R171, R178): codes and draws, the update, the test of convergence. -/
def execBidClose (at_ : Nat) (s : State) : Out :=
  .next (
    let s := s.reach at_
    let d := s.drift.hd
    let b := d.net.getD []
    let r := d.round
    if s.driftStopped || !s.isHead || d.started.isNone || !d.ran || d.closed == r ||
        decide (at_ < s.roundAt d.period r + (leAt b 8 4 + leAt b 16 4) * 1000) then s
    else
      let s := (sortBy NetStation.addr (netStations b)).foldl (fun t x =>
        let (code, dr) := t.sourceOf b x r
        let t := t.setHeadStation x.addr { t.headStation x.addr with code := code, draws := dr }
        if code = r then t else t.postSeq 0x0302 x.addr r code) s
      let sup := netSupplies b
      let (s, ds) := ((List.range sup.length).zip sup).foldl (fun (a : State × List (Nat × Option (List Dbl))) q =>
        let (t, o) := a.1.supplyDraws b q.1 q.2 d.period r
        (t, a.2 ++ [(q.2.1, o)])) (s, [])
      let (s, res) := (sortBy NetBranch.id (netBranches b)).foldl (fun (a : State × Dbl) x =>
        let mine := (ds.filter fun e => e.1 == x.id).map fun e => e.2
        a.1.updateBranch b x r (if mine.all Option.isSome then some (mine.map fun o => o.getD []) else none) a.2) (s, dZero)
      let early := decide (r ≥ leAt b 7 1) && dLe res (w64 (leAt b 24 8))
      let final := decide (r = s.rounds) || early
      let s := s.setHd fun h => { h with closed := r, res := res, final := if final then r else 0 }
      let s := if early && decide (r < s.rounds) then s.postSeq 0x0306 d.period r (hi32 res).toNat else s
      (s.event 14).mirrorPrices b)

/-- A PLAN_COMMIT body for a chain (R173). -/
def planBytes (k final chain : Nat) (codes : List (Nat × Nat)) : Bytes :=
  let npos := codes.foldl (fun m c => max m c.1) 1
  beBytes 4 k ++ [BitVec.ofNat 8 final, BitVec.ofNat 8 npos] ++ beBytes 2 chain ++ List.replicate 8 0 ++
    (List.range 64).map fun p => BitVec.ofNat 8 (((codes.find? fun c => c.1 == p + 1).map fun c => c.2).getD 0x1F)

/-- PLAN_COMMIT_INSTANT (R154, R155, R173, R178): the frames alone wait for a LOCKED time base and no FREEZE. -/
def execPlanCommitInstant (at_ : Nat) (s : State) : Out :=
  .next (
    let s := s.reach at_
    let d := s.drift.hd
    let b := d.net.getD []
    if s.driftStopped || !s.isHead || !d.ran || d.final == 0 || at_ != s.commitAt d.period || s.standby then s
    else
      let st := sortBy NetStation.addr (netStations b)
      let s := s.sendAll at_ ((sortBy id ((st.map fun t => t.chain).eraseDups)).map fun c =>
        (0x13, planBytes d.period d.final c
          ((st.filter fun x => x.chain == c).map fun x => (x.pos, (s.headStation x.addr).code)), fun e => e == c))
      let s := st.foldl (fun t x => t.commitStation d.period x) s
      let s := s.setHd fun h => { h with ran := false, final := 0
                                         supplies := h.supplies.map fun p => (p.1, { p.2 with last := p.2.cur.map fun e => (d.period, e) }) }
      s.mirrorPlan b)

/-! ### The STATION -/

/-- The launch instant of this unit's bid (R157). -/
def State.bidAt (s : State) (i : RoundInfo) : Nat := i.tr + i.solveUs * 1000 + s.drift.st.place.2 * i.slotNs

/-- The schedule that a ROUND_START states is this unit's (R166): its PSTART is the own T_k of its PERIOD. -/
def State.schedMatches (s : State) (i : RoundInfo) : Bool :=
  s.drift.sched.any fun q =>
    q.1 == i.periodS && q.2.1 == i.nr && (s.periodAt i.pstart).any fun k => s.periodStart k == i.pstart && k % 2 ^ 32 == i.period

/-- The round that a STATION works in (R157, R166): that of the last accepted ROUND_START, or a later one of the own
schedule whose ROUND_START was missed, with the phases and, in one period, the schedule and the STOP of the last accepted
frame. None before a frame has been accepted. -/
def State.curRound (s : State) : Option RoundInfo :=
  s.drift.st.info.map fun i =>
    match s.roundNow s.now with
    | some (k, r, t) =>
      if t ≤ i.tr then i
      else
        let i := { i with round := r, tr := t }
        if i.period = k % 2 ^ 32 then i
        else { i with period := k % 2 ^ 32, nr := s.rounds, stop := false, pstart := s.periodStart k
                      periodS := (s.drift.sched.getD (0, 0, 0)).1 }
    | none => i

/-- The latest earlier round of the period that has a history entry (R165). -/
def earlierRound (l : List (Nat × List W64 × List W64)) (r : Nat) : Option (List W64 × List W64) :=
  ((sortBy (fun h => h.1) (l.filter fun h => decide (h.1 < r))).getLast?).map fun h => h.2

/-- SEQ takes the result of the assembled problem once it is there (R164, R165): the round carry-over, and the history of
every round whose result has XVALID. -/
def State.keepResult (s : State) : State :=
  match s.drift.st.work with
  | none => s
  | some w =>
    match w.out, s.resultOf w.tmpl.2 w.batch with
    | none, some r =>
      let h := if s.drift.st.historyOf = w.info.period then s.drift.st.history else []
      let prev := if rCarried r && decide (w.info.round ≥ 2) then earlierRound h w.info.round else none
      let x := (prev.map fun q => q.1).getD (rX r)
      let y := (prev.map fun q => q.2).getD (rY r)
      let s := if prev.isSome then s.wrMem (tRes w.tmpl.2 + 64) (bytesOfDbls x ++ bytesOfDbls y) else s
      s.setSt fun t => { t with
        work := some { w with out := some { status := leAt r 0 2, flags := r.getD 3 0, age := leAt r 12 1, roundcarry := prev.isSome, x := x } }
        history := if t.historyOf = w.info.period ∧ rValid r then
            (w.info.round, x, y) :: t.history.filter (fun q => q.1 != w.info.round)
          else t.history }
    | _, _ => s

/-- The history belongs to one period. -/
def StationSt.inPeriod (t : StationSt) (k : Nat) : StationSt :=
  if t.historyOf = k then t else { t with history := [], historyOf := k }

/-- ROUND_START at a STATION (R166, R176). -/
def execRoundStart (header : FrameHeader) (body : RoundStartBody) (s : State) : Out :=
  .next (s.received header 0x10 true fun s =>
    if s.driftStopped || s.isHead then s
    else
      let s := s.keepResult.takeSettings body.tr.toNat
      let info : RoundInfo := { period := body.period.toNat, round := body.round.toNat, nr := body.nr.toNat, stop := body.stop,
                                pstart := body.pstart.toNat, periodS := body.periodS.toNat, solveUs := body.solveUs.toNat,
                                slotNs := body.slotNs.toNat, bidwinUs := body.bidwinUs.toNat, tr := body.tr.toNat,
                                src := header.src.toNat, port := header.port }
      let s := s.setSt fun t => { t.inPeriod info.period with info := some info }
      if s.schedMatches info then s else s.postSeq 0x0308 info.pstart info.periodS info.nr)

/-- Assemble and submit the local problem (R163, R177): the bid uses only the new result. -/
def State.solveLocal (s : State) (i : RoundInfo) (n : Nat) (b : Bytes) (claim : W32) (v : PriceBody) : State :=
  let (s, ok) := s.assemble b n v.prices i.tr (s.bidAt i - 100000) i.round
  let (s, id) := s.submitOne (tWork b) ok
  s.setSt fun t => { t.inPeriod i.period with
    work := some { claim := claim, crc := v.crc, batch := id, info := i, tmpl := (n, b), out := none }
    ended := if t.ended = some (i.period, i.round) then none else t.ended }

/-- PRICE at a STATION (R157, R163, R166, R176, R177). -/
def execPrice (header : FrameHeader) (body : PriceBody) (s : State) : Out :=
  .next (s.received header 0x11 true fun s =>
    let s := s.keepResult
    match s.curRound, s.drift.st.tmpl with
    | some i, some (n, b) =>
      if s.driftStopped || s.isHead || i.stop || body.period.toNat != i.period || body.round.toNat != i.round || body.branch.toNat != tBranch b ||
          body.prices.length != tK b then s
      else match s.drift.st.work.filter fun w => w.info.period == i.period && w.info.round == i.round with
        | some w =>
          if s.drift.st.ended == some (i.period, i.round) && decide (s.bidAt i ≤ s.now) || decide (header.claim.toNat ≤ w.claim.toNat) then s
          else
            let s := (List.range 4).foldl (fun t p => t.removeFrames p (fun f => isOwnDrift f && subtypeOf f.bytes == 0x12) 2) s
            s.solveLocal i n b header.claim body
        | none => s.solveLocal i n b header.claim body
    | _, _ => s)

/-- The BID body (05): most significant byte first for the wire, least for DRIFT_BID_READ. -/
def bidBody (wire : Bool) (w : Assembled) (o : Solved) (pos : Nat) : Bytes :=
  let u := fun n v => if wire then beBytes n v else leBytes n v
  let (n, b) := w.tmpl
  let flags := b2n (o.flags.getLsbD 1) + 2 * b2n (o.flags.getLsbD 2) + 4 * b2n o.roundcarry
  u 4 w.info.period ++ [BitVec.ofNat 8 w.info.round, BitVec.ofNat 8 flags, BitVec.ofNat 8 (tK b), BitVec.ofNat 8 o.status] ++
    u 2 (tBranch b) ++ [BitVec.ofNat 8 o.age, BitVec.ofNat 8 pos] ++ u 4 w.crc.toNat ++ (drawsOf b n o.x).flatMap fun v => u 8 v.toNat

/-- A round has no bid (R166): the record, once for a round. -/
def State.noBid (s : State) (k r cause : Nat) : State :=
  (s.setSt fun t => { t with ended := some (k, r) }).postSeq 0x0301 k r cause

/-- The bid of a round is formed and queued; the frame is dropped from L on (R157, R164). FREEZE bars its launch alone (R155).
Before any DRIFT_SLOT_SET the slot and the position are 0, and the bid goes with them (DESIGN CHOICE, log 9). -/
def State.queueBid (s : State) (i : RoundInfo) (w : Assembled) (o : Solved) (late : Bool) : State :=
  let body := fun wire => bidBody wire w o s.drift.st.place.1
  let s := s.setSt fun t => { t with
    ended := some (i.period, i.round)
    bids := (t.bids.filter fun q => keptBid i.period q.1 && !(q.1 == i.period && q.2.1 == i.round)) ++ [(i.period, i.round, body false)] }
  if late then s.postSeq 0x0301 i.period i.round 5
  else s.sendOwn i.port 7 (s.bidAt i) (s.fieldFrame i.src 0x12 false (body true)) true

/-- What a round without a queued bid comes to at a time (R157, R164 to R166). R166 names NO_SOLUTION; a result without an x
(XVALID 0: BAD_PROBLEM, CANCELLED) gives no bid either, with the same cause (DESIGN CHOICE, log 77). -/
def State.bidRound (s : State) (i : RoundInfo) (at_ : Nat) : State :=
  let late := decide (s.bidAt i ≤ at_)
  if s.drift.st.ended = some (i.period, i.round) then s
  else if i.stop then s.noBid i.period i.round 3
  else match s.drift.st.work.filter fun w => w.info.period == i.period && w.info.round == i.round with
    | none => if late then s.noBid i.period i.round 1 else s
    | some w =>
      match w.out with
      | none => if late then s.noBid i.period i.round (if s.batchLive w.batch then 5 else 2) else s
      | some o =>
        if o.status = 0x0108 ∨ !o.flags.getLsbD 0 then s.noBid i.period i.round 2
        else if !s.schedMatches i then s.noBid i.period i.round 4
        else s.queueBid i w o late

/-- BID_QUEUE (R157, R164 to R166): the result of the round's problem becomes a bid; from L on, a round without a usable
result has none, and from t_r on where no ROUND_START has ever been accepted (DESIGN CHOICE, log 77). -/
def execBidQueue (at_ : Nat) (s : State) : Out :=
  .next (
    let s := (s.reach at_).keepResult
    if s.driftStopped || s.isHead then s
    else match s.curRound, s.roundNow at_ with
      | some i, _ => s.bidRound i at_
      | none, some (k, r, _) => if s.drift.st.ended = some (k % 2 ^ 32, r) then s else s.noBid (k % 2 ^ 32) r 1
      | none, none => s)

/-- PLAN_COMMIT at a STATION (R174 to R176). -/
def execPlanCommit (header : FrameHeader) (body : PlanBody) (s : State) : Out :=
  .next (s.received header 0x13 true fun s =>
    let s := s.keepResult
    match s.drift.st.tmpl, s.periodAt s.now with
    | some (n, b), some k =>
      let pos := s.drift.st.place.1
      if s.driftStopped || s.isHead || body.period.toNat != k % 2 ^ 32 || body.chain.toNat != tChain b || decide (pos = 0 ∨ pos > body.npos.toNat) then s
      else
        let code := (body.src.getD (pos - 1) 0x1F).toNat
        let eff := s.periodStart (k + 1)
        let p := s.probAt (tBase b)
        let x : Option (List Dbl) :=
          if 1 ≤ code ∧ code ≤ 16 then
            (if s.drift.st.historyOf = body.period.toNat then
              (s.drift.st.history.find? fun h => h.1 == code).map fun h => h.2.1 else none)
          else if code = 0 then s.drift.st.applied.map (shiftX p)
          else none
        let s := match x with
          | some v =>
            (s.stagePlan ((List.range (tNset b)).map fun e => ((tSet b n e).2, v.getD (tSet b n e).1 0)) eff).setSt fun t =>
              { t with applied := some v }
          | none => (s.stageFallback eff).postSeq 0x0305 k (if 1 ≤ code ∧ code ≤ 16 then 3 else 2) 0
        let plan : StationPlan := { period := k, final := body.final.toNat, src := if x.isSome then code else 0x1F, pv := s.staged }
        let s := s.setSt fun t => { t with lastPlan := some k, expired := false
                                           plans := (t.plans.filter fun q => decide (k ≤ q.period + 1) && q.period != k) ++ [plan] }
        s.event 14
    | _, _ => s)

/-- PLAN_HOLD_EXPIRY (R175). -/
def execPlanHoldExpiry (at_ : Nat) (s : State) : Out :=
  .next (
    let s := s.reach at_
    match s.drift.st.lastPlan with
    | some j =>
      let t := s.periodStart (j + 1 + s.drift.hold)
      if s.isHead || s.drift.st.expired || decide (at_ < t) then s
      else ((s.stageFallback t).setSt fun q => { q with expired := true }).postSeq 0x0305 (j + 1 + s.drift.hold) 1 0
    | none => s)

end Sys2Proof.Machine
end

