-- ==== Sys2Proof/Machine/Parse.lean ====
section
/-! DEFINITION. The parameters of a host command (R46): packed in the order of the command index, little-endian, without
padding. -/

namespace Sys2Proof.Machine

/-- A buffer parameter at offset `o` (R46): a window offset and a length. -/
def bufAt (b : Bytes) (o : Nat) : Buf := { off := w32 (leAt b o 4), len := w32 (leAt b (o + 4) 4) }

/-- The command that an opcode and its parameter bytes spell; bytes that are not there read 0. -/
def parseCmd (op : Nat) (i : Issue) (b : Bytes) : Instr :=
  match op with
  | 0x0100 => .sysNop i b
  | 0x0101 => .sysInfo i
  | 0x0102 => .sysWindowSet i (BitVec.ofNat 32 (leAt b 0 4))
  | 0x0103 => .sysAccessGet i (BitVec.ofNat 8 (leAt b 0 1)) (BitVec.ofNat 8 (leAt b 1 1)) (BitVec.ofNat 8 (leAt b 2 1))
  | 0x0104 => .sysAccessSet i (BitVec.ofNat 8 (leAt b 0 1)) (BitVec.ofNat 8 (leAt b 1 1)) (BitVec.ofNat 8 (leAt b 2 1)) (BitVec.ofNat 8 (leAt b 3 1)) (BitVec.ofNat 32 (leAt b 4 4)) (BitVec.ofNat 32 (leAt b 8 4))
  | 0x0105 => .sysEventRoute i (BitVec.ofNat 8 (leAt b 0 1)) (BitVec.ofNat 8 (leAt b 1 1))
  | 0x0106 => .sysRoleMap i
  | 0x0107 => .sysRotate i (BitVec.ofNat 32 (leAt b 0 4)) (BitVec.ofNat 8 (leAt b 4 1))
  | 0x0108 => .sysConfigRead i (BitVec.ofNat 16 (leAt b 0 2)) (bufAt b 2)
  | 0x0109 => .sysConfigWrite i (BitVec.ofNat 16 (leAt b 0 2)) (bufAt b 2)
  | 0x010A => .sysRestart i (BitVec.ofNat 8 (leAt b 0 1))
  | 0x0201 => .solvBatchSubmit i (bufAt b 0) (BitVec.ofNat 8 (leAt b 8 1))
  | 0x0202 => .solvBatchStatus i (BitVec.ofNat 32 (leAt b 0 4))
  | 0x0203 => .solvBatchWait i (BitVec.ofNat 32 (leAt b 0 4)) (BitVec.ofNat 32 (leAt b 4 4))
  | 0x0204 => .solvBatchCancel i (BitVec.ofNat 32 (leAt b 0 4))
  | 0x0205 => .solvLaneStatus i
  | 0x0206 => .solvLaneRetire i (BitVec.ofNat 8 (leAt b 0 1))
  | 0x0207 => .solvParamSet i (BitVec.ofNat 64 (leAt b 0 8)) (BitVec.ofNat 64 (leAt b 8 8))
  | 0x0301 => .driftNetConfig i (bufAt b 0)
  | 0x0302 => .driftPeriodSet i (BitVec.ofNat 32 (leAt b 0 4)) (BitVec.ofNat 8 (leAt b 4 1)) (BitVec.ofNat 64 (leAt b 5 8))
  | 0x0303 => .driftTemplateSet i (bufAt b 0)
  | 0x0304 => .driftSlotSet i (BitVec.ofNat 8 (leAt b 0 1)) (BitVec.ofNat 16 (leAt b 1 2))
  | 0x0305 => .driftFallbackSet i (bufAt b 0) (BitVec.ofNat 8 (leAt b 8 1))
  | 0x0306 => .driftStart i
  | 0x0307 => .driftStop i
  | 0x0308 => .driftPricesRead i (BitVec.ofNat 32 (leAt b 0 4)) (BitVec.ofNat 8 (leAt b 4 1)) (bufAt b 5)
  | 0x0309 => .driftPlanRead i (BitVec.ofNat 32 (leAt b 0 4)) (bufAt b 4)
  | 0x030A => .driftBidRead i (BitVec.ofNat 32 (leAt b 0 4)) (BitVec.ofNat 8 (leAt b 4 1)) (bufAt b 5)
  | 0x0401 => .loopDescWrite i (BitVec.ofNat 16 (leAt b 0 2)) (BitVec.ofNat 8 (leAt b 2 1)) (bufAt b 3)
  | 0x0402 => .loopDescRead i (BitVec.ofNat 16 (leAt b 0 2)) (BitVec.ofNat 8 (leAt b 2 1)) (bufAt b 3)
  | 0x0403 => .loopBankSwap i (BitVec.ofNat 16 (leAt b 0 2))
  | 0x0404 => .loopModeSet i (BitVec.ofNat 16 (leAt b 0 2)) (BitVec.ofNat 8 (leAt b 2 1)) (BitVec.ofNat 64 (leAt b 3 8))
  | 0x0405 => .loopTuneStart i (BitVec.ofNat 16 (leAt b 0 2)) (BitVec.ofNat 8 (leAt b 2 1)) (BitVec.ofNat 64 (leAt b 3 8)) (BitVec.ofNat 64 (leAt b 11 8))
  | 0x0406 => .loopTuneResult i (BitVec.ofNat 16 (leAt b 0 2))
  | 0x0407 => .loopStatus i (BitVec.ofNat 16 (leAt b 0 2))
  | 0x0501 => .cycLoad i (bufAt b 0)
  | 0x0502 => .cycStart i (BitVec.ofNat 8 (leAt b 0 1))
  | 0x0503 => .cycStop i
  | 0x0504 => .cycOnlineChange i
  | 0x0505 => .cycForceSet i (BitVec.ofNat 32 (leAt b 0 4)) (BitVec.ofNat 8 (leAt b 4 1)) (BitVec.ofNat 64 (leAt b 5 8))
  | 0x0506 => .cycForceClear i (BitVec.ofNat 32 (leAt b 0 4))
  | 0x0507 => .cycForceList i (bufAt b 0)
  | 0x0508 => .cycTaskStatus i (BitVec.ofNat 8 (leAt b 0 1))
  | 0x0509 => .cycVarRead i (BitVec.ofNat 32 (leAt b 0 4)) (bufAt b 4)
  | 0x050A => .cycVarWrite i (BitVec.ofNat 32 (leAt b 0 4)) (bufAt b 4)
  | 0x0601 => .mtrChanConfig i (BitVec.ofNat 8 (leAt b 0 1)) (BitVec.ofNat 64 (leAt b 1 8)) (BitVec.ofNat 64 (leAt b 9 8)) (BitVec.ofNat 16 (leAt b 17 2))
  | 0x0602 => .mtrEnergyRead i (BitVec.ofNat 8 (leAt b 0 1)) (BitVec.ofNat 8 (leAt b 1 1)) (BitVec.ofNat 8 (leAt b 2 1))
  | 0x0603 => .mtrDeltaRead i (BitVec.ofNat 8 (leAt b 0 1)) (BitVec.ofNat 8 (leAt b 1 1)) (BitVec.ofNat 8 (leAt b 2 1))
  | 0x0604 => .mtrCalStart i (BitVec.ofNat 8 (leAt b 0 1)) (bufAt b 1)
  | 0x0605 => .mtrPulseConfig i (BitVec.ofNat 8 (leAt b 0 1)) (BitVec.ofNat 32 (leAt b 1 4)) (BitVec.ofNat 16 (leAt b 5 2))
  | 0x0606 => .mtrHeatConfig i (BitVec.ofNat 8 (leAt b 0 1)) (bufAt b 1)
  | 0x0607 => .mtrHeatRead i (BitVec.ofNat 8 (leAt b 0 1)) (bufAt b 1)
  | 0x0608 => .mtrSaveNow i
  | 0x0701 => .timeRead i
  | 0x0702 => .timeSet i (BitVec.ofNat 64 (leAt b 0 8))
  | 0x0703 => .timeState i
  | 0x0704 => .timePortCorr i (BitVec.ofNat 8 (leAt b 0 1)) (BitVec.ofNat 32 (leAt b 1 4)) (BitVec.ofNat 32 (leAt b 5 4)) (BitVec.ofNat 32 (leAt b 9 4))
  | 0x0705 => .timePtpConfig i (bufAt b 0)
  | 0x0706 => .timeEventConfig i (BitVec.ofNat 8 (leAt b 0 1)) (BitVec.ofNat 8 (leAt b 1 1))
  | 0x0801 => .calRead i
  | 0x0802 => .calWrite i (BitVec.ofNat 64 (leAt b 0 8)) (BitVec.ofNat 8 (leAt b 8 1))
  | 0x0803 => .calDstShift i (BitVec.ofNat 8 (leAt b 0 1))
  | 0x0804 => .calAlarmSet i (BitVec.ofNat 8 (leAt b 0 1)) (BitVec.ofNat 64 (leAt b 1 8)) (BitVec.ofNat 8 (leAt b 9 1))
  | 0x0805 => .calTrimMeasure i (BitVec.ofNat 8 (leAt b 0 1)) (BitVec.ofNat 16 (leAt b 1 2))
  | 0x0806 => .calTrimSet i (BitVec.ofNat 16 (leAt b 0 2))
  | 0x0901 => .netPortConfig i (BitVec.ofNat 8 (leAt b 0 1)) (bufAt b 1)
  | 0x0902 => .netPortStatus i (BitVec.ofNat 8 (leAt b 0 1))
  | 0x0903 => .netAddrSet i (BitVec.ofNat 16 (leAt b 0 2))
  | 0x0904 => .netVlanSet i (BitVec.ofNat 8 (leAt b 0 1)) (bufAt b 1)
  | 0x0905 => .netMacsecSa i (BitVec.ofNat 8 (leAt b 0 1)) (BitVec.ofNat 8 (leAt b 1 1)) (BitVec.ofNat 8 (leAt b 2 1)) (BitVec.ofNat 8 (leAt b 3 1)) (BitVec.ofNat 64 (leAt b 4 8))
  | 0x0906 => .netQueueConfig i (BitVec.ofNat 8 (leAt b 0 1)) (BitVec.ofNat 8 (leAt b 1 1)) (bufAt b 2)
  | 0x0907 => .netUartConfig i (BitVec.ofNat 8 (leAt b 0 1)) (bufAt b 1)
  | 0x0908 => .netFrameSend i (BitVec.ofNat 8 (leAt b 0 1)) (BitVec.ofNat 8 (leAt b 1 1)) (BitVec.ofNat 64 (leAt b 2 8)) (bufAt b 10)
  | 0x0A01 => .pairConfig i (bufAt b 0)
  | 0x0A02 => .pairStatus i
  | 0x0A03 => .pairMirrorSet i (BitVec.ofNat 8 (leAt b 0 1)) (BitVec.ofNat 32 (leAt b 1 4)) (BitVec.ofNat 32 (leAt b 5 4))
  | 0x0A04 => .pairSwap i
  | 0x0A05 => .pairResync i
  | 0x0B01 => .faultStatus i
  | 0x0B02 => .faultReadAll i (bufAt b 0)
  | 0x0B03 => .faultClear i
  | 0x0B04 => .faultSafeSet i (BitVec.ofNat 16 (leAt b 0 2)) (BitVec.ofNat 64 (leAt b 2 8))
  | 0x0B05 => .faultTest i (BitVec.ofNat 8 (leAt b 0 1))
  | 0x0C01 => .logRead i (BitVec.ofNat 64 (leAt b 0 8)) (BitVec.ofNat 32 (leAt b 8 4)) (BitVec.ofNat 16 (leAt b 12 2)) (bufAt b 14)
  | 0x0C02 => .logStatus i
  | 0x0C03 => .logFlush i
  | 0x0C04 => .logRateSet i (BitVec.ofNat 16 (leAt b 0 2)) (BitVec.ofNat 16 (leAt b 2 2)) (BitVec.ofNat 16 (leAt b 4 2))
  | 0x0C05 => .logSeal i (BitVec.ofNat 8 (leAt b 0 1)) (BitVec.ofNat 64 (leAt b 1 8)) (BitVec.ofNat 64 (leAt b 9 8))
  | 0x0C06 => .logWrite i (BitVec.ofNat 16 (leAt b 0 2)) (BitVec.ofNat 32 (leAt b 2 4)) (BitVec.ofNat 32 (leAt b 6 4)) (BitVec.ofNat 32 (leAt b 10 4))
  | 0x0D01 => .imgOpen i (BitVec.ofNat 8 (leAt b 0 1)) (BitVec.ofNat 32 (leAt b 1 4))
  | 0x0D02 => .imgWrite i (BitVec.ofNat 32 (leAt b 0 4)) (bufAt b 4)
  | 0x0D03 => .imgClose i
  | 0x0D04 => .imgActivate i (BitVec.ofNat 8 (leAt b 0 1))
  | 0x0D05 => .imgStatus i
  | 0x0D06 => .imgAvalancheStart i (BitVec.ofNat 8 (leAt b 0 1)) (BitVec.ofNat 8 (leAt b 1 1))
  | 0x0E01 => .keyDerive i (BitVec.ofNat 8 (leAt b 0 1)) (BitVec.ofNat 8 (leAt b 1 1)) (BitVec.ofNat 8 (leAt b 2 1)) (bufAt b 3)
  | 0x0E02 => .keyInvalidate i (BitVec.ofNat 8 (leAt b 0 1))
  | 0x0E03 => .keySlotInfo i (BitVec.ofNat 8 (leAt b 0 1))
  | 0x0E04 => .keyTamperStatus i
  | 0x0E05 => .keyTamperConfig i (BitVec.ofNat 8 (leAt b 0 1)) (BitVec.ofNat 8 (leAt b 1 1))
  | 0x0E06 => .keyDebugUnlock i (bufAt b 0)
  | 0x0F01 => .pwrDomainSet i (BitVec.ofNat 8 (leAt b 0 1)) (BitVec.ofNat 8 (leAt b 1 1))
  | 0x0F02 => .pwrStatus i
  | 0x0F03 => .pwrThermalRead i (BitVec.ofNat 8 (leAt b 0 1))
  | 0x0F04 => .pwrRepairStatus i
  | _ => .unknownOpcode i (BitVec.ofNat 16 op)

end Sys2Proof.Machine
end

