-- ==== Sys2Proof/Machine/Pwr.lean ====
section
/-! DEFINITION. Power, clocks, temperature and the repair of memories (17). The rotation and domain rows that touch the
solver stand in later files. -/

namespace Sys2Proof.Machine

/-- Seconds to the next rotation instant; all ones while rotation is off (R491). -/
def State.toRotation (s : State) : W32 :=
  if !s.bit aRotCtrl 0 || !s.hasRsv then 0xFFFFFFFF
  else w32 (((s.rd64 aRotNext).toNat - s.now) / 1000000000)

/-- SYS_ROLE_MAP (R491). -/
def execSysRoleMap (i : Issue) (s : State) : Out :=
  .next (s.hostCmd { op := 0x0106, plen := 0 } i fun s =>
    s.complete i eOk (s.rd aRoleMap) (w32 (s.rsvTile + s.fld aTileStat 8 0 * 256)) s.toRotation)

/-- The domain codes of R468. -/
def domainCode (c : Nat) : Bool := c == 0x0C || c == 0x0D || decide (0x10 ≤ c ∧ c ≤ 0x16)

/-- The refusals of R468's table: a host may not switch its own link. -/
def State.domainRefused (s : State) (h : HostId) (c : Nat) (turnOn : Bool) : Bool :=
  s.domainBarred c turnOn || (c == 0x14 && h == .hostp) || (c == 0x15 && h == .hosts)

/-- PWR_DOMAIN_SET (R468 to R470): the switch begins; DOMAIN_SWITCH ends it. -/
def execPwrDomainSet (i : Issue) (domain : Byte) (onFlag : Byte) (s : State) : Out :=
  .next (s.hostCmd { op := 0x0F01, plen := 2, frozenNo := true, async := true } i fun s =>
    let c := domain.toNat
    let b := onFlag == 1
    s.checked i [(!domainCode c || decide (onFlag.toNat > 1), eParam), (s.bit aDomBusy c, eState)] fun s =>
      if s.bit aDomOn c == b then s.done i eOk
      else s.checked i [(s.domainRefused i.host c b, eState)] fun s =>
        (s.startAsync (.pwrDomainSet i domain onFlag) i).startSwitch c b)

/-- PCR_THERMs. -/
def State.therm (s : State) (k : Nat) : Int := (s.rd (0xE0080 + 4 * k)).toInt

/-- The hottest reading of the sixteen sensors. -/
def State.hottest (s : State) : Int := (List.range 16).foldl (fun m k => max m (s.therm k)) (s.therm 0)

/-- PWR_STATUS (R491): the hottest sensor in whole °C, rounded down (DEDUCED, log 25). -/
def execPwrStatus (i : Issue) (s : State) : Out :=
  .next (s.hostCmd { op := 0x0F02, plen := 0 } i fun s =>
    s.complete i eOk (s.rd aDomOn) (s.rd 0x90030) (i32 (s.hottest.fdiv 256)))

/-- PWR_THERMAL_READ (R491). -/
def execPwrThermalRead (i : Issue) (sensor : Byte) (s : State) : Out :=
  .next (s.hostCmd { op := 0x0F03, plen := 1 } i fun s =>
    s.checked i [(decide (sensor.toNat > 15), eParam)] fun s => s.complete i eOk (s.rd (0xE0080 + 4 * sensor.toNat)) 0 0)

/-- PWR_REPAIR_STATUS (R491). -/
def execPwrRepairStatus (i : Issue) (s : State) : Out :=
  .next (s.hostCmd { op := 0x0F04, plen := 0 } i fun s =>
    s.complete i eOk (s.rd 0xE0204) (s.rd 0xE0400) (s.rd 0xE0010))

/-- A PLL may drive a clock: locked and not marked FAILED (R471). -/
def State.pllGood (s : State) (k : Nat) : Bool := s.bit 0xE0010 k && !s.bit 0xE0010 (8 + k)

/-- PLL_SWITCH (R471): a PLL loses lock. PLL_A or PLL_B is marked FAILED; the clock that it drove moves to the other,
with its record, or has no source left and PLL_LOCK asserts. Another PLL shows its loss in LOCK alone. -/
def execPllSwitch (pll : Byte) (s : State) : Out :=
  let k := pll.toNat
  if k > 4 then .next s
  else
    let s := s.setBit 0xE0010 k false
    if k > 1 then .next s
    else
      let s := s.setBit 0xE0010 (8 + k) true
      let other := s.pllGood (1 - k)
      -- The clock that PLL k drives by itself, and the one it drives as standby.
      let ownMoved := s.bit 0xE0010 (16 + k)
      let standbyUsed := s.bit 0xE0010 (17 - k)
      if other && !ownMoved then .next ((s.setBit 0xE0010 (16 + k) true).postFirn 0x0F02 (w32 k) (w32 k) 0)
      else if !other && (!ownMoved || standbyUsed) then .next (s.level 32 true)
      else .next s

/-- The neighbours of pool tile `t` (2 to 10) on the grid of R476. -/
def neighbours (a b : Nat) : Bool :=
  let x := a - 2
  let y := b - 2
  decide (2 ≤ a ∧ a ≤ 10 ∧ 2 ≤ b ∧ b ≤ 10) &&
  ((x / 3 == y / 3 && (x + 1 == y || y + 1 == x)) || (x % 3 == y % 3 && (x + 3 == y || y + 3 == x)))

/-- A tile reads more than 20.0 °C above a neighbour (R477). -/
def State.tileSkewed (s : State) (t : Nat) : Bool :=
  (List.range 9).any fun k => neighbours t (k + 2) && decide (s.therm (t - 2) - s.therm k > 5120)

/-- PCR_THERM_MAX takes a reading that is the highest since the last read. -/
def State.thermMax (s : State) (k : Nat) (v : Int) : State :=
  let m := (BitVec.ofNat 24 (s.rd 0xE00C0).toNat).toInt
  if (s.rd 0xE00C0).toNat / 2 ^ 24 = 0x80 ∨ v > m then
    s.wr 0xE00C0 (w32 (k * 2 ^ 24 + (BitVec.ofInt 24 v).toNat))
  else s

/-- The pairs of neighbouring tiles, hot and cool, by sensor (R476). -/
def tilePairs : List (Nat × Nat) :=
  (List.range 9).flatMap fun h => ((List.range 9).filter fun c => neighbours (h + 2) (c + 2)).map fun c => (h, c)

/-- Consecutive samples for which sensor `h` has read more than 20.0 °C above sensor `c` (R477). -/
def State.skewRun (s : State) (h c : Nat) : Nat := kget 0 s.pwr.skew (h * 16 + c)

/-- The runs of R477 after a sample. -/
def State.countSkew (s : State) : State :=
  let l := (tilePairs.filter fun p => decide (s.therm p.1 - s.therm p.2 > 5120)).map fun p =>
    (p.1 * 16 + p.2, min 100 (s.skewRun p.1 p.2 + 1))
  { s with pwr := { s.pwr with skew := l } }

/-- THERMAL_SAMPLE (R476): the sensors' readings, the maximum, OVERTEMP above 125 °C until all read 120 °C or less
(R388), the runs of R477, and the end of a skew. -/
def execThermalSample (readings : Readings) (s : State) : Out :=
  let l := ((List.range 16).zip readings.temps)
  let s := l.foldl (fun t p => (t.wr (0xE0080 + 4 * p.1) p.2).thermMax p.1 p.2.toInt) s
  let s := ((List.range 9).foldl (fun t k => if t.tileSkewed (k + 2) then t else t.setBit aThermSkew k false) s).countSkew
  if s.hottest > 125 * 256 then .next (s.level 35 true)
  else if s.hottest ≤ 120 * 256 then .next (s.level 35 false)
  else .next s

/-- THERM_SKEW (R477): after 100 consecutive samples the record and the tile's bit; a role on the hot tile migrates to the reserve, at most once in
600 s and while no handover runs, and under FREEZE once it clears. -/
def execThermSkew (hot : Byte) (cool : Byte) (difference : Nat) (s : State) : Out :=
  let h := hot.toNat + 2
  if s.skewRun hot.toNat cool.toNat < 100 ∨ (difference : Int) ≠ s.therm hot.toNat - s.therm cool.toNat then .next s
  else
    let s := (s.setBit aThermSkew hot.toNat true).postFirn 0x0F03 (w32 hot.toNat) (w32 cool.toNat) (w32 difference)
    let free := match s.pwr.thermalAt with
      | some t => decide (s.now ≥ t + 600000000000)
      | none => true
    match s.tileRole h with
    | some k =>
      if s.hasRsv && s.rotPhase == 0 && free then
        .next (if s.frozen then { s with pwr := { s.pwr with migrate := some k } } else s.startHandover k true)
      else .next s
    | none => .next s

/-- AVS_ADJUST (R475): with AVS_EN, the target moves by at most one 5 mV step towards what the monitors ask for, within
0.65 V to 0.85 V, by a VOUT_COMMAND to the regulator; an unacknowledged command, or a deviation above 25 mV for 100 ms, holds it and writes AVS_FAIL. -/
def execAvsAdjust (step : AvsStep) (s : State) : Out :=
  if !s.bit 0xE0030 0 then .next s
  else
    let cur := s.fld 0xE0034 9 0
    let s := s.wr 0xE0038 (w32 (step.meas % 1024))
    let dev := decide (max cur step.meas - min cur step.meas > 25)
    let bad := if dev then min 100 (s.pwr.avsBad + 10) else 0
    let first := bad = 100 ∧ s.pwr.avsBad < 100
    let s := { s with pwr := { s.pwr with avsBad := bad } }
    if bad = 100 ∧ step.ack then
      .next (if first then s.postFirn 0x0F04 (w32 cur) (w32 step.meas) 2 else s)
    else
      let nxt := max 650 (min 850 (if step.want ≥ cur + 5 then cur + 5 else if step.want + 5 ≤ cur then cur - 5 else cur))
      let s := { s with pwr := { s.pwr with vout := some (s.fld 0xE0030 7 1, nxt) } }
      .next (if step.ack then s.setFld 0xE0034 9 0 nxt else s.postFirn 0x0F04 (w32 cur) (w32 step.meas) 1)

/-- The bank and the row of a shared SRAM address (R23, R487). -/
def sramRow (a : Nat) : Nat × Nat := (a / 0x80000, a % 0x80000 / 1024)

/-- A weak row is repaired (R487): a spare row of its bank takes over, with the record; a bank without one raises
SRAM_SPARES. -/
def State.repairRow (s : State) (r : Nat × Nat) : State :=
  let g := 0xE0300 + 4 * (r.1 / 4)
  let f := 8 * (r.1 % 4)
  let used := s.fld g (f + 4) f
  if used ≥ 16 then s.raise 17
  else
    let s := (s.setFld g (f + 4) f (used + 1)).setFld 0xE0204 10 0 (s.fld 0xE0204 10 0 + 1)
    let s := { s with pwr := { s.pwr with rows := s.pwr.rows ++ [r],
                                          ceWords := s.pwr.ceWords.filter fun w => sramRow w != r } }
    s.postFirn 0x0F05 (w32 r.1) (w32 r.2) (w32 (16 - (used + 1)))

/-- A corrected error of shared SRAM (R487): the row is weak at a second word, or at the same word a second time. -/
def State.sramCe (s : State) (a : Nat) : State :=
  let w := a / 8 * 8
  let s := s.count 0xE0208 1
  if s.pwr.ceWords.any fun v => sramRow v == sramRow w then s.repairRow (sramRow w)
  else { s with pwr := { s.pwr with ceWords := s.pwr.ceWords ++ [w] } }

/-- An uncorrectable error of shared SRAM (R487, R488): the word is poisoned, SRAM_UE is raised, the row is weak. -/
def State.sramUe (s : State) (a : Nat) : State :=
  let s := { s with poison := insNat s.poison (a / 8 * 8) }
  (s.raise 16).repairRow (sramRow a)

/-- SCRUB_PASS (R487). -/
def execScrubPass (findings : Findings) (s : State) : Out :=
  let s := (findings.ce.filter (· < 0x02000000)).foldl State.sramCe s
  let s := (findings.ue.filter (· < 0x02000000)).foldl State.sramUe s
  .next (s.count 0xE0200 1)

/-- SRAM_UE (R488). -/
def execSramUe (address : Nat) (s : State) : Out := if address < 0x02000000 then .next (s.sramUe address) else .next s

/-- MRAM_REMAP (R489): a weak sector moves to the next free sector of the pool, whose first sector holds the table; a
full pool raises MRAM_POOL. -/
def execMramRemap (sector : Nat) (s : State) : Out :=
  if sector ≥ 0x2000 then .next s
  else
    let n := s.pwr.remap.length
    if n ≥ 255 then .next (s.raise 19)
    else
      let s := { s with pwr := { s.pwr with remap := s.pwr.remap ++ [sector] } }
      .next ((s.wr 0xE0400 (w32 (n + 1))).postFirn 0x0F06 (w32 (sector * 4096)) (w32 (0x1F00000 + 4096 * (n + 1)))
        (w32 (255 - (n + 1))))

end Sys2Proof.Machine
end

