-- ==== Sys2Proof/Machine/Serve.lean ====
section
/-! DEFINITION. Firn executes one host command: each with its own meaning (R54, R76). -/

namespace Sys2Proof.Machine

/-- A host command executed; anything else is no host command. -/
def runHost (c : Instr) (s : State) : Out :=
  match c with
  | .sysNop i data => execSysNop i data s
  | .sysInfo i => execSysInfo i s
  | .sysWindowSet i base => execSysWindowSet i base s
  | .sysAccessGet i target master region => execSysAccessGet i target master region s
  | .sysAccessSet i target master region rights start stop => execSysAccessSet i target master region rights start stop s
  | .sysEventRoute i source vector => execSysEventRoute i source vector s
  | .sysRoleMap i => execSysRoleMap i s
  | .sysRotate i interval now => execSysRotate i interval now s
  | .sysConfigRead i record buf => execSysConfigRead i record buf s
  | .sysConfigWrite i record buf => execSysConfigWrite i record buf s
  | .sysRestart i kind => execSysRestart i kind s
  | .solvBatchSubmit i desc notify => execSolvBatchSubmit i desc notify s
  | .solvBatchStatus i batch => execSolvBatchStatus i batch s
  | .solvBatchWait i batch timeout => execSolvBatchWait i batch timeout s
  | .solvBatchCancel i batch => execSolvBatchCancel i batch s
  | .solvLaneStatus i => execSolvLaneStatus i s
  | .solvLaneRetire i lane => execSolvLaneRetire i lane s
  | .solvParamSet i pivtol regdelta => execSolvParamSet i pivtol regdelta s
  | .driftNetConfig i buf => execDriftNetConfig i buf s
  | .driftPeriodSet i period rounds start => execDriftPeriodSet i period rounds start s
  | .driftTemplateSet i buf => execDriftTemplateSet i buf s
  | .driftSlotSet i position slot => execDriftSlotSet i position slot s
  | .driftFallbackSet i buf hold => execDriftFallbackSet i buf hold s
  | .driftStart i => execDriftStart i s
  | .driftStop i => execDriftStop i s
  | .driftPricesRead i period round buf => execDriftPricesRead i period round buf s
  | .driftPlanRead i period buf => execDriftPlanRead i period buf s
  | .driftBidRead i period round buf => execDriftBidRead i period round buf s
  | .loopDescWrite i loop bank buf => execLoopDescWrite i loop bank buf s
  | .loopDescRead i loop bank buf => execLoopDescRead i loop bank buf s
  | .loopBankSwap i loop => execLoopBankSwap i loop s
  | .loopModeSet i loop mode manual => execLoopModeSet i loop mode manual s
  | .loopTuneStart i loop cycles amplitude hysteresis => execLoopTuneStart i loop cycles amplitude hysteresis s
  | .loopTuneResult i loop => execLoopTuneResult i loop s
  | .loopStatus i loop => execLoopStatus i loop s
  | .cycLoad i buf => execCycLoad i buf s
  | .cycStart i mode => execCycStart i mode s
  | .cycStop i => execCycStop i s
  | .cycOnlineChange i => execCycOnlineChange i s
  | .cycForceSet i symbol type value => execCycForceSet i symbol type value s
  | .cycForceClear i symbol => execCycForceClear i symbol s
  | .cycForceList i buf => execCycForceList i buf s
  | .cycTaskStatus i task => execCycTaskStatus i task s
  | .cycVarRead i symbol buf => execCycVarRead i symbol buf s
  | .cycVarWrite i symbol buf => execCycVarWrite i symbol buf s
  | .mtrChanConfig i channel gain offset delay => execMtrChanConfig i channel gain offset delay s
  | .mtrEnergyRead i system phase quantity => execMtrEnergyRead i system phase quantity s
  | .mtrDeltaRead i system phase quantity => execMtrDeltaRead i system phase quantity s
  | .mtrCalStart i channel buf => execMtrCalStart i channel buf s
  | .mtrPulseConfig i output constant width => execMtrPulseConfig i output constant width s
  | .mtrHeatConfig i calculator buf => execMtrHeatConfig i calculator buf s
  | .mtrHeatRead i calculator buf => execMtrHeatRead i calculator buf s
  | .mtrSaveNow i => execMtrSaveNow i s
  | .timeRead i => execTimeRead i s
  | .timeSet i ns => execTimeSet i ns s
  | .timeState i => execTimeState i s
  | .timePortCorr i port ingress egress asymmetry => execTimePortCorr i port ingress egress asymmetry s
  | .timePtpConfig i buf => execTimePtpConfig i buf s
  | .timeEventConfig i pin mode => execTimeEventConfig i pin mode s
  | .calRead i => execCalRead i s
  | .calWrite i values commit => execCalWrite i values commit s
  | .calDstShift i direction => execCalDstShift i direction s
  | .calAlarmSet i alarm values mask => execCalAlarmSet i alarm values mask s
  | .calTrimMeasure i source seconds => execCalTrimMeasure i source seconds s
  | .calTrimSet i trim => execCalTrimSet i trim s
  | .netPortConfig i port buf => execNetPortConfig i port buf s
  | .netPortStatus i port => execNetPortStatus i port s
  | .netAddrSet i address => execNetAddrSet i address s
  | .netVlanSet i port buf => execNetVlanSet i port buf s
  | .netMacsecSa i port direction an slot pn => execNetMacsecSa i port direction an slot pn s
  | .netQueueConfig i port queue buf => execNetQueueConfig i port queue buf s
  | .netUartConfig i uart buf => execNetUartConfig i uart buf s
  | .netFrameSend i port queue launch buf => execNetFrameSend i port queue launch buf s
  | .pairConfig i buf => execPairConfig i buf s
  | .pairStatus i => execPairStatus i s
  | .pairMirrorSet i region base length => execPairMirrorSet i region base length s
  | .pairSwap i => execPairSwap i s
  | .pairResync i => execPairResync i s
  | .faultStatus i => execFaultStatus i s
  | .faultReadAll i buf => execFaultReadAll i buf s
  | .faultClear i => execFaultClear i s
  | .faultSafeSet i output value => execFaultSafeSet i output value s
  | .faultTest i source => execFaultTest i source s
  | .logRead i first count filter buf => execLogRead i first count filter buf s
  | .logStatus i => execLogStatus i s
  | .logFlush i => execLogFlush i s
  | .logRateSet i code rate burst => execLogRateSet i code rate burst s
  | .logSeal i slot first last => execLogSeal i slot first last s
  | .logWrite i code p0 p1 p2 => execLogWrite i code p0 p1 p2 s
  | .imgOpen i slot size => execImgOpen i slot size s
  | .imgWrite i offset buf => execImgWrite i offset buf s
  | .imgClose i => execImgClose i s
  | .imgActivate i component => execImgActivate i component s
  | .imgStatus i => execImgStatus i s
  | .imgAvalancheStart i port slot => execImgAvalancheStart i port slot s
  | .keyDerive i parent target usage label => execKeyDerive i parent target usage label s
  | .keyInvalidate i slot => execKeyInvalidate i slot s
  | .keySlotInfo i slot => execKeySlotInfo i slot s
  | .keyTamperStatus i => execKeyTamperStatus i s
  | .keyTamperConfig i input mode => execKeyTamperConfig i input mode s
  | .keyDebugUnlock i buf => execKeyDebugUnlock i buf s
  | .pwrDomainSet i domain onFlag => execPwrDomainSet i domain onFlag s
  | .pwrStatus i => execPwrStatus i s
  | .pwrThermalRead i sensor => execPwrThermalRead i sensor s
  | .pwrRepairStatus i => execPwrRepairStatus i s
  | .unknownOpcode i opcode => execUnknownOpcode i opcode s
  | _ => .next s

end Sys2Proof.Machine
end

