-- ==== Sys2Proof/Machine/Fetch.lean ====
section
/-! DEFINITION. How Firn takes commands from the queue pairs and the immediate mailbox (02, R46 to R58, R70, R80). -/

namespace Sys2Proof.Machine

/-- A command that waits for a handover was issued through a place: 0 to 7 a pair, 8 the immediate mailbox. -/
def placeOf (src : CmdSrc) : Nat :=
  match src with
  | .qp k => k.val
  | .imm => 8
  | .gone => 9

/-- A command of a place waits for a handover to end (R57); later commands of the place wait behind it (R55). -/
def State.placeWaits (s : State) (p : Nat) : Bool :=
  (s.mb.waiting.filterMap cmdOf).any fun c => placeOf c.2.src == p

/-- The number of outstanding commands of pair `k`. -/
def State.pairOut (s : State) (k : Nat) : Nat :=
  (s.mb.outstanding.filter fun (o : Outst) => !o.dropped && placeOf o.iss.src == k).length

/-- Where pair `k`'s next entry stands in shared SRAM (R46, R72). -/
def State.entryAt (s : State) (k : Nat) : Nat :=
  s.qpBase k + (s.rd (qpReg k 0)).toNat + 64 * (s.rd (qpReg k 0xC)).toNat

/-- Pair `k`'s completion queue has room for the next command's completion beside those outstanding (R52). -/
def State.cqRoom (s : State) (k : Nat) : Bool :=
  let n := s.cqLen k
  decide (((s.rd (qpReg k 0x18)).toNat + n - (s.rd (qpReg k 0x14)).toNat) % n + s.pairOut k + 1 < n)

/-- Firn may take a command from pair `k` (R43, R45, R52, R55, R70, R79). -/
def State.pairReady (s : State) (k : Nat) : Bool :=
  s.qpActive k && s.bit (qpReg k 0x1C) 0 && !s.bit (qpReg k 0x1C) 2 && !(s.recovery && k != 0) &&
  s.rd (qpReg k 0xC) != s.rd (qpReg k 0x10) && s.cqRoom k && !s.placeWaits k &&
  !((s.byteAt (s.entryAt k + 4)).getLsbD 0 && s.pairBusy k)

/-- Firn may take a command from a place. -/
def State.placeReady (s : State) (p : Nat) : Bool := if p < 8 then s.pairReady p else s.mb.immGo

/-- A place has high priority (R54). -/
def State.placeHigh (s : State) (p : Nat) : Bool := decide (p ≥ 8) || s.bit (qpReg p 0x1C) 3

/-- The first ready place of a priority after the one served last, in turn (R54). -/
def State.nextPlace (s : State) (high : Bool) : Option Nat :=
  let last := if high then s.mb.lastHigh else s.mb.lastNorm
  ((List.range 9).map fun i => (last + 1 + i) % 9).find? fun p => s.placeReady p && s.placeHigh p == high

/-- The place from which Firn takes its next command (R54). -/
def State.pick (s : State) : Option Nat := (s.nextPlace true).orElse fun _ => s.nextPlace false

/-- The place served last in its priority (R54). -/
def State.served (s : State) (p : Nat) : State :=
  if s.placeHigh p then { s with mb := { s.mb with lastHigh := p } } else { s with mb := { s.mb with lastNorm := p } }

/-- The entry's own refusal (R46, R47, R58): reserved FLAGS bits (DEDUCED, log 36), PLEN above the limit that applies,
parameters outside the entry that the host cannot read. The 52 reserved bytes of PARAMS with EXTP set are not looked at
(DESIGN CHOICE, log 75). -/
def State.entryErr (s : State) (h : HostId) (e : Bytes) (limit : Nat) : Option Nat :=
  let plen := leAt e 6 2
  if leAt e 4 2 ≥ 8 then some eParam
  else if (leAt e 4 2).testBit 2 then
    if s.bufOk h false { off := w32 (leAt e 8 4), len := w32 plen } then none else some eAccess
  else if plen > limit then some eParam
  else none

/-- The parameter bytes of an entry: inline, or with EXTP from the window; bytes beyond PLEN are ignored (R46, R47). -/
def State.entryParams (s : State) (e : Bytes) : Bytes :=
  let plen := leAt e 6 2
  if (leAt e 4 2).testBit 2 then s.rdBuf { off := w32 (leAt e 8 4), len := w32 plen } else (e.drop 8).take plen

/-- The command that an entry spells (R46). -/
def State.entryCmd (s : State) (src : CmdSrc) (h : HostId) (e : Bytes) (limit : Nat) (env : CmdEnv) : Instr :=
  let err := s.entryErr h e limit
  let i : Issue := { src := src, host := h, tag := BitVec.ofNat 16 (leAt e 2 2), fence := (leAt e 4 2).testBit 0,
                     noirq := (leAt e 4 2).testBit 1, plen := leAt e 6 2, entryErr := err, env := env }
  parseCmd (leAt e 0 2) i (if err.isSome then [] else s.entryParams e)

/-- A command starts, or waits while its role is in handover (R57). -/
def State.startCmd (s : State) (c : Instr) : State :=
  match cmdOf c with
  | none => s
  | some p =>
    if s.handoverHolds p.1 then s.setWaiting (s.mb.waiting ++ [c])
    else match runHost c s with
      | .next t => t
      | _ => s

/-- The command that has waited longest starts once no handover holds it (R57). -/
def State.releaseWaiting (s : State) (c : Instr) (rest : List Instr) : State :=
  match cmdOf c with
  | some p => ((s.setWaiting rest).startCmd c).settleSrc p.2.src
  | none => s.setWaiting rest

/-- The owner of pair `k`. -/
def State.ownerOf (s : State) (k : Nat) : HostId := if s.fld (qpReg k 0x1C) 13 12 = 2 then .hosts else .hostp

/-- Firn takes the next entry of pair `k` (R46, R54, R80). -/
def State.takePair (s : State) (k : Fin 8) (env : CmdEnv) : State :=
  let h := s.ownerOf k.val
  let a := s.entryAt k.val
  if s.sramOk (hostMaster h) false a 64 then
    let e := s.rdMem a 64
    let t := s.wr (qpReg k.val 0xC) (w32 (((s.rd (qpReg k.val 0xC)).toNat + 1) % s.sqLen k.val))
    t.startCmd (s.entryCmd (.qp k) h e 56 env)
  else (s.setErr k.val true).mbErr 5 k.val false

/-- The bytes of the immediate mailbox (R62). -/
def State.immEntry (s : State) : Bytes := (List.range 1020).flatMap fun j => leBytes 4 (s.rd (0x11000 + 4 * j)).toNat

/-- Firn takes the immediate entry (R62). -/
def State.takeImm (s : State) (env : CmdEnv) : State :=
  let c := s.entryCmd .imm s.mb.immHost s.immEntry 4072 env
  ({ s with mb := { s.mb with immGo := false } } : State).startCmd c

/-- Firn, or Bedrock in recovery, is ready for commands (MB_STATUS.READY). -/
def State.serving (s : State) : Bool := s.chip.running && s.bit 0x10010 0

/-- Firn takes one command from the place whose turn it is (R54). -/
def State.fetchPlace (s : State) (env : CmdEnv) : State :=
  match s.pick with
  | none => s
  | some p => if h : p < 8 then (s.served p).takePair ⟨p, h⟩ env else (s.served p).takeImm env

/-- COMMAND_FETCH (R54): a command that waited for a handover that has ended starts first; otherwise Firn takes one command
from the place whose turn it is. Without one nothing happens, nor while a LOG_WRITE, which is synchronous, has not completed.
In the wait before a planned restart Firn takes none, and restarts once no command is left that completes within the wait
(R67). -/
def execCommandFetch (env : CmdEnv) (s : State) : Out :=
  .next (if !s.serving then s
    else match s.chip.draining with
    | some boot => s.endWait boot
    | none =>
      if !s.logWrites.isEmpty then s
      else
      match s.mb.waiting with
      | c :: rest =>
        if (cmdOf c).any (fun p => s.handoverHolds p.1) then s.fetchPlace env else s.releaseWaiting c rest
      | [] => s.fetchPlace env)

end Sys2Proof.Machine
end

