-- ==== Sys2Proof/Machine/Io.lean ====
section
/-! DEFINITION. The start of a PWM period and the end of a level source's condition (18, R508; 13, R399). -/

namespace Sys2Proof.Machine

/-- PWM_PERIOD_START (R508). -/
def execPwmPeriodStart (channel : Byte) (s : State) : Out :=
  .next (if channel.toNat < 16 then s.pwmStart channel.toNat else s)

/-- SOURCE_RELEASED (R388, R389, R399): the outside world ends the condition of PLL_LOCK, REFCLK_LOSS, VCORE, or of a fault
input, whose GPIO leaves its active level, which may be another input's active one (R391). The conditions of all other level sources follow the state. -/
def execSourceReleased (source : Byte) (s : State) : Out :=
  .next (
    let n := source.toNat
    if 32 ≤ n ∧ n ≤ 34 then s.level n false
    else if 96 ≤ n ∧ n ≤ 103 then
      let c := s.fld (0xA0090 + 4 * ((n - 96) / 4)) (8 * ((n - 96) % 4) + 7) (8 * ((n - 96) % 4))
      (s.setBit 0xF0018 (c % 32) (decide (c < 128))).latchAsserted
    else s)

end Sys2Proof.Machine
end

