-- ==== Sys2Proof/Machine/Dispatch.lean ====
section
/-! DEFINITION. The dispatch: one arm for each command, each one direct call of that command's meaning. -/

namespace Sys2Proof.Machine

def exec (i : Instr) (s : State) : Host.Outcome State Fault Refusal :=
  match i with
  | .sysNop q data => Sys2Proof.Machine.execSysNop q data s
  | .sysInfo q => Sys2Proof.Machine.execSysInfo q s
  | .sysWindowSet q base => Sys2Proof.Machine.execSysWindowSet q base s
  | .sysAccessGet q target master region => Sys2Proof.Machine.execSysAccessGet q target master region s
  | .sysAccessSet q target master region rights start stop => Sys2Proof.Machine.execSysAccessSet q target master region rights start stop s
  | .sysEventRoute q source vector => Sys2Proof.Machine.execSysEventRoute q source vector s
  | .sysRoleMap q => Sys2Proof.Machine.execSysRoleMap q s
  | .sysRotate q interval now => Sys2Proof.Machine.execSysRotate q interval now s
  | .sysConfigRead q record buf => Sys2Proof.Machine.execSysConfigRead q record buf s
  | .sysConfigWrite q record buf => Sys2Proof.Machine.execSysConfigWrite q record buf s
  | .sysRestart q kind => Sys2Proof.Machine.execSysRestart q kind s
  | .solvBatchSubmit q desc notify => Sys2Proof.Machine.execSolvBatchSubmit q desc notify s
  | .solvBatchStatus q batch => Sys2Proof.Machine.execSolvBatchStatus q batch s
  | .solvBatchWait q batch timeout => Sys2Proof.Machine.execSolvBatchWait q batch timeout s
  | .solvBatchCancel q batch => Sys2Proof.Machine.execSolvBatchCancel q batch s
  | .solvLaneStatus q => Sys2Proof.Machine.execSolvLaneStatus q s
  | .solvLaneRetire q lane => Sys2Proof.Machine.execSolvLaneRetire q lane s
  | .solvParamSet q pivtol regdelta => Sys2Proof.Machine.execSolvParamSet q pivtol regdelta s
  | .driftNetConfig q buf => Sys2Proof.Machine.execDriftNetConfig q buf s
  | .driftPeriodSet q period rounds start => Sys2Proof.Machine.execDriftPeriodSet q period rounds start s
  | .driftTemplateSet q buf => Sys2Proof.Machine.execDriftTemplateSet q buf s
  | .driftSlotSet q position slot => Sys2Proof.Machine.execDriftSlotSet q position slot s
  | .driftFallbackSet q buf hold => Sys2Proof.Machine.execDriftFallbackSet q buf hold s
  | .driftStart q => Sys2Proof.Machine.execDriftStart q s
  | .driftStop q => Sys2Proof.Machine.execDriftStop q s
  | .driftPricesRead q period round buf => Sys2Proof.Machine.execDriftPricesRead q period round buf s
  | .driftPlanRead q period buf => Sys2Proof.Machine.execDriftPlanRead q period buf s
  | .driftBidRead q period round buf => Sys2Proof.Machine.execDriftBidRead q period round buf s
  | .loopDescWrite q loop bank buf => Sys2Proof.Machine.execLoopDescWrite q loop bank buf s
  | .loopDescRead q loop bank buf => Sys2Proof.Machine.execLoopDescRead q loop bank buf s
  | .loopBankSwap q loop => Sys2Proof.Machine.execLoopBankSwap q loop s
  | .loopModeSet q loop mode manual => Sys2Proof.Machine.execLoopModeSet q loop mode manual s
  | .loopTuneStart q loop cycles amplitude hysteresis => Sys2Proof.Machine.execLoopTuneStart q loop cycles amplitude hysteresis s
  | .loopTuneResult q loop => Sys2Proof.Machine.execLoopTuneResult q loop s
  | .loopStatus q loop => Sys2Proof.Machine.execLoopStatus q loop s
  | .cycLoad q buf => Sys2Proof.Machine.execCycLoad q buf s
  | .cycStart q mode => Sys2Proof.Machine.execCycStart q mode s
  | .cycStop q => Sys2Proof.Machine.execCycStop q s
  | .cycOnlineChange q => Sys2Proof.Machine.execCycOnlineChange q s
  | .cycForceSet q symbol type value => Sys2Proof.Machine.execCycForceSet q symbol type value s
  | .cycForceClear q symbol => Sys2Proof.Machine.execCycForceClear q symbol s
  | .cycForceList q buf => Sys2Proof.Machine.execCycForceList q buf s
  | .cycTaskStatus q task => Sys2Proof.Machine.execCycTaskStatus q task s
  | .cycVarRead q symbol buf => Sys2Proof.Machine.execCycVarRead q symbol buf s
  | .cycVarWrite q symbol buf => Sys2Proof.Machine.execCycVarWrite q symbol buf s
  | .mtrChanConfig q channel gain offset delay => Sys2Proof.Machine.execMtrChanConfig q channel gain offset delay s
  | .mtrEnergyRead q system phase quantity => Sys2Proof.Machine.execMtrEnergyRead q system phase quantity s
  | .mtrDeltaRead q system phase quantity => Sys2Proof.Machine.execMtrDeltaRead q system phase quantity s
  | .mtrCalStart q channel buf => Sys2Proof.Machine.execMtrCalStart q channel buf s
  | .mtrPulseConfig q output constant width => Sys2Proof.Machine.execMtrPulseConfig q output constant width s
  | .mtrHeatConfig q calculator buf => Sys2Proof.Machine.execMtrHeatConfig q calculator buf s
  | .mtrHeatRead q calculator buf => Sys2Proof.Machine.execMtrHeatRead q calculator buf s
  | .mtrSaveNow q => Sys2Proof.Machine.execMtrSaveNow q s
  | .timeRead q => Sys2Proof.Machine.execTimeRead q s
  | .timeSet q ns => Sys2Proof.Machine.execTimeSet q ns s
  | .timeState q => Sys2Proof.Machine.execTimeState q s
  | .timePortCorr q port ingress egress asymmetry => Sys2Proof.Machine.execTimePortCorr q port ingress egress asymmetry s
  | .timePtpConfig q buf => Sys2Proof.Machine.execTimePtpConfig q buf s
  | .timeEventConfig q pin mode => Sys2Proof.Machine.execTimeEventConfig q pin mode s
  | .calRead q => Sys2Proof.Machine.execCalRead q s
  | .calWrite q values commit => Sys2Proof.Machine.execCalWrite q values commit s
  | .calDstShift q direction => Sys2Proof.Machine.execCalDstShift q direction s
  | .calAlarmSet q alarm values mask => Sys2Proof.Machine.execCalAlarmSet q alarm values mask s
  | .calTrimMeasure q source seconds => Sys2Proof.Machine.execCalTrimMeasure q source seconds s
  | .calTrimSet q trim => Sys2Proof.Machine.execCalTrimSet q trim s
  | .netPortConfig q port buf => Sys2Proof.Machine.execNetPortConfig q port buf s
  | .netPortStatus q port => Sys2Proof.Machine.execNetPortStatus q port s
  | .netAddrSet q address => Sys2Proof.Machine.execNetAddrSet q address s
  | .netVlanSet q port buf => Sys2Proof.Machine.execNetVlanSet q port buf s
  | .netMacsecSa q port direction an slot pn => Sys2Proof.Machine.execNetMacsecSa q port direction an slot pn s
  | .netQueueConfig q port queue buf => Sys2Proof.Machine.execNetQueueConfig q port queue buf s
  | .netUartConfig q uart buf => Sys2Proof.Machine.execNetUartConfig q uart buf s
  | .netFrameSend q port queue launch buf => Sys2Proof.Machine.execNetFrameSend q port queue launch buf s
  | .pairConfig q buf => Sys2Proof.Machine.execPairConfig q buf s
  | .pairStatus q => Sys2Proof.Machine.execPairStatus q s
  | .pairMirrorSet q region base length => Sys2Proof.Machine.execPairMirrorSet q region base length s
  | .pairSwap q => Sys2Proof.Machine.execPairSwap q s
  | .pairResync q => Sys2Proof.Machine.execPairResync q s
  | .faultStatus q => Sys2Proof.Machine.execFaultStatus q s
  | .faultReadAll q buf => Sys2Proof.Machine.execFaultReadAll q buf s
  | .faultClear q => Sys2Proof.Machine.execFaultClear q s
  | .faultSafeSet q output value => Sys2Proof.Machine.execFaultSafeSet q output value s
  | .faultTest q source => Sys2Proof.Machine.execFaultTest q source s
  | .logRead q first count filter buf => Sys2Proof.Machine.execLogRead q first count filter buf s
  | .logStatus q => Sys2Proof.Machine.execLogStatus q s
  | .logFlush q => Sys2Proof.Machine.execLogFlush q s
  | .logRateSet q code rate burst => Sys2Proof.Machine.execLogRateSet q code rate burst s
  | .logSeal q slot first last => Sys2Proof.Machine.execLogSeal q slot first last s
  | .logWrite q code p0 p1 p2 => Sys2Proof.Machine.execLogWrite q code p0 p1 p2 s
  | .imgOpen q slot size => Sys2Proof.Machine.execImgOpen q slot size s
  | .imgWrite q offset buf => Sys2Proof.Machine.execImgWrite q offset buf s
  | .imgClose q => Sys2Proof.Machine.execImgClose q s
  | .imgActivate q component => Sys2Proof.Machine.execImgActivate q component s
  | .imgStatus q => Sys2Proof.Machine.execImgStatus q s
  | .imgAvalancheStart q port slot => Sys2Proof.Machine.execImgAvalancheStart q port slot s
  | .keyDerive q parent target usage label => Sys2Proof.Machine.execKeyDerive q parent target usage label s
  | .keyInvalidate q slot => Sys2Proof.Machine.execKeyInvalidate q slot s
  | .keySlotInfo q slot => Sys2Proof.Machine.execKeySlotInfo q slot s
  | .keyTamperStatus q => Sys2Proof.Machine.execKeyTamperStatus q s
  | .keyTamperConfig q input mode => Sys2Proof.Machine.execKeyTamperConfig q input mode s
  | .keyDebugUnlock q buf => Sys2Proof.Machine.execKeyDebugUnlock q buf s
  | .pwrDomainSet q domain onFlag => Sys2Proof.Machine.execPwrDomainSet q domain onFlag s
  | .pwrStatus q => Sys2Proof.Machine.execPwrStatus q s
  | .pwrThermalRead q sensor => Sys2Proof.Machine.execPwrThermalRead q sensor s
  | .pwrRepairStatus q => Sys2Proof.Machine.execPwrRepairStatus q s
  | .unknownOpcode q opcode => Sys2Proof.Machine.execUnknownOpcode q opcode s
  | .doorbellWrite host pair value => Sys2Proof.Machine.execDoorbellWrite host pair value s
  | .queueEnable host pair value => Sys2Proof.Machine.execQueueEnable host pair value s
  | .queueDisable host pair value => Sys2Proof.Machine.execQueueDisable host pair value s
  | .immediateGo host => Sys2Proof.Machine.execImmediateGo host s
  | .commandFetch env => Sys2Proof.Machine.execCommandFetch env s
  | .mbErrRead host => Sys2Proof.Machine.execMbErrRead host s
  | .mbEventClear host value rising => Sys2Proof.Machine.execMbEventClear host value rising s
  | .pcieLinkReset cause => Sys2Proof.Machine.execPcieLinkReset cause s
  | .bar0BadAccess write offset length => Sys2Proof.Machine.execBar0BadAccess write offset length s
  | .bar2ErrorAccess host write offset length => Sys2Proof.Machine.execBar2ErrorAccess host write offset length s
  | .unsupportedRequest => Sys2Proof.Machine.execUnsupportedRequest s
  | .writeEnable => Sys2Proof.Machine.execWriteEnable s
  | .writeDisable => Sys2Proof.Machine.execWriteDisable s
  | .readStatus => Sys2Proof.Machine.execReadStatus s
  | .readId => Sys2Proof.Machine.execReadId s
  | .fastRead address length => Sys2Proof.Machine.execFastRead address length s
  | .pageProgram address data => Sys2Proof.Machine.execPageProgram address data s
  | .enterOctalSdr => Sys2Proof.Machine.execEnterOctalSdr s
  | .exitOctal => Sys2Proof.Machine.execExitOctal s
  | .spiReset => Sys2Proof.Machine.execSpiReset s
  | .spiIgnoredCommand code => Sys2Proof.Machine.execSpiIgnoredCommand code s
  | .powerOnReset straps env => Sys2Proof.Machine.execPowerOnReset straps env s
  | .systemReset cause env => Sys2Proof.Machine.execSystemReset cause env s
  | .bootGood at_ => Sys2Proof.Machine.execBootGood at_ s
  | .bootTimeout env => Sys2Proof.Machine.execBootTimeout env s
  | .firnRestartUnplanned at_ env => Sys2Proof.Machine.execFirnRestartUnplanned at_ env s
  | .firnWdog at_ env => Sys2Proof.Machine.execFirnWdog at_ env s
  | .firnLockstep env => Sys2Proof.Machine.execFirnLockstep env s
  | .batchTileSubmit master value => Sys2Proof.Machine.execBatchTileSubmit master value s
  | .problemDispatch at_ => Sys2Proof.Machine.execProblemDispatch at_ s
  | .problemEnd lane spread => Sys2Proof.Machine.execProblemEnd lane spread s
  | .laneEccUncorrectable lane => Sys2Proof.Machine.execLaneEccUncorrectable lane s
  | .deadlineWithoutLane at_ => Sys2Proof.Machine.execDeadlineWithoutLane at_ s
  | .roundStartInstant at_ => Sys2Proof.Machine.execRoundStartInstant at_ s
  | .roundStart header body => Sys2Proof.Machine.execRoundStart header body s
  | .price header body => Sys2Proof.Machine.execPrice header body s
  | .bidQueue at_ => Sys2Proof.Machine.execBidQueue at_ s
  | .bid header body => Sys2Proof.Machine.execBid header body s
  | .bidClose at_ => Sys2Proof.Machine.execBidClose at_ s
  | .planCommitInstant at_ => Sys2Proof.Machine.execPlanCommitInstant at_ s
  | .planCommit header body => Sys2Proof.Machine.execPlanCommit header body s
  | .planHoldExpiry at_ => Sys2Proof.Machine.execPlanHoldExpiry at_ s
  | .planApply at_ => Sys2Proof.Machine.execPlanApply at_ s
  | .planArm master => Sys2Proof.Machine.execPlanArm master s
  | .loopTick at_ => Sys2Proof.Machine.execLoopTick at_ s
  | .tuneProposed => Sys2Proof.Machine.execTuneProposed s
  | .loopSetmode master loop mode bumpless => Sys2Proof.Machine.execLoopSetmode master loop mode bumpless s
  | .loopSwap master loop => Sys2Proof.Machine.execLoopSwap master loop s
  | .tuneAbort master loop => Sys2Proof.Machine.execTuneAbort master loop s
  | .pairHiWrite master address value => Sys2Proof.Machine.execPairHiWrite master address value s
  | .pairLoRead master address => Sys2Proof.Machine.execPairLoRead master address s
  | .loopDdataAccess master write value => Sys2Proof.Machine.execLoopDdataAccess master write value s
  | .taskRelease task at_ => Sys2Proof.Machine.execTaskRelease task at_ s
  | .latchComplete at_ => Sys2Proof.Machine.execLatchComplete at_ s
  | .taskEnd master task stores => Sys2Proof.Machine.execTaskEnd master task stores s
  | .commitComplete at_ => Sys2Proof.Machine.execCommitComplete at_ s
  | .overrun task at_ => Sys2Proof.Machine.execOverrun task at_ s
  | .retBudget task => Sys2Proof.Machine.execRetBudget task s
  | .retentiveDrain => Sys2Proof.Machine.execRetentiveDrain s
  | .switchInstant at_ => Sys2Proof.Machine.execSwitchInstant at_ s
  | .publishLaunch group at_ => Sys2Proof.Machine.execPublishLaunch group at_ s
  | .publish header body => Sys2Proof.Machine.execPublish header body s
  | .checkInstant at_ => Sys2Proof.Machine.execCheckInstant at_ s
  | .command header body => Sys2Proof.Machine.execCommand header body s
  | .commandAck header body => Sys2Proof.Machine.execCommandAck header body s
  | .commandHoldExpiry at_ => Sys2Proof.Machine.execCommandHoldExpiry at_ s
  | .valueGroupLaunch group at_ => Sys2Proof.Machine.execValueGroupLaunch group at_ s
  | .intervalCommit at_ samples => Sys2Proof.Machine.execIntervalCommit at_ samples s
  | .saveWriteComplete => Sys2Proof.Machine.execSaveWriteComplete s
  | .meterValuePost window => Sys2Proof.Machine.execMeterValuePost window s
  | .chFault channel cause => Sys2Proof.Machine.execChFault channel cause s
  | .chRecover channel => Sys2Proof.Machine.execChRecover channel s
  | .pulseEmitterTick at_ => Sys2Proof.Machine.execPulseEmitterTick at_ s
  | .pulseInputEdge pin => Sys2Proof.Machine.execPulseInputEdge pin s
  | .calculatorStep calculator at_ => Sys2Proof.Machine.execCalculatorStep calculator at_ s
  | .heatCommit master calculator => Sys2Proof.Machine.execHeatCommit master calculator s
  | .saveRequest master => Sys2Proof.Machine.execSaveRequest master s
  | .calibrationWindowEnd measured => Sys2Proof.Machine.execCalibrationWindowEnd measured s
  | .powerFailWarning => Sys2Proof.Machine.execPowerFailWarning s
  | .feedLost feed => Sys2Proof.Machine.execFeedLost feed s
  | .feedOk feed => Sys2Proof.Machine.execFeedOk feed s
  | .servoUpdate master => Sys2Proof.Machine.execServoUpdate master s
  | .servoStep master => Sys2Proof.Machine.execServoStep master s
  | .stepCancel master => Sys2Proof.Machine.execStepCancel master s
  | .stepTaken => Sys2Proof.Machine.execStepTaken s
  | .adjWrite master value => Sys2Proof.Machine.execAdjWrite master value s
  | .timeNowCapture master => Sys2Proof.Machine.execTimeNowCapture master s
  | .lockLost => Sys2Proof.Machine.execLockLost s
  | .holdover => Sys2Proof.Machine.execHoldover s
  | .ppsInEdge at_ => Sys2Proof.Machine.execPpsInEdge at_ s
  | .ppsInLoss => Sys2Proof.Machine.execPpsInLoss s
  | .ppsOutPulse at_ => Sys2Proof.Machine.execPpsOutPulse at_ s
  | .tevtCapture pin rising at_ => Sys2Proof.Machine.execTevtCapture pin rising at_ s
  | .tevtCompare pin at_ => Sys2Proof.Machine.execTevtCompare pin at_ s
  | .tevtArm master pin value => Sys2Proof.Machine.execTevtArm master pin value s
  | .tevtFifoRead master pin => Sys2Proof.Machine.execTevtFifoRead master pin s
  | .frameLaunch port boundary interval stamp frac => Sys2Proof.Machine.execFrameLaunch port boundary interval stamp frac s
  | .cutThrough port frame => Sys2Proof.Machine.execCutThrough port frame s
  | .frameReceive port frame => Sys2Proof.Machine.execFrameReceive port frame s
  | .txTailWrite master value => Sys2Proof.Machine.execTxTailWrite master value s
  | .linkUp port speed => Sys2Proof.Machine.execLinkUp port speed s
  | .linkDown port => Sys2Proof.Machine.execLinkDown port s
  | .uartGo master uart => Sys2Proof.Machine.execUartGo master uart s
  | .uartResponse uart result data stamp => Sys2Proof.Machine.execUartResponse uart result data stamp s
  | .calendarRollover => Sys2Proof.Machine.execCalendarRollover s
  | .calCommit master roll => Sys2Proof.Machine.execCalCommit master roll s
  | .calCapture master roll => Sys2Proof.Machine.execCalCapture master roll s
  | .dstFwd master roll => Sys2Proof.Machine.execDstFwd master roll s
  | .dstBack master roll => Sys2Proof.Machine.execDstBack master roll s
  | .calGroupRead master field => Sys2Proof.Machine.execCalGroupRead master field s
  | .shadowRelease master => Sys2Proof.Machine.execShadowRelease master s
  | .trimWindowClose => Sys2Proof.Machine.execTrimWindowClose s
  | .oscstop => Sys2Proof.Machine.execOscstop s
  | .vbatMeasure low => Sys2Proof.Machine.execVbatMeasure low s
  | .heartbeatLaunch at_ => Sys2Proof.Machine.execHeartbeatLaunch at_ s
  | .heartbeat header body => Sys2Proof.Machine.execHeartbeat header body s
  | .heartbeatCheck at_ => Sys2Proof.Machine.execHeartbeatCheck at_ s
  | .pairIlChange level => Sys2Proof.Machine.execPairIlChange level s
  | .startWaitExpiry elapsed => Sys2Proof.Machine.execStartWaitExpiry elapsed s
  | .ilFault => Sys2Proof.Machine.execIlFault s
  | .alive master => Sys2Proof.Machine.execAlive master s
  | .aliveExpiry => Sys2Proof.Machine.execAliveExpiry s
  | .mirrorPoint at_ => Sys2Proof.Machine.execMirrorPoint at_ s
  | .mirrorPointRequest master => Sys2Proof.Machine.execMirrorPointRequest master s
  | .mirrorData header body => Sys2Proof.Machine.execMirrorData header body s
  | .mirrorEnd header body => Sys2Proof.Machine.execMirrorEnd header body s
  | .mirrorTable header table => Sys2Proof.Machine.execMirrorTable header table s
  | .swapDue at_ => Sys2Proof.Machine.execSwapDue at_ s
  | .swapOffer header mseq claim => Sys2Proof.Machine.execSwapOffer header mseq claim s
  | .swapAccept header claim => Sys2Proof.Machine.execSwapAccept header claim s
  | .swapTimeout => Sys2Proof.Machine.execSwapTimeout s
  | .resyncReq header epoch => Sys2Proof.Machine.execResyncReq header epoch s
  | .resyncEnd header mseq => Sys2Proof.Machine.execResyncEnd header mseq s
  | .resyncTimeout => Sys2Proof.Machine.execResyncTimeout s
  | .faultCondition conditions => Sys2Proof.Machine.execFaultCondition conditions s
  | .faultUserWrite master index value => Sys2Proof.Machine.execFaultUserWrite master index value s
  | .faultCtrlClear master rising => Sys2Proof.Machine.execFaultCtrlClear master rising s
  | .faultTestreqGo master source => Sys2Proof.Machine.execFaultTestreqGo master source s
  | .faultInput gpio level => Sys2Proof.Machine.execFaultInput gpio level s
  | .pllSwitch pll => Sys2Proof.Machine.execPllSwitch pll s
  | .thermalSample readings => Sys2Proof.Machine.execThermalSample readings s
  | .thermSkew hot cool difference => Sys2Proof.Machine.execThermSkew hot cool difference s
  | .avsAdjust step => Sys2Proof.Machine.execAvsAdjust step s
  | .logPost master code => Sys2Proof.Machine.execLogPost master code s
  | .logIntakeEntry => Sys2Proof.Machine.execLogIntakeEntry s
  | .rateRefill at_ => Sys2Proof.Machine.execRateRefill at_ s
  | .flushStart => Sys2Proof.Machine.execFlushStart s
  | .flushComplete => Sys2Proof.Machine.execFlushComplete s
  | .avAnnounce header body => Sys2Proof.Machine.execAvAnnounce header body s
  | .avFrag header body => Sys2Proof.Machine.execAvFrag header body s
  | .avAck header body => Sys2Proof.Machine.execAvAck header body s
  | .avAbort header image cause => Sys2Proof.Machine.execAvAbort header image cause s
  | .avResend port => Sys2Proof.Machine.execAvResend port s
  | .avAnnounceRepeat port => Sys2Proof.Machine.execAvAnnounceRepeat port s
  | .activateAt at_ env => Sys2Proof.Machine.execActivateAt at_ env s
  | .rotationInstant at_ failing => Sys2Proof.Machine.execRotationInstant at_ failing s
  | .rotationNow master failing => Sys2Proof.Machine.execRotationNow master failing s
  | .bistDone passed => Sys2Proof.Machine.execBistDone passed s
  | .rotate dirty window => Sys2Proof.Machine.execRotate dirty window s
  | .rotateAbandon => Sys2Proof.Machine.execRotateAbandon s
  | .roleLost tile env => Sys2Proof.Machine.execRoleLost tile env s
  | .scrubPass findings => Sys2Proof.Machine.execScrubPass findings s
  | .sramUe address => Sys2Proof.Machine.execSramUe address s
  | .mramRemap sector => Sys2Proof.Machine.execMramRemap sector s
  | .accessViol master kind address => Sys2Proof.Machine.execAccessViol master kind address s
  | .fabricAtLoad master => Sys2Proof.Machine.execFabricAtLoad master s
  | .fabricAtCommit master => Sys2Proof.Machine.execFabricAtCommit master s
  | .tamper input pin => Sys2Proof.Machine.execTamper input pin s
  | .keyBad slot => Sys2Proof.Machine.execKeyBad slot s
  | .dbgChal => Sys2Proof.Machine.execDbgChal s
  | .dbgResp head sig => Sys2Proof.Machine.execDbgResp head sig s
  | .dbgAccess core address write data => Sys2Proof.Machine.execDbgAccess core address write data s
  | .bypass => Sys2Proof.Machine.execBypass s
  | .idcode => Sys2Proof.Machine.execIdcode s
  | .samplePreload => Sys2Proof.Machine.execSamplePreload s
  | .extest instr => Sys2Proof.Machine.execExtest instr s
  | .tapReset => Sys2Proof.Machine.execTapReset s
  | .rcRead master address rising => Sys2Proof.Machine.execRcRead master address rising s
  | .registerWrite master address value => Sys2Proof.Machine.execRegisterWrite master address value s
  | .domainSwitch domain failing => Sys2Proof.Machine.execDomainSwitch domain failing s
  | .batchWaitTimeout batch => Sys2Proof.Machine.execBatchWaitTimeout batch s
  | .sealTag => Sys2Proof.Machine.execSealTag s
  | .ready => Sys2Proof.Machine.execReady s
  | .demoted => Sys2Proof.Machine.execDemoted s
  | .addressTableAgeOut at_ => Sys2Proof.Machine.execAddressTableAgeOut at_ s
  | .sourceReleased source => Sys2Proof.Machine.execSourceReleased source s
  | .pwmPeriodStart channel => Sys2Proof.Machine.execPwmPeriodStart channel s
  | .porstNLow => Sys2Proof.Machine.execPorstNLow s
  | .bar2Write host offset data => Sys2Proof.Machine.execBar2Write host offset data s

end Sys2Proof.Machine
end

