-- ==== Sys2Proof/Safety.lean ====
section
/-! DEFINITION. What every run keeps: memory and registers in their canonical form. -/

namespace Sys2Proof.Machine

/-- Memory has its canonical form: addresses strictly rise and no entry is 0, which an unlisted address reads as. -/
def Memory.wf (m : List Host.Cell) : Bool := canonical (fun _ => (0 : Byte)) m

/-- The registers have their canonical form: no entry equals its register's reset value. -/
def Registers.wf (m : KMap W32) : Bool := canonical regReset m

/-- The invariant of every run. -/
def State.sound (s : State) : Prop := Memory.wf s.mem = true ∧ Registers.wf s.regs = true

end Sys2Proof.Machine
end

