-- ==== Sys2Proof/WellFormed.lean ====
section
/-! DEFINITION. Which commands the manual can name: the lengths and ranges of operands that a command's type does not
bound already. A command outside them is no command of the manual. -/

namespace Sys2Proof

/-- The operands of an event or access lie where the manual puts them: pairs 0 to 7, lanes 0 to 33, ports 0 to 4,
pages of 1 to 256 bytes, frame bodies of their stated lengths. -/
def Instr.operandsOk : Instr → Bool
  | .doorbellWrite _ pair _ | .queueEnable _ pair _ | .queueDisable _ pair _ => decide (pair.toNat < 8)
  | .pageProgram _ d => decide (1 ≤ d.length ∧ d.length ≤ 256)
  | .problemEnd lane _ => decide (lane.toNat < 34)
  | .laneEccUncorrectable e => decide (e.lane.toNat < 34)
  | .bid _ b => decide (b.draws.length ≤ 32)
  | .publish _ b | .command _ b => decide (1 ≤ b.values.length ∧ b.values.length ≤ 128)
  | .frameLaunch port _ _ _ _ | .frameReceive port _ => decide (port.toNat ≤ 4)
  | .cutThrough port _ => decide (port.toNat ≤ 1)
  | .mirrorData _ b => decide (1 ≤ b.lines.length ∧ b.lines.length ≤ 20) && b.lines.all fun l => l.2.length == 64
  | .mirrorTable _ t => decide (t.entries.length = 80)
  | .thermalSample r => decide (r.temps.length ≤ 16)
  | .avAnnounce _ b => decide (b.cmac.length = 16)
  | .avFrag _ b => decide (b.data.length = 1024 ∧ b.cmac.length = if b.frag = 3 then 16 else 0)
  | .tamper input _ => decide (input.toNat < 8)
  | .keyBad slot => decide (slot.toNat < 128)
  | .pairHiWrite _ a _ | .pairLoRead _ a | .rcRead _ a _ | .registerWrite _ a _ => decide (a < 0x1000000 ∧ a % 4 = 0)
  | _ => true

/-- A command that the manual can name: its operands are in range, and a host command's PLEN fits its 16 bits (R46). -/
def Instr.wellFormed (c : Instr) : Bool :=
  c.operandsOk && (Machine.cmdOf c).all fun p => decide (p.2.plen < 65536)

end Sys2Proof
end

