-- ==== Sys2Proof/Certificates/Slice0/Obligations.lean ====
section
/-! DEFINITION. What is claimed of the model, rule by rule. A statement about a command says under which conditions on the
state and the operands it runs, and what it then leaves. `Runs c s t` reads: command `c` at state `s` answers the next
state `t`. -/

open Sys2Proof Sys2Proof.Machine

/-- Command `c` at state `s` answers the next state `t`. -/
abbrev Sys2Proof.Machine.Runs (c : Instr) (s t : State) : Prop := exec c s = .next t

/-- A host command passes the gate: nothing of R4, R5, R47, R56, R58, R70, R71 or R485 refuses it. -/
abbrev Sys2Proof.Machine.State.admits (s : State) (c : CmdRow) (i : Issue) : Prop := s.gate c i = none

/-! ### The block as a whole -/

/-- A step takes the command at the front of the queue: it is `exec` of that command on the state with the queue's rest. -/
def Obligations.FrontCommandRuns : Prop :=
  ∀ (s : State) (c : Instr) (q : List Instr), step { s with pending := c :: q } = exec c { s with pending := q }

/-- With no command waiting the block idles (the model's own choice, DESIGN CHOICE, log 1). -/
def Sys2Proof.Claims.EmptyQueueIdles : Prop :=
  ∀ s : State, s.pending = [] → step s = .next s

/-- Memory and registers are in canonical form right after reset. -/
def Obligations.ResetHasCanonicalMaps : Prop := State.reset.sound

/-- Every step keeps memory and registers in canonical form. -/
def Obligations.StepKeepsCanonicalMaps : Prop :=
  ∀ s t : State, s.sound → step s = .next t → t.sound

/-- A command acts on everything but the queue: the commands that wait behind it stay as they are, in their order. -/
def Obligations.CommandsKeepTheQueue : Prop :=
  ∀ (c : Instr) (s t : State), exec c s = .next t → t.pending = s.pending

/-- No command stops the block with a fault or a refusal. -/
def Sys2Proof.Claims.EveryCommandCompletes : Prop :=
  ∀ (c : Instr) (s : State), ∃ t, Runs c s t

/-- Reset values that the register summaries give: at one register or more of every block, with registers that read 0 beside
them (of these, the vector control word at 0x1200C is PRESUMED to be as PCI Express has it, PRESUMED, log 38); the time base is 0 and
UNSET. -/
def Obligations.ResetRegisterValues : Prop :=
  (∀ p ∈ [(0x00000, 0x00101013), (0x00030, 0), (0x00034, 0), (0x10000, 0x72400057), (0x10004, 0x00010000), (0x10014, 0), (0x10018, 0),
      (0x1001C, 0), (0x10040, 0x01000000), (0x10044, 0), (0x10048, 0), (0x1200C, 1), (0x13000, 0), (0x20000, 0x00804022),
      (0x2001C, 0x3D700000), (0x20024, 0x3E400000), (0x30000, 0x002C0100), (0x40000, 0x04000410), (0x50000, 0x00844210),
      (0x50020, 0x0808), (0x60000, 0x444), (0x60040, 0x3E8), (0x60044, 0x410), (0x60048, 0x12C), (0x6004C, 0xFFFFFFFF), (0x70000, 0x207),
      (0x70008, 0x40), (0x7001C, 6), (0x80000, 0x485), (0x90000, 0x00101040), (0x90030, 3), (0xA0000, 0xC0), (0xA0004, 0), (0xA0008, 0),
      (0xA0060, 0xFFFFFFFF), (0xA006C, 0xFFFFFF00), (0xA0100, 0xAAAAAAAA), (0xB0000, 0x10002040), (0xB1004, 0x0014000A),
      (0xC0000, 0x06000302), (0xC0004, 0x22), (0xE0000, 0x05100E10), (0xE0004, 0x003FDFFF), (0xE0034, 0x2EE), (0xE0104, 0x15180),
      (0xE0118, 0x000F0000), (0xF0000, 0x00421018), (0xF0004, 0xA8), (0xF0100, 0x3D090)], State.reset.rd p.1 = w32 p.2) ∧
  (∀ k : Fin 8, State.reset.rd (qpReg k.val 0x1C) = w32 (0x100 + 0x100 * k.val) ∧ State.reset.rd (qpReg k.val 0) = 0) ∧
  State.reset.now = 0 ∧ State.reset.timeState = 0


/-! ### Host commands, their gate and their completions (02) -/

/-- R64, R66, R70, R71, R56, R4, R5, R47: a host command that the gate refuses completes with that status and has no other
effect. Said of ten rows of the command index, of the classes SYS, SOLV, DRIFT and PWR. -/
def Sys2Proof.Claims.RefusedCommandsOnlyComplete : Prop :=
  ∀ (s : State) (i : Issue) (st : Nat),
    (∀ d, s.gate { op := 0x0100, plen := 0 } i = some st → Runs (.sysNop i d) s (s.done i st)) ∧
    (∀ b, s.gate { op := 0x0102, plen := 4 } i = some st → Runs (.sysWindowSet i b) s (s.done i st)) ∧
    (∀ n w, s.gate { op := 0x0107, plen := 5, frozenNo := true } i = some st → Runs (.sysRotate i n w) s (s.done i st)) ∧
    (∀ r b, s.gate { op := 0x0109, plen := 10 } i = some st → Runs (.sysConfigWrite i r b) s (s.done i st)) ∧
    (∀ d n, s.gate { op := 0x0201, plen := 9 } i = some st → Runs (.solvBatchSubmit i d n) s (s.done i st)) ∧
    (∀ l, s.gate { op := 0x0206, plen := 1, async := true } i = some st → Runs (.solvLaneRetire i l) s (s.done i st)) ∧
    (∀ b, s.gate { op := 0x0301, plen := 8, pers := some 1, frozenNo := true } i = some st → Runs (.driftNetConfig i b) s (s.done i st)) ∧
    (∀ p c, s.gate { op := 0x0304, plen := 3, pers := some 0, frozenNo := true } i = some st → Runs (.driftSlotSet i p c) s (s.done i st)) ∧
    (∀ d o, s.gate { op := 0x0F01, plen := 2, frozenNo := true, async := true } i = some st → Runs (.pwrDomainSet i d o) s (s.done i st)) ∧
    (∀ k, s.gate { op := 0x0F03, plen := 1 } i = some st → Runs (.pwrThermalRead i k) s (s.done i st))

/-- The gate's status, rule by rule, for a row of the index at a running Firn: recovery serves seven commands only (R70), a
personality mismatch leaves SYS, LOG, IMG and KEY (R4), a command of the other personality and an N command under FREEZE
are refused (R5, R71), the 33rd asynchronous command has no place (R56), a short PLEN is a parameter error (R47). That the
checks come in this order is the model's (DEDUCED, log 18). -/
def Sys2Proof.Claims.GateStatusFollowsTheRules : Prop :=
  ∀ (s : State) (c : CmdRow) (i : Issue),
    (s.recovery = true → recoveryCmd c.op = false → s.gate c i = some eState) ∧
    (s.recovery = false → s.persMismatch = true → mismatchClass c.op = false → s.gate c i = some ePersonality) ∧
    (s.recovery = false → s.persMismatch = false → (∃ p, c.pers = some p ∧ p ≠ s.pers) → s.gate c i = some ePersonality) ∧
    (s.recovery = false → s.persMismatch = false → (∀ p, c.pers = some p → p = s.pers) → s.frozen = true → c.frozenNo = true →
      s.gate c i = some eFrozen) ∧
    (s.recovery = false → s.persMismatch = false → (∀ p, c.pers = some p → p = s.pers) → c.frozenNo = false → c.async = true →
      32 ≤ s.mb.outstanding.length → s.gate c i = some eNospace) ∧
    (s.recovery = false → s.persMismatch = false → (∀ p, c.pers = some p → p = s.pers) → c.frozenNo = false → c.async = false → i.entryErr = none →
      i.plen < c.plen → s.gate c i = some eParam) ∧
    (s.recovery = false → s.persMismatch = false → (∀ p, c.pers = some p → p = s.pers) → s.frozen = false → c.async = false → i.entryErr = none →
      c.plen ≤ i.plen → s.roleLost c.op = false → s.gate c i = none)

/-- R48, R49: a completion of an active pair that its host still owns is the 16-byte entry at the queue's tail, with the
pass's PHASE; the tail moves on, and PHASE is inverted when it returns to 0. -/
def Sys2Proof.Claims.CompletionGoesToTheQueue : Prop :=
  ∀ (s : State) (k : Fin 8) (i : Issue) (st : Nat) (w0 w1 w2 : W32),
    i.src = .qp k → s.qpActive k.val = true → s.fld (qpReg k.val 0x1C) 13 12 = ownerCode i.host →
    (∀ j < 16, s.populated (s.cqSlot k.val + j) = true ∧ s.poisoned (s.cqSlot k.val + j) = false) →
    (∀ j < 16, (s.complete i st w0 w1 w2).byteAt (s.cqSlot k.val + j) =
      (cqEntry i.tag (s.mb.phase.getLsbD k.val) st w0 w1 w2).getD j 0) ∧
    (s.complete i st w0 w1 w2).rd (qpReg k.val 0x18) = w32 (((s.rd (qpReg k.val 0x18)).toNat + 1) % s.cqLen k.val) ∧
    ((s.complete i st w0 w1 w2).mb.phase.getLsbD k.val =
      (s.mb.phase.getLsbD k.val != decide (((s.rd (qpReg k.val 0x18)).toNat + 1) % s.cqLen k.val = 0)))

/-- The frame of a completion: no register outside the mailbox, no byte outside the 16 of the entry, and nothing but the
mailbox, memory, poison and the mirror's marks. The entry's address is the one to which the completion writes. -/
def Sys2Proof.Claims.CompletionFrame : Prop :=
  ∀ (s : State) (i : Issue) (st : Nat) (w0 w1 w2 : W32),
    (∀ a, a < 0x10000 ∨ 0x20000 ≤ a → (s.complete i st w0 w1 w2).rd a = s.rd a) ∧
    (∀ (k : Fin 8) (a : Nat), i.src = .qp k → (a < s.cqSlot k.val ∨ s.cqSlot k.val + 16 ≤ a) →
      (s.complete i st w0 w1 w2).byteAt a = s.byteAt a) ∧
    (i.src = .imm → (s.complete i st w0 w1 w2).mem = s.mem) ∧
    (s.complete i st w0 w1 w2).mb.outstanding = s.mb.outstanding ∧ (s.complete i st w0 w1 w2).mb.waiting = s.mb.waiting ∧
    (∃ m g p d b, s.complete i st w0 w1 w2 = { s with mem := m, regs := g, poison := p, pair := { s.pair with dirty := d }, mb := b })

/-- R62: the immediate mailbox's completion has PHASE 0; BUSY clears, DONE is set and, without NOIRQ, bit 9 of MB_EVENT is set,
where SYS_EVENT_ROUTE has moved no source. -/
def Sys2Proof.Claims.ImmediateCompletion : Prop :=
  ∀ (s : State) (i : Issue) (st : Nat) (w0 w1 w2 : W32), i.src = .imm → s.mb.routes = [] →
    let t := s.complete i st w0 w1 w2
    (∀ j : Fin 4, t.rd (0x11FF0 + 4 * j.val) = w32 (leAt (cqEntry i.tag false st w0 w1 w2) (4 * j.val) 4)) ∧
    t.bit 0x10048 2 = false ∧ t.bit 0x10048 1 = true ∧ (i.noirq = false → t.bit 0x10014 9 = true)

/-- R59: an event bit that rises with its enable set sends one MSI-X message, or is recorded in the PBA while the vector is
masked; a bit that stays 1 sends nothing. -/
def Sys2Proof.Claims.EventsRaiseOneMessage : Prop :=
  ∀ (s : State) (v : Fin 16),
    (s.rawEvent v.val).bit 0x10014 v.val = true ∧
    (s.bit 0x10014 v.val = true → (s.rawEvent v.val).mb.msix = s.mb.msix ∧ (s.rawEvent v.val).rd 0x13000 = s.rd 0x13000) ∧
    (s.bit 0x10014 v.val = false → s.bit 0x10018 v.val = true → s.bit (0x1200C + 16 * v.val) 0 = false →
      kget 0 (s.rawEvent v.val).mb.msix v.val = kget 0 s.mb.msix v.val + 1) ∧
    (s.bit 0x10014 v.val = false → s.bit 0x10018 v.val = true → s.bit (0x1200C + 16 * v.val) 0 = true →
      (s.rawEvent v.val).bit 0x13000 v.val = true ∧ (s.rawEvent v.val).mb.msix = s.mb.msix)

/-- SYS commands that report (R76, R123, R448, R491): each answers its result words, and nothing else changes. -/
def Sys2Proof.Claims.SystemQueriesAnswer : Prop :=
  ∀ (s : State) (i : Issue),
    (∀ d, s.admits { op := 0x0100, plen := 0 } i →
      Runs (.sysNop i d) s (s.complete i eOk (w32 (leAt (d.take i.plen) 0 4)) (w32 (leAt (d.take i.plen) 4 4)) (w32 (leAt (d.take i.plen) 8 4)))) ∧
    (s.admits { op := 0x0101, plen := 0 } i →
      Runs (.sysInfo i) s (s.complete i eOk Config.firnVersion (w32 (s.fld 0xC0020 15 0))
        (w32 (s.fld 0x80008 13 0 + s.conf.ddrSize % 8 * 65536)))) ∧
    (∀ (t m r : Byte), s.admits { op := 0x0103, plen := 3 } i → s.targetShape t.toNat ≠ none → m.toNat ≤ 15 → r.toNat ≤ 15 →
      Runs (.sysAccessGet i t m r) s (s.complete i eOk (w32 (s.accEntry t.toNat m.toNat r.toNat).start)
        (w32 (s.accEntry t.toNat m.toNat r.toNat).stop) (w32 (s.accEntry t.toNat m.toNat r.toNat).rights.toNat))) ∧
    (s.admits { op := 0x0106, plen := 0 } i →
      Runs (.sysRoleMap i) s (s.complete i eOk (s.rd 0xE0114) (w32 (s.fld 0xE0118 19 16 + s.fld 0xE0118 8 0 * 256)) s.toRotation)) ∧
    (∀ (r : W16) (buf : Buf) (b : Bytes), s.admits { op := 0x0108, plen := 10 } i → kfind s.cfgBytes r.toNat = some b →
      s.bufOk i.host true buf = true → b.length ≤ buf.len.toNat →
      Runs (.sysConfigRead i r buf) s ((s.wrMem (s.winAddr buf.off) b).complete i eOk (w32 b.length) (w32 (s.fld 0xC0020 15 0)) 0))

/-- SYS commands that change the mailbox, the access tables, the rotation and the configuration (R72, R73, R76, R78, R448,
R491, R442): for SYS_EVENT_ROUTE the new route and the completion are said, for the others the whole next state. An opcode
of no command completes with E_OPCODE, in recovery with E_STATE, and in the state of R4 with E_PERSONALITY unless its class is
one of those that R4 serves. -/
def Sys2Proof.Claims.SystemSettingsTakeEffect : Prop :=
  ∀ (s : State) (i : Issue),
    (∀ b : W32, s.admits { op := 0x0102, plen := 4 } i → b.toNat % 0x100000 = 0 → b.toNat ≤ 0x01000000 →
      s.windowHolds b.toNat = true → Runs (.sysWindowSet i b) s ((s.moveWindow b).complete i eOk (s.rd 0x10040) 0 0)) ∧
    (∀ b : W32, (s.moveWindow b).rd 0x10040 = b ∧ (s.moveWindow b).mb.waiting.length = s.mb.waiting.length) ∧
    (∀ (tg m r rt : Byte) (a b : W32), s.admits { op := 0x0104, plen := 12 } i → s.targetShape tg.toNat ≠ none →
      (m.toNat = 11 ∨ m.toNat = 12) → r.toNat ≤ 15 → s.conf.hostLock = false →
      s.entryOk ⟨tg.toNat, m.toNat, r.toNat, a.toNat, b.toNat, rt⟩ = true →
      (s.accEntry tg.toNat m.toNat r.toNat).rights.getLsbD 7 = false →
      let e : AccEntry := ⟨tg.toNat, m.toNat, r.toNat, a.toNat, b.toNat, rt⟩
      Runs (.sysAccessSet i tg m r rt a b) s
        (((((s.stageEntry e).putEntry e).setBit 0x20 2 false).postFirn 0x0121
          (w32 (tg.toNat + m.toNat * 256 + r.toNat * 65536)) a b).done i eOk)) ∧
    (∀ src vec : Byte, s.admits { op := 0x0105, plen := 2 } i → (src.toNat = 0 ∨ (9 ≤ src.toNat ∧ src.toNat ≤ 15)) → vec.toNat ≤ 15 →
      ∃ t, Runs (.sysEventRoute i src vec) s t ∧ kfind t.mb.routes src.toNat = some vec ∧
        t.mb.last = some ⟨i.src, i.tag, eOk, 0, 0, 0⟩) ∧
    (∀ (n : W32) (now : Byte), s.admits { op := 0x0107, plen := 5, frozenNo := true } i →
      (n.toNat = 0 ∨ (3600 ≤ n.toNat ∧ n.toNat ≤ 2592000)) → now.toNat ≤ 1 → s.rotPhase = 0 → s.hasRsv = true →
      let u := ((s.wr 0xE0104 n).setBit 0xE0100 0 (n.toNat != 0)).wr64 0xE0108
        (if n.toNat = 0 then 0 else w64 (s.now + n.toNat * 1000000000))
      Runs (.sysRotate i n now) s ((if now = 1 then u.rotInstant i.env.badLanes.lanes else u).done i eOk)) ∧
    (∀ (r : W16) (buf : Buf) (c : CfgRecord), s.admits { op := 0x0109, plen := 10 } i → s.bufOk i.host false buf = true →
      i.env.recFormat.toNat = s.fld 0xC0020 31 16 → i.env.record = some c → s.recordOk c = true →
      (((kdel s.cfgBytes r.toNat).map fun (p : Nat × Bytes) => p.2.length).sum + buf.len.toNat ≤ storeRoom) →
      Runs (.sysConfigWrite i r buf) s
        ((({ s with cfgBytes := kset s.cfgBytes r.toNat (s.rdBuf buf) } : State).takeRecord c).done i eOk)) ∧
    (∀ op : W16, s.recovery = false → (s.persMismatch = false ∨ mismatchClass op.toNat = true) →
      Runs (.unknownOpcode i op) s (s.done i eOpcode)) ∧
    (∀ op : W16, s.recovery = false → s.persMismatch = true → mismatchClass op.toNat = false →
      Runs (.unknownOpcode i op) s (s.done i ePersonality)) ∧
    (∀ op : W16, s.recovery = true → Runs (.unknownOpcode i op) s (s.done i eState))

/-- A new record takes effect (R4, R257, R442, R512): the lock and the mismatch bit follow it, the stored format is the firmware's,
and the configured LPDDR4X size in force waits for the next reset. -/
def Sys2Proof.Claims.NewRecordTakesEffect : Prop :=
  ∀ (s : State) (c : CfgRecord),
    (s.takeRecord c).cfg = some c ∧ (s.takeRecord c).chip.ddrSize = s.chip.ddrSize ∧
    (s.takeRecord c).fld 0xC0020 15 0 = s.fld 0xC0020 31 16 ∧
    (s.takeRecord c).bit 0x50004 1 = c.metroLock ∧ (s.takeRecord c).bit 0x10010 6 = (c.personality.toNat != s.pers)

/-- R51, R79: a doorbell is judged by the first condition that applies; one that fits sets SQ_TAIL and CQ_HEAD.
Answers a next state, in the effect that its clause gives: doorbellWrite. -/
def Obligations.DoorbellIsJudgedInOrder : Prop :=
  ∀ (s : State) (h : HostId) (p : Byte) (v : W32), p.toNat ≤ 7 → s.hostOn h = true →
    let k := p.toNat
    let tail := fldOf v 15 0
    let head := fldOf v 31 16
    let mine := s.qpActive k = true ∧ s.fld (qpReg k 0x1C) 13 12 = ownerCode h
    let inRange := head < s.cqLen k ∧ inQueueOrder (s.cqLen k) (s.rd (qpReg k 0x14)).toNat head (s.rd (qpReg k 0x18)).toNat = true
    (¬ mine → Runs (.doorbellWrite h p v) s (s.mbErr 3 k false)) ∧
    (mine → s.sqLen k ≤ tail → Runs (.doorbellWrite h p v) s ((s.setErr k true).mbErr 1 k false)) ∧
    (mine → tail < s.sqLen k → ¬ inRange → Runs (.doorbellWrite h p v) s ((s.setErr k true).mbErr 2 k false)) ∧
    (mine → tail < s.sqLen k → inRange →
      Runs (.doorbellWrite h p v) s ((s.wr (qpReg k 0x10) (w32 tail)).wr (qpReg k 0x14) (w32 head)))

/-- R43, R45: the rise of ENABLE makes a pair active for its writer when R42 holds, and otherwise sets ERR and MB_ERR code 4;
clearing it lets the pair end once no command of it is outstanding, waits for a handover, or is a LOG_WRITE to be written. -/
def Sys2Proof.Claims.QueuePairsStartAndEnd : Prop :=
  ∀ (s : State) (h : HostId) (p : Byte) (v : W32), p.toNat ≤ 7 → s.hostOn h = true →
    let k := p.toNat
    let u := s.wr (qpReg k 0x1C) ((s.rd (qpReg k 0x1C) &&& 0xFFFFF0E6) ||| (v &&& 0xF19))
    (s.bit (qpReg k 0x1C) 0 = false → v.getLsbD 0 = true → u.recovery = false → u.qpOk h k = true →
      ∃ t, Runs (.queueEnable h p v) s t ∧ t.qpActive k = true ∧ t.fld (qpReg k 0x1C) 13 12 = ownerCode h ∧
        t.mb.phase.getLsbD k = true ∧ t.qpBase k = s.window ∧
        (∀ o ∈ [0xC, 0x10, 0x14, 0x18], t.rd (qpReg k o) = 0)) ∧
    (s.bit (qpReg k 0x1C) 0 = false → v.getLsbD 0 = true → u.recovery = false → u.qpOk h k = false →
      Runs (.queueEnable h p v) s ((u.setErr k true).mbErr 4 k false)) ∧
    (s.bit (qpReg k 0x1C) 0 = true → v.getLsbD 0 = false → s.pairBusy k = false →
      ∃ t, Runs (.queueDisable h p v) s t ∧ t.qpActive k = false ∧ t.bit (qpReg k 0x1C) 2 = false ∧
        t.fld (qpReg k 0x1C) 13 12 = 0 ∧ t.mem = s.mem) ∧
    (s.bit (qpReg k 0x1C) 0 = true → v.getLsbD 0 = false → s.pairBusy k = true →
      Runs (.queueDisable h p v) s u)

/-- R46, R54, R80: where no fetched command waits, Firn takes the entry at the head of the pair whose turn it is: a readable
entry moves the head on and the command that it spells is executed; an unreadable one sets ERR and moves nothing. Where Firn
does not serve, no pair has its turn, or a LOG_WRITE has not completed, nothing happens. -/
def Sys2Proof.Claims.FirnFetchesInTurn : Prop :=
  ∀ (s : State) (env : CmdEnv),
    (s.serving = true → s.chip.draining = none → s.logWrites ≠ [] → Runs (.commandFetch env) s s) ∧
    (s.serving = true → s.chip.draining = none → s.logWrites = [] → s.mb.waiting = [] → s.pick = none → Runs (.commandFetch env) s s) ∧
    (s.serving = false → Runs (.commandFetch env) s s) ∧
    (∀ k : Fin 8, s.serving = true → s.chip.draining = none → s.logWrites = [] → s.mb.waiting = [] → s.pick = some k.val →
      s.sramOk (hostMaster (s.ownerOf k.val)) false (s.entryAt k.val) 64 = false →
      ∃ t, Runs (.commandFetch env) s t ∧ t.bit (qpReg k.val 0x1C) 2 = true ∧ t.rd (qpReg k.val 0xC) = s.rd (qpReg k.val 0xC)) ∧
    (∀ k : Fin 8, s.serving = true → s.chip.draining = none → s.logWrites = [] → s.mb.waiting = [] → s.pick = some k.val →
      s.sramOk (hostMaster (s.ownerOf k.val)) false (s.entryAt k.val) 64 = true →
      Runs (.commandFetch env) s
        (((s.served k.val).wr (qpReg k.val 0xC) (w32 (((s.rd (qpReg k.val 0xC)).toNat + 1) % s.sqLen k.val))).startCmd
          (s.entryCmd (.qp k) (s.ownerOf k.val) (s.rdMem (s.entryAt k.val) 64) 56 env)))

/-- The immediate mailbox, MB_ERR and MB_EVENT (R10, R61, R62): GO sets BUSY and clears DONE, or is an error while BUSY;
reading MB_ERR clears it, but for an error of the same cycle; writing ones to MB_EVENT clears those bits that do not rise on the same edge. -/
def Sys2Proof.Claims.MailboxRegistersRespond : Prop :=
  ∀ (s : State) (h : HostId), s.hostOn h = true →
    (s.bit 0x10048 2 = true → Runs (.immediateGo h) s (s.mbErr 6 0 true)) ∧
    (s.bit 0x10048 2 = false → ∃ t, Runs (.immediateGo h) s t ∧ t.bit 0x10048 2 = true ∧ t.bit 0x10048 1 = false ∧
      t.mb.immGo = true ∧ t.mb.immHost = h ∧ t.mem = s.mem) ∧
    (∃ t, Runs (.mbErrRead ⟨h, 0⟩) s t ∧ t.rd 0x1001C = 0 ∧ t.bus.data = leBytes 4 (s.rd 0x1001C).toNat ∧ t.mem = s.mem ∧
      ∀ a, a ≠ 0x1001C → t.rd a = s.rd a) ∧
    (∀ r : W32, r ≠ 0 → ∃ t, Runs (.mbErrRead ⟨h, r⟩) s t ∧ t.rd 0x1001C = w32 (0x10000 + fldOf r 7 0) ∧
      t.bus.data = leBytes 4 (s.rd 0x1001C).toNat ∧ t.mem = s.mem) ∧
    (∀ (v : W32) (r : W16), ∃ t, Runs (.mbEventClear h v r) s t ∧
      (∀ b < 16, r.getLsbD b = false → t.bit 0x10014 b = (s.bit 0x10014 b && !v.getLsbD b)) ∧
      (∀ b < 16, r.getLsbD b = true → t.bit 0x10014 b = true))

/-- Host links (R33, R35, R37, R38, R39, R41, R72, R469): a PCIe link reset clears MB_EVENT, MB_EVENT_EN and the PBA and disables
every pair of HOSTP; an
unsupported access is discarded; a window write is stored, or refused as a whole with MB_ERRADDR; the SPI frame commands set
WEL and the frame mode, and its reset leaves MB_EVENT alone. -/
def Sys2Proof.Claims.HostLinksAct : Prop :=
  ∀ s : State,
    (∀ c, ∃ t, Runs (.pcieLinkReset c) s t ∧ t.rd 0x10014 = 0 ∧ t.rd 0x10018 = 0 ∧ t.rd 0x13000 = 0 ∧ t.frozen = s.frozen ∧
      (∀ k : Fin 8, s.fld (qpReg k.val 0x1C) 13 12 = 1 → t.qpActive k.val = false ∧ t.rd (qpReg k.val 0xC) = 0)) ∧
    (∀ w o n, s.hostOn .hostp = true → Runs (.bar0BadAccess w o n) s { s with bus := { data := [], ur := true } }) ∧
    (s.hostOn .hostp = true → Runs .unsupportedRequest s { s with bus := { data := [], ur := true } }) ∧
    (∀ h (o : W32) n, s.hostOn h = true →
      ∃ t, Runs (.bar2ErrorAccess h false o n) s t ∧ t.bus.data = List.replicate n 0 ∧ t.rd 0x10044 = o ∧ t.mem = s.mem) ∧
    (∀ h (o : W32) n, s.hostOn h = true → ∃ t, Runs (.bar2ErrorAccess h true o n) s t ∧ t.rd 0x10044 = o ∧ t.mem = s.mem) ∧
    (∀ h (o : W32) d, s.hostOn h = true → o.toNat + d.length ≤ 0x1000000 → s.sramOk (hostMaster h) true (s.window + o.toNat) d.length = true →
      s.cleanRun true (s.window + o.toNat) d.length = true → Runs (.bar2Write h o d) s
        ((s.breach (hostMaster h) (s.window + o.toNat) d.length).wrMem (s.window + o.toNat) d)) ∧
    (∀ h, s.hostOn h = false → Runs (.immediateGo h) s s) ∧
    (∀ h (p : Byte) (v : W32), s.hostOn h = false → Runs (.doorbellWrite h p v) s s) ∧
    (∀ h (o : W32) (d : Bytes), s.hostOn h = false → Runs (.bar2Write h o d) s s) ∧
    (s.spiOn = true → Runs .writeEnable s { s with spi := { s.spi with wel := true } }) ∧
    (s.spiOn = true → Runs .writeDisable s { s with spi := { s.spi with wel := false } }) ∧
    (s.spiOn = true → Runs .enterOctalSdr s { s with spi := { s.spi with octal := true } }) ∧
    (s.spiOn = true → Runs .exitOctal s { s with spi := { s.spi with octal := false } }) ∧
    (s.spiOn = true → Runs .readStatus s { s with bus := { data := [BitVec.ofNat 8 (2 * b2n s.spi.wel)], ur := false } }) ∧
    (s.spiOn = true → Runs .readId s { s with bus := { data := leBytes 4 (s.rd 0x10000).toNat, ur := false } }) ∧
    (s.spiOn = true → ∃ t, Runs .spiReset s t ∧ t.spi = { octal := false, wel := false } ∧ t.rd 0x10014 = s.rd 0x10014 ∧
      t.rd 0x10040 = s.rd 0x10040 ∧ (∀ k : Fin 8, s.fld (qpReg k.val 0x1C) 13 12 = 2 → t.qpActive k.val = false)) ∧
    (∀ c, Runs (.spiIgnoredCommand c) s s)


/-! ### Resets, restarts, images and Avalanche (02, 15, 17) -/

/-- R1, R2, R425, R444, R478, R479: straps that hold the chip keep Firn and RESET_OUT_N from rising; BOOTSEL 1 starts Bedrock
recovery, which is ready for commands; PORST_N low resets all memory but MRAM. The cause of the reset is in PCR_RSTCAUSE. That a start is one command up to READY is the
model's (DESIGN CHOICE, log 28). -/
def Sys2Proof.Claims.ResetsStartTheChip : Prop :=
  ∀ (s : State) (straps : Straps) (env : BootEnv),
    ((straps.pers = 2 ∨ straps.pers = 3 ∨ 2 ≤ straps.bootsel.toNat) →
      ∃ t, Runs (.powerOnReset straps env) s t ∧ t.chip.straps = straps ∧ t.chip.running = false ∧ t.chip.resetOut = false) ∧
    (straps.pers.toNat ≤ 1 → straps.bootsel = 1 →
      ∃ t, Runs (.powerOnReset straps env) s t ∧ t.chip.straps = straps ∧ t.chip.resetOut = true ∧ t.recovery = true ∧
        t.serving = true ∧ t.fld 0xE0020 7 0 = 1 ∧ t.fld 0x10010 5 4 = straps.pers.toNat) ∧
    (∀ c : Byte, 2 ≤ c.toNat → c.toNat ≤ 5 → s.chip.straps.pers.toNat ≤ 1 → s.chip.straps.bootsel = 1 →
      ∃ t, Runs (.systemReset c env) s t ∧ t.chip.straps = s.chip.straps ∧ t.recovery = true ∧ t.serving = true ∧
        t.fld 0xE0020 7 0 = c.toNat ∧ t.fld 0xE0020 15 8 = s.fld 0xE0020 7 0) ∧
    (∃ t, Runs .porstNLow s t ∧ t.chip.running = false ∧ t.chip.resetOut = false ∧
      (∀ a, 0x10000000 ≤ a → a < 0x12000000 → t.byteAt a = s.byteAt a) ∧
      (∀ a, a < 0x10000000 ∨ 0x12000000 ≤ a → t.byteAt a = 0))

/-- R480: a normal start of a stored configuration without auto-start and without a migration ends with the mailbox ready
for commands, from a slot or in recovery, within one command (DESIGN CHOICE, log 28). -/
def Sys2Proof.Claims.NormalStartReachesReady : Prop :=
  ∀ (s : State) (straps : Straps) (env : BootEnv), straps.pers.toNat ≤ 1 → straps.bootsel = 0 → env.migrated = none →
    s.boot.oldCfg = none → s.conf.autostart = 0 → ∃ t, Runs (.powerOnReset straps env) s t ∧ t.serving = true

/-- R67, R69, R388, R426, R478: SYS_RESTART of kind 0, with no command outstanding, leaves
READY 0 and RESTART 1, and otherwise begins the wait of 100 ms; of kind 1 it is a system reset with cause 2;
an unplanned restart after the good declaration, with no command in hand and no earlier restart, leaves the same bits and its
instant; the watchdog raises source 1 and then restarts; a lockstep error raises source 0 and, on trial, is a failed boot;
the boot's time limit is a failed boot on trial and nothing otherwise; READY ends a restart, and with it a wait.
Answers a next state, in the effect that its clause gives: sysRestart, bootTimeout, firnRestartUnplanned, firnWdog,
firnLockstep, ready. -/
def Obligations.RestartsAreAnnounced : Prop :=
  ∀ (s : State) (i : Issue) (env : BootEnv),
    (s.admits { op := 0x010A, plen := 1 } i → s.logWrites = [] → s.mb.outstanding = [] →
      ∃ t, Runs (.sysRestart i 0) s t ∧ t.bit 0x10010 0 = false ∧ t.bit 0x10010 1 = true ∧ t.chip.draining = none) ∧
    (s.admits { op := 0x010A, plen := 1 } i → s.logWrites ≠ [] ∨ s.mb.outstanding ≠ [] →
      Runs (.sysRestart i 0) s
        { s.done i eOk with chip := { s.chip with draining := some i.env.boot, drainEnd := s.now + 100000000 } }) ∧
    (s.admits { op := 0x010A, plen := 1 } i → Runs (.sysRestart i 1) s ((s.done i eOk).systemReset 2 i.env.boot)) ∧
    (∀ at_, (s.reach at_).onTrial = false → (s.reach at_).mb.outstanding = [] → (s.reach at_).mb.waiting = [] →
      s.chip.restarts = [] → ∃ t, Runs (.firnRestartUnplanned at_ env) s t ∧ t.bit 0x10010 0 = false ∧ t.bit 0x10010 1 = true ∧
        t.chip.restarts = [(s.reach at_).now]) ∧
    (∀ at_, Runs (.firnWdog at_ env) s (((s.reach at_).raise 1).unplannedRestart env)) ∧
    (s.onTrial = false → (s.raise 0).onTrial = false → Runs (.firnLockstep env) s (s.raise 0)) ∧
    ((s.raise 0).onTrial = true → Runs (.firnLockstep env) s ((s.raise 0).failedBoot 10 env)) ∧
    (s.onTrial = true → Runs (.bootTimeout env) s ((s.reach (s.chip.firnStart + 120000000000)).failedBoot 11 env)) ∧
    (s.onTrial = false → Runs (.bootTimeout env) s s) ∧
    (∀ e, s.chip.draining = some e → (s.reach s.chip.drainEnd).logWrites = [] → (s.reach s.chip.drainEnd).mb.outstanding = [] →
      ∃ t, Runs .ready s t ∧ t.bit 0x10010 0 = true ∧ t.bit 0x10010 1 = false ∧ t.chip.draining = none) ∧
    (s.bit 0x10010 1 = true → s.chip.draining = none → ∃ t, Runs .ready s t ∧ t.bit 0x10010 0 = true ∧ t.bit 0x10010 1 = false ∧ t.mem = s.mem)

/-- R428 to R430, R446: IMG_OPEN makes the slot WRITING with VERSION and SVN 0; IMG_WRITE within the opened length completes
and, from the immediate mailbox, changes no byte outside the bytes that it names; IMG_CLOSE of a container that passes makes
the slot STAGED with attempt count 0; IMG_STATUS reports; IMG_AVALANCHE_START begins a transfer on an idle port.
Answers a next state, in the effect that its clause gives: imgOpen, imgWrite, imgClose, imgStatus, imgAvalancheStart. -/
def Obligations.ImagesAreWrittenAndStaged : Prop :=
  ∀ (s : State) (i : Issue),
    (∀ (k : Byte) (n : W32), s.admits { op := 0x0D01, plen := 5 } i → k.toNat ≤ 1 → n.toNat % 64 = 0 → 192 ≤ n.toNat →
      n.toNat ≤ 0x600000 → (k.toNat ≠ s.running ∨ s.recovery = true) → s.slotState k.toNat ≠ slTrial → s.boot.opened = none →
      s.receiving k.toNat = false →
      ∃ t, Runs (.imgOpen i k n) s t ∧ t.slotState k.toNat = slWriting ∧ t.slotVersion k.toNat = 0 ∧ t.slotSvn k.toNat = 0 ∧
        t.boot.opened = some (k.toNat, n.toNat) ∧ t.boot.blocks = [] ∧ t.bootSeq = s.bootSeq + 1 ∧
        t.mb.last = some ⟨i.src, i.tag, eOk, 0, 0, 0⟩) ∧
    (∀ (o : W32) (buf : Buf) (k n : Nat), s.admits { op := 0x0D02, plen := 12 } i → s.boot.opened = some (k, n) →
      o.toNat + buf.len.toNat ≤ n → buf.len.toNat ≤ 65536 → s.bufOk i.host false buf = true →
      ∃ t, Runs (.imgWrite i o buf) s t ∧ t.boot.opened = some (k, n) ∧ t.mb.last = some ⟨i.src, i.tag, eOk, 0, 0, 0⟩ ∧
        (i.src = .imm → ∀ a, (a < slotBase k + o.toNat ∨ slotBase k + o.toNat + buf.len.toNat ≤ a) → t.byteAt a = s.byteAt a)) ∧
    (∀ k n, s.admits { op := 0x0D03, plen := 0 } i → s.boot.opened = some (k, n) → k ≤ 1 → s.boot.blocks.length = nBlocks n →
      s.slotCheck k = none → cLength (s.slotBytes k) ≤ n →
      ∃ t, Runs (.imgClose i) s t ∧ t.slotState k = slStaged ∧ t.attempts k = 0 ∧ t.boot.opened = none ∧
        t.bootSeq = s.bootSeq + 1 ∧ t.mb.last = some ⟨i.src, i.tag, eOk, w32 (cLength (s.slotBytes k)), 0, 0⟩) ∧
    (s.admits { op := 0x0D05, plen := 0 } i →
      Runs (.imgStatus i) s (s.complete i eOk (w32 (s.fld 0xC0004 8 0)) (s.rd 0xC0008) (s.slotVersion s.running))) ∧
    (∀ p k : Byte, s.admits { op := 0x0D06, plen := 2, pers := some 1 } i → p.toNat ≤ 1 → k.toNat ≤ 1 → s.standby = false →
      (s.slotState k.toNat = slStaged ∨ s.slotState k.toNat = slTrial ∨ s.slotState k.toNat = slGood) →
      kfind s.boot.tx p.toNat = none → s.downAddr p.toNat ≠ 0 →
      ∃ t, Runs (.imgAvalancheStart i p k) s t ∧ t.mb.last = some ⟨i.src, i.tag, eOk, 0, 0, 0⟩ ∧
        ∃ x, kfind t.boot.tx p.toNat = some x ∧ x.slot = k.toNat ∧ x.next = 0 ∧ x.announced = false ∧ x.suspended = false)

/-- R426, R438 to R441, R485: the good declaration, the activation commands, and the loss of a role. A good boot makes the
running slot GOOD with attempt count 0 and never lowers MIN_SVN.
Answers a next state, in the effect that its clause gives: imgActivate, bootGood, activateAt, roleLost. -/
def Obligations.ActivationAndGoodBoot : Prop :=
  ∀ (s : State) (i : Issue),
    (∀ at_, let u := s.reach at_
      u.recovery = false → u.boot.goodDone = false → u.rolesCurrent = true → u.cfg.isSome = true →
      u.chip.firnStart + 60000000000 ≤ u.now →
      ∃ t, Runs (.bootGood at_) s t ∧ t.slotState u.running = slGood ∧ t.attempts u.running = 0 ∧ t.boot.goodDone = true ∧
        t.boot.oldCfg = none ∧ (u.rd 0xC0010).toNat ≤ (t.rd 0xC0010).toNat) ∧
    (s.admits { op := 0x0D04, plen := 1, frozenNo := true, async := true } i → s.boot.activating = none →
      s.slotState s.running ≠ slTrial →
      Runs (.imgActivate i 0) s (((s.trialStaged).done i eOk).systemReset 3 i.env.boot)) ∧
    (s.admits { op := 0x0D04, plen := 1, frozenNo := true, async := true } i → s.boot.activating = none →
      s.slotState s.inactive = slStaged → s.firnVerdict = eOk →
      Runs (.imgActivate i 1) s ((((s.takeFirn eOk).done i eOk).postActivated 1).plannedRestart i.env.boot)) ∧
    (∀ c : Byte, 2 ≤ c.toNat → c.toNat ≤ 5 → s.admits { op := 0x0D04, plen := 1, frozenNo := true, async := true } i →
      s.boot.activating = none → (s.slotState s.running = slTrial ∨ s.slotState s.running = slGood) → s.hasRsv = true →
      s.componentOk c.toNat = true →
      Runs (.imgActivate i c) s (((s.done i eOk).postActivated c.toNat).startRoles c.toNat (componentRoles c.toNat))) ∧
    (∀ at_ env img slot w, (s.reach at_).boot.actAt = some (img, slot, w) → (s.reach at_).isHead = false →
      (s.reach at_).recovery = false → (s.reach at_).conf.avActivate = true → w.toNat ≤ (s.reach at_).now →
      let u := ({ s.reach at_ with boot := { (s.reach at_).boot with actAt := none } } : State).bootWrite
      (∀ c, (s.reach at_).activateSkip slot = some c → Runs (.activateAt at_ env) s (u.postFirn 0x0D08 img (w32 c) 0)) ∧
      ((s.reach at_).activateSkip slot = none → u.firnVerdict = eOk →
        let v := ((u.takeFirn eOk).postActivated 1).plannedRestart env
        Runs (.activateAt at_ env) s
          (if v.hasRsv then ([2, 3, 4, 5].foldl State.postActivated v).startRoles 2 (List.range 8) else v))) ∧
    (∀ (tile : Byte) (env : BootEnv) k, s.tileRole tile.toNat = some k → ¬ (1 ≤ s.rotPhase ∧ s.rotPhase ≤ 5 ∧ s.rotRole = k) →
      let u := ((if (s.raise 4).hasRsv then (s.raise 4).coldRole k else (s.raise 4).stopRole k)).retireTile tile.toNat 2
      Runs (.roleLost tile env) s (if u.onTrial then u.failedBoot 10 env else u))

/-- The state in which an accepted field frame takes effect: its arrival time has come, and a command frame has raised the
highest claim of its group (R176, R356, R367). -/
def Sys2Proof.Machine.State.heard (s : State) (h : FrameHeader) (cmd : Bool) : State :=
  if cmd then (s.reach h.at_).wr (0x90040 + 4 * fldOf h.claim 7 4) h.claim else s.reach h.at_

/-- A received field frame has the protection that its port requires (R351). -/
abbrev Sys2Proof.Machine.State.carried (s : State) (h : FrameHeader) : Prop :=
  (s.portCfg h.port).required = false ∨ h.sec = true

/-- R351, R356, R176: a field frame without the protection that its port requires is only counted in PORT_Pp_SECDROP; one that R356 drops, from a sender other than this device, is only counted in PORT_FFDROP; a command
frame of a low claim is only counted in PORT_CLAIMDROP and logged with its kind; the pair link of a paired unit takes none but its
own subtypes (R363). Said of two rows each; a refused announce is answered too (R433). -/
def Sys2Proof.Claims.FieldFramesPassTheGate : Prop :=
  ∀ (s : State) (h : FrameHeader),
    let u := s.reach h.at_
    ((u.portCfg h.port).required = true → h.sec = false → (∀ b, Runs (.price h b) s (u.count (pReg h.port 0x128) 1)) ∧
      (∀ b, Runs (.avFrag h b) s (u.count (pReg h.port 0x128) 1))) ∧
    (u.carried h → h.port ≠ 3 ∨ u.paired = false → u.accepts h true = .claimLow →
      let v := (u.count 0x80024 1).postFirn 0x0304 h.claim (u.hiClaim h.claim) (w32 0x30)
      ∀ b, Runs (.avAnnounce h b) s (if v.avStopped then v else v.avRefuse h b.image)) ∧
    (u.carried h → h.port ≠ 3 ∨ u.paired = false → u.accepts h true = .claimLow → ∀ b, Runs (.price h b) s ((u.count 0x80024 1).postFirn 0x0304 h.claim (u.hiClaim h.claim) (w32 0x11))) ∧
    (u.carried h → h.port = 3 → u.paired = true → ∀ b, Runs (.price h b) s u) ∧
    (u.carried h → h.port = 3 → u.paired = true → ∀ b, Runs (.avFrag h b) s u) ∧
    (u.carried h → h.port ≠ 3 ∨ u.paired = false → u.accepts h false = .drop → h.src.toNat ≠ u.address →
      ∀ b, Runs (.avFrag h b) s (u.count 0x80020 1)) ∧
    (u.carried h → u.accepts h false = .drop → h.src.toNat ≠ u.address → ∀ b, Runs (.heartbeat h b) s (u.count 0x80020 1))

/-- R433, R434, R435: an announce from the upstream neighbour with a good CMAC opens a reception into the slot; a first fragment
of it joins the block in hand; an acknowledgement of state 1 or 2 ends a transfer; an abort ends the reception; a resend
starts again from the first unacknowledged block, and suspends the transfer after 20; a suspended transfer announces again.
Frames come by a port that is no pair link (R363), and the relay has its NET roles (R485; DEDUCED, log 24). -/
def Sys2Proof.Claims.AvalancheTransfers : Prop :=
  ∀ (s : State) (h : FrameHeader), (s.reach h.at_).carried h → (h.port ≠ 3 ∨ (s.reach h.at_).paired = false) → s.avStopped = false →
    (∀ b : AnnounceBody, (s.reach h.at_).accepts h true = .ok →
      let u := s.heard h true
      u.upOk h = true → u.slotValid 2 = true →
      cmac256 u.avlKey (annBody b.image b.length.toNat b.flags b.version b.svn b.activateAt) = b.cmac →
      cAllows b.flags u.isHead = true → (u.rd 0xC0010).toNat ≤ b.svn.toNat → 1 ≤ b.length.toNat → b.length.toNat ≤ 0x600000 →
      u.boot.opened = none → u.boot.rx = none →
      ∃ t r, Runs (.avAnnounce h b) s t ∧ t.boot.rx = some r ∧ r.image = b.image ∧ r.slot = u.avSlot ∧ r.held = [] ∧
        r.sender = h.src ∧ t.slotState u.avSlot = slWriting ∧ t.bootSeq = u.bootSeq + 1) ∧
    (∀ (b : FragBody) r, (s.reach h.at_).accepts h false = .ok → (s.heard h false).boot.rx = some r → r.image = b.image →
      r.sender = h.src → (s.heard h false).receiving r.slot = true → b.block.toNat = r.block → b.block.toNat < nBlocks r.length →
      r.frags = [] → b.frag ≠ 3 →
      ∃ t, Runs (.avFrag h b) s t ∧ t.boot.rx = some { r with frags := [(b.frag.toNat, b.data)] } ∧ t.mem = s.mem) ∧
    (∀ (b : AvAckBody) x, (s.reach h.at_).accepts h false = .ok → kfind (s.heard h false).boot.tx h.port = some x →
      x.image = b.image → (s.heard h false).downAddr h.port = h.src → (b.state = 1 ∨ b.state = 2) →
      ∃ t, Runs (.avAck h b) s t ∧ kfind t.boot.tx h.port = none ∧ t.mem = s.mem) ∧
    (∀ (img : W32) (c : Byte) r, (s.reach h.at_).accepts h true = .ok → (s.heard h true).boot.rx = some r → r.image = img →
      r.sender = h.src → (s.heard h true).receiving r.slot = true →
      ∃ t, Runs (.avAbort h img c) s t ∧ t.boot.rx = none ∧ t.rd 0xC0024 = 0 ∧ t.rd 0xC0028 = 0 ∧
        t.slotState r.slot = (s.heard h true).slotState r.slot) ∧
    (∀ (p : Byte) x, kfind s.boot.tx p.toNat = some x → x.suspended = false → x.resends ≥ 20 →
      ∃ t, Runs (.avResend p) s t ∧ kfind t.boot.tx p.toNat = some { x with suspended := true, since := t.now } ∧ t.mem = s.mem ∧
        t.now = (s.reach (x.since + 500000000)).now) ∧
    (∀ (p : Byte) x, kfind s.boot.tx p.toNat = some x → x.suspended = false → x.resends < 20 →
      let u := s.reach (x.since + 500000000)
      Runs (.avResend p) s ((u.setTx p.toNat { x with sent := x.next, resends := x.resends + 1, since := u.now }).pump p.toNat 8)) ∧
    (∀ (p : Byte) x, kfind s.boot.tx p.toNat = some x → x.suspended = true →
      let u := s.reach (x.since + 30000000000)
      Runs (.avAnnounceRepeat p) s ((u.sendAnnounce p.toNat x).setTx p.toNat { x with since := u.now }))

/-! ### Registers, access tables and debug accesses (01, 06, 16) -/

/-- R10, R11: a write that the path and the table admit gives RW fields the value, clears the W1C bits written 1 and ignores
the rest; a master to which the register is not open changes nothing; a W1C bit that hardware sets in the same cycle is 1
afterwards. Stated for the solver array's and the log's plain registers. -/
def Sys2Proof.Claims.RegisterWritesFollowAccessTypes : Prop :=
  ∀ (s : State) (m : Master) (address : Nat) (v : W32) (r : RegRow),
    let a := address / 4 * 4
    ((a / 0x10000 = 2 ∧ a ≠ 0x20044) ∨ (a / 0x10000 = 0xB ∧ a ≠ 0xB004C)) → isPairLo a = false → isPairLo (a - 4) = false →
    s.regDenied m a true = none → regRow a = some r →
    (r.opens m = true → r.banked = false →
      Runs (.registerWrite m address ⟨v, 0⟩) s
        (s.wr a (((s.rd a &&& ~~~(w32 r.rw)) ||| (v &&& w32 r.rw)) &&& ~~~(v &&& w32 r.w1c)))) ∧
    (r.opens m = true → r.banked = true →
      let k := bankKey a (masterId m)
      Runs (.registerWrite m address ⟨v, 0⟩) s
        (s.wr k (((s.rd k &&& ~~~(w32 r.rw)) ||| (v &&& w32 r.rw)) &&& ~~~(v &&& w32 r.w1c)))) ∧
    (r.opens m = false → Runs (.registerWrite m address ⟨v, 0⟩) s s) ∧
    (∀ x : W32, x ≠ 0 →
      let k := if r.banked then bankKey a (masterId m) else a
      let w := if r.opens m then ((s.rd k &&& ~~~(w32 r.rw)) ||| (v &&& w32 r.rw)) &&& ~~~(v &&& w32 r.w1c) else s.rd k
      ∃ t, Runs (.registerWrite m address ⟨v, x⟩) s t ∧ t.rd k = w ||| (x &&& w32 r.w1c) ∧ (∀ b, b ≠ k → t.rd b = s.rd b) ∧
        ∃ g, t = { s with regs := g })

/-- R24, R450: a write that is not admitted changes no register but the record of the refusal, and no memory. -/
def Sys2Proof.Claims.RefusedWritesAreDiscarded : Prop :=
  ∀ (s : State) (m : Master) (address : Nat) (v x : W32) (np : Bool), s.regDenied m (address / 4 * 4) true = some np →
    ∃ t, Runs (.registerWrite m address ⟨v, x⟩) s t ∧ t.mem = s.mem ∧ t.halves = s.halves ∧
      t.rd 0x30 = s.rd 0x30 + 1 ∧ t.bit 0x34 31 = true ∧ (s.bit 0x34 31 = true → t.rd 0x34 = s.rd 0x34) ∧
      (∀ a, a ≠ 0x30 → a ≠ 0x34 → a ≠ 0x38 → a ≠ 0x3C → a < 0xB0000 → t.rd a = s.rd a)

/-- The registers whose read does more than R10 and R212 say: the time-base capture, the event FIFOs, LOOP_DDATA and the
calendar's coherent group. -/
def Sys2Proof.Machine.actsOnRead (a : Nat) : Bool :=
  a == 0x60010 || (decide (0x60200 ≤ a ∧ a < 0x60280) && a % 0x20 == 0x14) || a == 0x30024 ||
  decide (0x70010 ≤ a ∧ a < 0x7002C)

/-- R10, R11: a read returns the register's value and its RC fields return to their reset value, or hold what hardware sets
them to in the same cycle; no other register changes. -/
def Sys2Proof.Claims.ReadsClearRcFields : Prop :=
  ∀ (s : State) (m : Master) (address : Nat) (rising : W32) (r : RegRow),
    let a := address / 4 * 4
    actsOnRead a = false → s.regDenied m a false = none → regRow a = some r → r.rc ≠ 0 →
    kfind s.halves.shadows (halfKey a (masterId m)) = none →
    ∃ t, Runs (.rcRead m address rising) s t ∧ t.bus.data = leBytes 4 (s.view m a).toNat ∧ t.bus.ur = false ∧
      (rising &&& w32 r.rc = 0 → t.rd a = (s.rd a &&& ~~~(w32 r.rc)) ||| (regReset a &&& w32 r.rc)) ∧
      (rising &&& w32 r.rc ≠ 0 → t.rd a = (s.rd a &&& ~~~(w32 r.rc)) ||| (rising &&& w32 r.rc)) ∧
      (∀ b, b ≠ a → t.rd b = s.rd b) ∧ t.mem = s.mem

/-- R212: a write of a low half is held; the write of the high half commits both, or the low half as it is where none is
held; a read of a low half answers it and captures the high half for this reader. -/
def Sys2Proof.Claims.RegisterPairsMoveAsOne : Prop :=
  ∀ (s : State) (m : Master) (address : Nat) (v : W32) (r : RegRow),
    let a := address / 4 * 4
    (isPairLo a = true → s.regDenied m a true = none → regRow a = some r → r.opens m = true →
      (a / 0x40 = 0x60000 / 0x40 → s.servoWriter m = true) →
      ∃ t, Runs (.registerWrite m address ⟨v, 0⟩) s t ∧ t.regs = s.regs ∧ t.mem = s.mem ∧
        kfind t.halves.lows (halfKey a (masterId m)) = some v) ∧
    (4 ≤ a → isPairLo (a - 4) = true → s.regDenied m a true = none → regRow a = some r → r.opens m = true →
      (a / 0x40 = 0x60000 / 0x40 → s.servoWriter m = true) →
      let u := s.wr64 (a - 4) (join64 ((kfind s.halves.lows (halfKey (a - 4) (masterId m))).getD (s.rd (a - 4))) v)
      Runs (.pairHiWrite m address v) s
        (if a / 0x10000 = 0xA then u.safeChanged (0x100 + (a - 4 - 0xA0200) / 8) else u)) ∧
    (isReadLo a = true → actsOnRead a = false → s.regDenied m a false = none → kfind s.halves.shadows (halfKey a (masterId m)) = none →
      ∃ t, Runs (.pairLoRead m address) s t ∧ t.bus.data = leBytes 4 (s.view m a).toNat ∧
        kfind t.halves.shadows (halfKey (a + 4) (masterId m)) = some (s.view m (a + 4)) ∧ t.mem = s.mem)

/-- R27, R447 to R449: LOAD copies the selected entry into the staging registers; COMMIT writes a staged entry that the rules
allow, and refuses with ERR one that they do not or whose place is locked. -/
def Sys2Proof.Claims.AccessTablesAreWrittenWhole : Prop :=
  ∀ s : State,
    let e : AccEntry := ⟨s.fld 0x10 5 0, s.fld 0x10 11 8, s.fld 0x10 19 16, (s.rd 0x14).toNat, (s.rd 0x18).toNat,
      BitVec.ofNat 8 (s.fld 0x1C 7 0)⟩
    let old := s.accEntry e.target e.master e.region
    (∃ t, Runs (.fabricAtLoad .firn) s t ∧ t.rd 0x14 = w32 old.start ∧ t.rd 0x18 = w32 old.stop ∧
      t.rd 0x1C = w32 old.rights.toNat ∧ t.acc = s.acc) ∧
    (old.rights.getLsbD 7 = false → s.entryShape e = true → s.rightsPathed e = true → notWX e = true → writersKept e = true →
      ∃ t, Runs (.fabricAtCommit .firn) s t ∧ t.accEntry e.target e.master e.region = e ∧ t.bit 0x20 2 = false ∧
        ∀ g m r, ¬ (g = e.target ∧ m = e.master ∧ r = e.region) → t.accEntry g m r = s.accEntry g m r) ∧
    (old.rights.getLsbD 7 = true ∨ s.entryShape e = false ∨ s.rightsPathed e = false ∨ notWX e = false ∨ writersKept e = false →
      ∃ t, Runs (.fabricAtCommit .firn) s t ∧ t.acc = s.acc ∧ t.bit 0x20 2 = true) ∧
    (∀ m, m ≠ .firn → ∃ t, Runs (.fabricAtCommit m) s t ∧ t.acc = s.acc ∧ t.rd 0x30 = s.rd 0x30 + 1)

/-- R24, R450: a transaction that is not admitted is counted, and the first since the record was read is latched with its
address; a read of it returns 0. One that is admitted is no violation. -/
def Sys2Proof.Claims.ViolationsAreRecorded : Prop :=
  ∀ (s : State) (m : Master) (kind : Byte) (address : Nat), kind.toNat % 4 ≤ 2 →
    (s.admits24 m (kind.toNat % 4) (address % 2 ^ 40) = true → Runs (.accessViol m kind address) s s) ∧
    (s.admits24 m (kind.toNat % 4) (address % 2 ^ 40) = false → ∃ t, Runs (.accessViol m kind address) s t ∧ t.rd 0x30 = s.rd 0x30 + 1 ∧ t.mem = s.mem ∧ t.acc = s.acc ∧
      (kind.toNat % 4 ≠ 1 → t.bus.data = leBytes 4 0) ∧
      (s.bit 0x34 31 = false → t.bit 0x34 31 = true ∧ t.fld 0x34 3 0 = masterId m ∧ t.fld 0x34 17 16 = kind.toNat % 4 ∧
        t.rd64 0x38 = w64 (address % 2 ^ 40)) ∧
      (s.bit 0x34 31 = true → t.rd 0x34 = s.rd 0x34 ∧ t.rd64 0x38 = s.rd64 0x38))

/-- R20, R465: a debugger acts under the identifier of the core it is attached to: a read of memory that the core may read
returns it, a write to shared SRAM stores it, and a core out of scope gives nothing. -/
def Sys2Proof.Claims.DebuggersActAsTheirCore : Prop :=
  ∀ (s : State) (core : Master) (address : Nat) (d : Bytes),
    let a := address % 2 ^ 40
    (s.inScope core = false → ∀ w, ∃ t, Runs (.dbgAccess core address w d) s t ∧ t.mem = s.mem ∧ t.regs = s.regs ∧ t.jtag.dr = [0]) ∧
    (s.inScope core = true → ¬ (0x40000000 ≤ a ∧ a < 0x41000000) → s.memAdmits core 0 a 4 = true →
      Runs (.dbgAccess core address false d) s (s.jtagScan 0x12 (s.rdMem a 4))) ∧
    (s.inScope core = true → a + d.length ≤ 0x02000000 → s.memAdmits core 1 a d.length = true →
      (∀ j < d.length, s.poisoned (a + j) = false) →
      ∃ t, Runs (.dbgAccess core address true d) s t ∧ t.regs = s.regs ∧ (∀ j < d.length, t.byteAt (a + j) = d.getD j 0) ∧
        ∀ b, b < a ∨ a + d.length ≤ b → t.byteAt b = s.byteAt b)

/-- The window admits the byte at an offset to the SPI target (R38, R40, R488). -/
def Sys2Proof.Machine.State.spiTakes (s : State) (write : Bool) (o : Nat) : Bool :=
  s.sramOk .hosts write (s.window + o) 1 && s.cleanRun write (s.window + o) 1

/-- R39, R40: FAST_READ and PAGE_PROGRAM reach the window byte by byte through the SPI address map: a byte that the window
refuses reads 0 or is not written, the others are as they are, and MB_ERR counts one error for the access; without WEL, or with
more than 256 bytes, a program is ignored; a program clears WEL. -/
def Sys2Proof.Claims.SpiReachesTheWindow : Prop :=
  ∀ (s : State), s.spiOn = true →
    (∀ (a : W32) (n : Nat), 0x01000000 ≤ a.toNat → a.toNat + n ≤ 0x02000000 →
      let o := a.toNat - 0x01000000
      ((∀ j < n, s.spiTakes false (o + j) = true) →
        Runs (.fastRead a n) s { s with bus := { data := s.rdMem (s.window + o) n, ur := false } }) ∧
      (∃ t, Runs (.fastRead a n) s t ∧ t.mem = s.mem ∧ t.bus.data.length = n ∧
        (∀ j < n, s.spiTakes false (o + j) = true → t.bus.data.getD j 0 = (s.rdMem (s.window + o + j) 1).getD 0 0) ∧
        (∀ j < n, s.spiTakes false (o + j) = false → t.bus.data.getD j 0 = 0) ∧
        ((∃ j < n, s.spiTakes false (o + j) = false) →
          t.fld 0x1001C 31 16 = min 0xFFFF (s.fld 0x1001C 31 16 + 1) ∧ t.fld 0x1001C 3 0 = 5))) ∧
    (∀ (a : W32) (d : Bytes), 0x01000000 ≤ a.toNat → a.toNat + d.length ≤ 0x02000000 → 1 ≤ d.length → d.length ≤ 256 →
      s.spi.wel = true →
      let o := a.toNat - 0x01000000
      ∃ t, Runs (.pageProgram a d) s t ∧ t.spi.wel = false ∧ t.spi.octal = s.spi.octal ∧
        (∀ j < d.length, s.spiTakes true (o + j) = true → t.byteAt (s.window + o + j) = d.getD j 0) ∧
        (∀ j < d.length, s.spiTakes true (o + j) = false → t.byteAt (s.window + o + j) = s.byteAt (s.window + o + j)) ∧
        (∀ b, b < s.window + o ∨ s.window + o + d.length ≤ b → t.byteAt b = s.byteAt b) ∧
        ((∃ j < d.length, s.spiTakes true (o + j) = false) →
          t.fld 0x1001C 31 16 = min 0xFFFF (s.fld 0x1001C 31 16 + 1) ∧ t.fld 0x1001C 3 0 = 5)) ∧
    (∀ (a : W32) (d : Bytes), (s.spi.wel = false ∨ d = [] ∨ 256 < d.length) → Runs (.pageProgram a d) s s)

/-! ### The solver array (03) -/

/-- SOLV commands that report or set (R76, R84, R110, R123), with the whole of their effect. -/
def Sys2Proof.Claims.SolverCommandsAnswer : Prop :=
  ∀ (s : State) (i : Issue),
    (s.admits { op := 0x0205, plen := 0 } i →
      Runs (.solvLaneStatus i) s (s.complete i eOk (s.rd 0x20004) (s.rd 0x2000C) (s.rd 0x20010))) ∧
    (∀ p r, s.admits { op := 0x0207, plen := 16 } i → paramOk p = true → paramOk r = true →
      Runs (.solvParamSet i p r) s (((s.wr64 0x20018 p).wr64 0x20020 r).done i eOk)) ∧
    (∀ p r, s.admits { op := 0x0207, plen := 16 } i → (paramOk p = false ∨ paramOk r = false) →
      Runs (.solvParamSet i p r) s (s.done i eParam)) ∧
    (∀ (n : W32) b, s.admits { op := 0x0202, plen := 4 } i → s.batch n.toNat = some b →
      Runs (.solvBatchStatus i n) s (s.complete i eOk (w32 b.done) (w32 b.carried) (s.batchWord b))) ∧
    (∀ (n : W32) (w : W32) b, s.admits { op := 0x0203, plen := 8, async := true } i → s.batch n.toNat = some b →
      s.batchLive b.id = false → Runs (.solvBatchWait i n w) s (s.complete i eOk (w32 b.done) (w32 b.carried) 0)) ∧
    (∀ (n : W32) (w : W32) b, s.admits { op := 0x0203, plen := 8, async := true } i → s.batch n.toNat = some b →
      s.batchLive b.id = true →
      ∃ t, Runs (.solvBatchWait i n w) s t ∧ (∃ o, t.mb.outstanding = s.mb.outstanding ++ [o] ∧ o.iss = i ∧ o.ref = b.id) ∧
        t.mem = s.mem ∧ t.regs = s.regs) ∧
    (∀ (n : W32) o b, s.firstWait n.toNat = some o → s.batch n.toNat = some b →
      Runs (.batchWaitTimeout n) s ((s.reach (waitEnd o)).finish o eTimeout (w32 b.done) (w32 b.carried) 0))

/-- R111 to R116: a descriptor that passes the checks queues a batch with the next identifier, for a host and for a tile;
nothing but the queue and SOLV_QUEUED changes before the answer.
Answers a next state, in the effect that its clause gives: solvBatchSubmit, batchTileSubmit. -/
def Obligations.BatchesAreQueued : Prop :=
  ∀ (s : State) (m : Master) (desc n : Nat) (notify tirq : Bool), s.sramOk m false desc 16 = true →
    (∀ j < n, s.poisoned (desc + j) = false) → n = 16 + 4 * leAt (s.rdMem desc 16) 0 4 → s.sramOk m false desc n = true →
    let h := s.rdMem desc 16
    1 ≤ leAt h 0 4 → leAt h 0 4 ≤ 1024 → leAt h 8 1 ≤ 3 → leAt h 9 1 ≤ 1 → leAt h 10 6 = 0 →
    (leAt h 8 1 = 3 → m = .seq) → w32 (leAt h 4 4) &&& ~~~(s.rd 0x20004) = 0 → s.solv.batches.length < 64 →
    (∃ b, (s.submit m desc (some n) notify tirq).1.solv.batches = s.solv.batches ++ [b] ∧ b.id = s.solv.nextId ∧ b.master = m ∧
      b.prio = leAt h 8 1 ∧ b.mask = w32 (leAt h 4 4) ∧ b.offsets.length = leAt h 0 4 ∧ b.done = 0 ∧
      (∀ k < leAt h 0 4, b.offsets.getD k 0 = s.rdLe (desc + 16 + 4 * k) 4) ∧ b.waiting.length = leAt h 0 4 ∧
      (s.submit m desc (some n) notify tirq).2 = (eOk, s.solv.nextId)) ∧
    (∀ (i : Issue) (buf : Buf) (nf : Byte), s.admits { op := 0x0201, plen := 9 } i → m = hostMaster i.host → nf.toNat ≤ 1 →
      desc = s.winAddr buf.off → n = buf.len.toNat → s.bufOk i.host false buf = true →
      Runs (.solvBatchSubmit i buf nf) s
        ((s.submit m desc (some n) (nf.getLsbD 0) false).1.complete i eOk (w32 s.solv.nextId) 0 0)) ∧
    (∀ v : W32, s.regDenied m 0x20044 true = none → (m = .cyc0 ∨ m = .cyc1 ∨ m = .cyc2 ∨ m = .cyc3 ∨ m = .seq) →
      desc = (s.rd (bankKey 0x20040 (masterId m))).toNat → v.getLsbD 0 = true → s.bit (bankKey 0x20044 (masterId m)) 1 = false →
      ∃ t, Runs (.batchTileSubmit m v) s t ∧ t.solv.nextId = (if s.solv.nextId = 0xFFFFFFFF then 1 else s.solv.nextId + 1) ∧
        t.rd (bankKey 0x20048 (masterId m)) = w32 s.solv.nextId ∧ t.bit (bankKey 0x20044 (masterId m)) 2 = true ∧
        t.bit (bankKey 0x20044 (masterId m)) 3 = false ∧ t.mem = s.mem)

/-- R123: a cancel takes every undispatched problem of a live batch out of the queue and gives each CANCELLED; W0 counts
them; the problems that run go on. -/
def Sys2Proof.Claims.CancelEmptiesABatch : Prop :=
  ∀ (s : State) (i : Issue) (n : W32) (b : Batch), s.admits { op := 0x0204, plen := 4 } i → s.batch n.toNat = some b →
    s.batchLive b.id = true →
    ∃ t, Runs (.solvBatchCancel i n) s t ∧ (∀ f ∈ t.solv.front, f.1 ≠ b.id) ∧
      (∀ c ∈ t.solv.batches, c.id = b.id → c.waiting = []) ∧
      t.solv.runs.map (fun q => (q.1, q.2.batch, q.2.index, q.2.phys, q.2.tStart)) =
        s.solv.runs.map (fun q => (q.1, q.2.batch, q.2.index, q.2.phys, q.2.tStart)) ∧
      t.mb.last = some ⟨i.src, i.tag, eOk,
        w32 (((s.solv.front.filter fun f => f.1 == b.id).length) + b.waiting.length), 0, 0⟩

/-- R104, R107, R110, R117, R119: a dispatch starts the next problem on its lane with the parameters of that moment, or
refuses it; the end of an undisturbed run writes what the lane works out, frees the lane and counts its corrected errors (R83),
and waits while the record names the other personality (R4); a retired lane's problem is dispatched again ahead of every
undispatched problem.
Answers a next state, in the effect that its clause gives: solvLaneRetire, problemDispatch, problemEnd,
laneEccUncorrectable, deadlineWithoutLane. -/
def Obligations.ProblemsRunOnLanes : Prop :=
  ∀ s : State,
    (∀ at_, (s.reach at_).solvStopped = true ∨ (s.reach at_).nextDispatch = none → Runs (.problemDispatch at_) s (s.reach at_)) ∧
    (∀ at_ lg w, (s.reach at_).solvStopped = false → (s.reach at_).nextDispatch = some (lg, w) →
      let u := (s.reach at_).takeWaiting w
      (u.accessFault w.batch.master w.off = 0 →
        ∃ t r, Runs (.problemDispatch at_) s t ∧ kfind t.solv.runs lg = some r ∧ r.batch = w.batch.id ∧ r.index = w.index ∧
          r.off = w.off ∧ r.tStart = (s.reach at_).now ∧ r.pivtol = s.rd64 0x20018 ∧ r.regdelta = s.rd64 0x20020 ∧
          r.redisp = w.front ∧ t.bit 0x20008 lg = true ∧ t.mem = s.mem) ∧
      (u.accessFault w.batch.master w.off ≠ 0 →
        Runs (.problemDispatch at_) s (u.refuseProblem w.batch.id w.index (u.accessFault w.batch.master w.off)))) ∧
    (∀ (lane : Byte) (spread n : Nat) r, kfind s.solv.runs lane.toNat = some r → s.persMismatch = false → s.broken r.batch r.index = false →
      let e := r.run (min 5000 spread)
      let tEnd := r.timeAt (solvNs (min 5000 spread) e.cyc)
      Runs (.problemEnd lane ⟨spread, n⟩) s
        ((((s.reach tEnd).freeLane lane.toNat r).writeEnd r.batch r.index (probOf r.record) r.off r.own e r.redisp r.phys
          lane.toNat r.tStart tEnd).countCorrected r.phys n)) ∧
    (∀ (lane : Byte) (spread n : Nat), kfind s.solv.runs lane.toNat = none ∨ s.persMismatch = true →
      Runs (.problemEnd lane ⟨spread, n⟩) s s) ∧
    (∀ (i : Issue) (lane : Byte), s.admits { op := 0x0206, plen := 1, async := true } i → lane.toNat ≤ 33 →
      s.laneRetired lane.toNat = false → s.lanePowered lane.toNat = true → s.laneInService lane.toNat = false →
      ∃ t, Runs (.solvLaneRetire i lane) s t ∧ t.laneRetired lane.toNat = true ∧ t.rd 0x20004 = s.rd 0x20004 ∧
        t.mb.last = some ⟨i.src, i.tag, eOk, 0xFFFFFFFF, 0, 0⟩) ∧
    (∀ (lane : Byte) (n : Nat), lane.toNat ≤ 33 → s.laneRetired lane.toNat = false → s.lanePowered lane.toNat = true →
      s.laneInService lane.toNat = true → kfind s.solv.runs (s.laneLogical lane.toNat) = none →
      Runs (.laneEccUncorrectable ⟨lane, n⟩) s ((s.retireLane lane.toNat 1).countLanes [(lane.toNat, n)])) ∧
    (∀ (lane : Byte) (n : Nat) r, lane.toNat ≤ 33 → s.laneRetired lane.toNat = false → s.lanePowered lane.toNat = true →
      s.laneInService lane.toNat = true → kfind s.solv.runs (s.laneLogical lane.toNat) = some r → r.phys = lane.toNat →
      r.faulted = false →
      ∃ t, Runs (.laneEccUncorrectable ⟨lane, n⟩) s t ∧ t.laneRetired lane.toNat = true ∧
        kfind t.solv.runs (s.laneLogical lane.toNat) = none ∧ t.solv.front = (r.batch, r.index, true) :: s.solv.front) ∧
    (∀ at_ w, (s.reach at_).solvStopped = false → (s.reach at_).timeState ≠ 0 → (s.reach at_).orphan = some w →
      let u := (s.reach at_).takeWaiting w
      u.accessFault w.batch.master w.off = 0 →
      Runs (.deadlineWithoutLane at_) s
        (u.writeEnd w.batch.id w.index (probOf (u.laneIn w.off 0 0).rec_) w.off (u.laneIn w.off 0 0).own
          (laneRun (u.laneIn w.off 0 0) (fun _ => true) fun _ => false) w.front 0xFF 0xFF (s.reach at_).now (s.reach at_).now))

/-! ### Drift rounds (05) -/

/-- DRIFT settings (R153, R156, R159, R162, R175, R180): a configuration, a schedule, a template, a place and fallback values
that pass their checks are stored, and nothing else changes. -/
def Sys2Proof.Claims.DriftSettingsAreStored : Prop :=
  ∀ (s : State) (i : Issue),
    (∀ buf, s.admits { op := 0x0301, plen := 8, pers := some 1, frozenNo := true } i → s.bufOk i.host false buf = true →
      leAt (s.rdBuf buf) 0 2 = 1 → netShape (s.rdBuf buf) = true → netTimes (s.rdBuf buf) = true →
      (∀ q, s.drift.sched = some q → netFitsSched (s.rdBuf buf) q = true) →
      (s.paired = true → netVolume (s.rdBuf buf) s.rounds ≤ 0x800000) →
      Runs (.driftNetConfig i buf) s
        (((s.takeNet (((s.periodAt s.now).map s.periodStart).getD 0)).setHd fun h => { h with netNext := some (s.now, s.rdBuf buf) }).done i eOk)) ∧
    (∀ (p : W32) (r : Byte) (st : W64), s.admits { op := 0x0302, plen := 13, frozenNo := true } i → 1 ≤ p.toNat → p.toNat ≤ 3600 →
      1 ≤ r.toNat → r.toNat ≤ 16 → (s.isHead = true → s.drift.hd.started = none ∧ ∀ b, s.netHeld = some b →
        netFitsSched b (p.toNat, r.toNat, st.toNat) = true ∧ (s.paired = true → netVolume b r.toNat ≤ 0x800000)) →
      Runs (.driftPeriodSet i p r st) s
        (({ s with drift := { s.drift with sched := some (p.toNat, r.toNat, st.toNat) } } : State).done i eOk)) ∧
    (∀ buf, s.admits { op := 0x0303, plen := 8, pers := some 0, frozenNo := true } i → s.bufOk i.host false buf = true →
      leAt (s.rdBuf buf) 0 2 = 1 → s.tmplOk (s.rdBuf buf) = true →
      Runs (.driftTemplateSet i buf) s
        ((s.setSt fun t => { t with tmplNext := some (s.now, (s.probAt (tBase (s.rdBuf buf))).n, s.rdBuf buf) }).done i eOk)) ∧
    (∀ (p : Byte) (k : W16), s.admits { op := 0x0304, plen := 3, pers := some 0, frozenNo := true } i → 1 ≤ p.toNat → p.toNat ≤ 64 →
      k.toNat ≤ 1023 → s.bidQueued = false →
      Runs (.driftSlotSet i p k) s ((s.setSt fun t => { t with placeNext := some (s.now, p.toNat, k.toNat) }).done i eOk)) ∧
    (∀ buf (h : Byte), s.admits { op := 0x0305, plen := 9, pers := some 0 } i → 8 ≤ buf.len.toNat → buf.len.toNat ≤ 512 →
      buf.len.toNat % 8 = 0 → 1 ≤ h.toNat → s.bufOk i.host false buf = true →
      ∃ t, Runs (.driftFallbackSet i buf h) s t ∧ t.drift.hold = h.toNat ∧
        t.drift.st.fallback = dblsOf (buf.len.toNat / 8) (s.rdBuf buf) ∧ t.drift.sched = s.drift.sched ∧ t.drift.hd = s.drift.hd ∧
        t.mb.last = some ⟨i.src, i.tag, eOk, 0, 0, 0⟩)

/-- R180: DRIFT_START starts rounds at the first period start that lies at least 1 s after its completion and answers it;
DRIFT_STOP ends them, but a period whose final round is complete still commits. -/
def Sys2Proof.Claims.DriftRoundsStartAndStop : Prop :=
  ∀ (s : State) (i : Issue),
    (∀ b q, s.admits { op := 0x0306, plen := 0, pers := some 1, frozenNo := true } i → s.netHeld = some b → s.drift.sched = some q →
      1 ≤ q.1 → s.standby = false → s.timeState = 2 → s.drift.hd.started = none → netFitsSched b q = true →
      ∃ t k, Runs (.driftStart i) s t ∧ t.drift.hd.started = some k ∧ s.now + 1000000000 ≤ s.periodStart k ∧
        (k = 0 ∨ s.periodStart (k - 1) < s.now + 1000000000) ∧
        t.drift.hd.freshBranches = (netBranches b).map (fun x => x.id) ∧ t.drift.sched = s.drift.sched ∧ t.drift.st = s.drift.st ∧
        t.mb.last = some ⟨i.src, i.tag, eOk, w32 (s.periodStart k), 0, 0⟩) ∧
    (s.admits { op := 0x0307, plen := 0, pers := some 1 } i →
      ∃ t, Runs (.driftStop i) s t ∧ t.drift.hd.started = none ∧ t.drift.hd.ran = (s.drift.hd.ran && s.drift.hd.final != 0) ∧
        t.drift.hd.final = s.drift.hd.final ∧ t.drift.st = s.drift.st ∧ t.mb.last = some ⟨i.src, i.tag, eOk, 0, 0, 0⟩)

/-- R181: a read of a round or a plan that is kept writes its bytes into the buffer and answers their length. -/
def Sys2Proof.Claims.DriftReadsAnswer : Prop :=
  ∀ (s : State) (i : Issue) (period : W32) (buf : Buf), s.bufOk i.host true buf = true →
    (∀ round : Byte, let l := s.drift.hd.prices.filter fun q => keptHead s.nowPeriod q.1 && q.1 % 2 ^ 32 == period.toNat && q.2.1 == round.toNat
      let b := (sortBy (fun q => q.2.2.1) l).flatMap fun q => q.2.2.2
      s.admits { op := 0x0308, plen := 13, pers := some 1 } i → l ≠ [] → b.length ≤ buf.len.toNat →
      Runs (.driftPricesRead i period round buf) s ((s.wrMem (s.winAddr buf.off) b).complete i eOk (w32 b.length) 0 0)) ∧
    (let l := s.drift.hd.plans.filter fun q => keptHead s.nowPeriod q.1 && q.1 % 2 ^ 32 == period.toNat
      let b := (sortBy (fun q => q.2.1) l).flatMap fun q => planEntry q.2.1 q.2.2.1 q.2.2.2
      s.admits { op := 0x0309, plen := 12 } i → s.isHead = true → l ≠ [] → b.length ≤ buf.len.toNat →
      Runs (.driftPlanRead i period buf) s ((s.wrMem (s.winAddr buf.off) b).complete i eOk (w32 b.length) 0 0)) ∧
    (∀ p : StationPlan, let b := leBytes 4 p.period ++ [BitVec.ofNat 8 p.final, BitVec.ofNat 8 p.src, 0, 0] ++ p.pv.flatMap le8
      s.admits { op := 0x0309, plen := 12 } i → s.isHead = false →
      (s.drift.st.plans.find? fun p => decide (p.period ≤ s.nowPeriod ∧ s.nowPeriod ≤ p.period + 1) && p.period % 2 ^ 32 == period.toNat) = some p →
      b.length ≤ buf.len.toNat →
      Runs (.driftPlanRead i period buf) s ((s.wrMem (s.winAddr buf.off) b).complete i eOk (w32 b.length) 0 0)) ∧
    (∀ (round : Byte) q, s.admits { op := 0x030A, plen := 13, pers := some 0 } i →
      (s.drift.st.bids.find? fun q => keptBid s.nowPeriod q.1 && q.1 == period.toNat && q.2.1 == round.toNat) = some q →
      q.2.2.length ≤ buf.len.toNat →
      Runs (.driftBidRead i period round buf) s
        ((s.wrMem (s.winAddr buf.off) q.2.2).complete i eOk (w32 q.2.2.length) (w32 (b2n ((q.2.2.getD 5 0).getLsbD 0))) 0))

/-- R152, R154, R155, R167, R168, R173: what a HEAD does at a round start, at a bid, at the close and at the commit of a
plan. FREEZE and a time base that is not LOCKED hold back frames only. -/
def Sys2Proof.Claims.HeadRunsItsRounds : Prop :=
  ∀ (s : State) (at_ : Nat),
    let u := s.reach at_
    (∀ k r, u.roundOf at_ = some (k, r) → u.isHead = true → (∃ k0, u.drift.hd.started = some k0 ∧ k0 ≤ k) →
      u.standby = false →
      let v := if u.drift.hd.period ≠ k ∨ u.drift.hd.ran = false then u.beginPeriod k r else u
      v.drift.hd.final = 0 →
      ∃ t, Runs (.roundStartInstant at_) s t ∧ t.drift.hd.period = k ∧ t.drift.hd.round = r ∧ t.drift.hd.ran = true ∧
        t.drift.hd.started = s.drift.hd.started ∧
        (u.launches = true → ∀ x ∈ netBranches (v.drift.hd.net.getD []),
          (k, r, x.id, priceBody false k r x (v.headBranch x.id).lam) ∈ t.drift.hd.prices)) ∧
    (u.roundOf at_ = none → Runs (.roundStartInstant at_) s u) ∧
    (∀ (h : FrameHeader) (v : BidBody), (s.reach h.at_).carried h → (s.reach h.at_).accepts h false = .ok → (h.port ≠ 3 ∨ (s.reach h.at_).paired = false) →
      (s.reach h.at_).driftStopped = false → (s.reach h.at_).isHead = true →
      let w := s.reach h.at_
      (w.bidFails h v = 0 →
        Runs (.bid h v) s (w.setHeadStation h.src.toNat
          { w.headStation h.src.toNat with bids := (w.drift.hd.round, v.draws) :: (w.headStation h.src.toNat).bids })) ∧
      (w.bidFails h v ≠ 0 →
        ∃ t, Runs (.bid h v) s t ∧ t.drift.hd = { w.drift.hd with rejected := w.drift.hd.rejected + 1 } ∧ t.mem = s.mem)) ∧
    (let d := u.drift.hd
     let b := d.net.getD []
     u.driftStopped = false → u.isHead = true → d.started ≠ none → d.ran = true → d.closed ≠ d.round →
     u.roundAt d.period d.round + (leAt b 8 4 + leAt b 16 4) * 1000 ≤ at_ → ((netStations b).map fun x => x.addr).Nodup →
     ∃ t, Runs (.bidClose at_) s t ∧ t.drift.hd.closed = d.round ∧ (t.drift.hd.final = 0 ∨ t.drift.hd.final = d.round) ∧
       (d.round = u.rounds → t.drift.hd.final = d.round) ∧
       (d.round < leAt b 7 1 → d.round ≠ u.rounds → t.drift.hd.final = 0) ∧
       ∀ x ∈ netStations b, (t.headStation x.addr).code = (u.sourceOf b x d.round).1 ∧
         (t.headStation x.addr).draws = (u.sourceOf b x d.round).2) ∧
    (let d := u.drift.hd
     u.driftStopped = false → u.isHead = true → d.ran = true → d.final ≠ 0 → at_ = u.commitAt d.period → u.standby = false →
     ∃ t, Runs (.planCommitInstant at_) s t ∧ t.drift.hd.ran = false ∧ t.drift.hd.final = 0 ∧
       t.drift.hd.plans.length = d.plans.length + (netStations (d.net.getD [])).length ∧
       ∀ x ∈ netStations (d.net.getD []), ∃ e ∈ t.drift.hd.plans, e.1 = d.period ∧ e.2.1 = x.addr)

/-- R163 to R166, R176: what a STATION does with a round's announcement, its prices, and the result of its problem. -/
def Sys2Proof.Claims.StationBidsInRounds : Prop :=
  ∀ (s : State),
    (∀ (h : FrameHeader) (b : RoundStartBody), (s.reach h.at_).carried h → (s.reach h.at_).accepts h true = .ok →
      (h.port ≠ 3 ∨ (s.reach h.at_).paired = false) → (s.heard h true).driftStopped = false → (s.heard h true).isHead = false →
      ∃ t q, Runs (.roundStart h b) s t ∧ t.drift.st.info = some q ∧ q.period = b.period.toNat ∧ q.round = b.round.toNat ∧
        q.nr = b.nr.toNat ∧ q.stop = b.stop ∧ q.pstart = b.pstart.toNat ∧ q.periodS = b.periodS.toNat ∧ q.tr = b.tr.toNat ∧
        q.solveUs = b.solveUs.toNat ∧ q.slotNs = b.slotNs.toNat ∧ q.bidwinUs = b.bidwinUs.toNat ∧ q.src = h.src.toNat ∧
        t.drift.st.historyOf = q.period ∧ t.rd (0x90040 + 4 * fldOf h.claim 7 4) = h.claim ∧
        t.mem = (s.heard h true).keepResult.mem) ∧
    (∀ (h : FrameHeader) (v : PriceBody) q n b, (s.reach h.at_).carried h → (s.reach h.at_).accepts h true = .ok →
      (h.port ≠ 3 ∨ (s.reach h.at_).paired = false) →
      let u := (s.heard h true).keepResult
      u.curRound = some q → u.drift.st.tmpl = some (n, b) → u.driftStopped = false → u.isHead = false → q.stop = false →
      v.period.toNat = q.period → v.round.toNat = q.round → v.branch.toNat = tBranch b → v.prices.length = tK b →
      (∀ w, u.drift.st.work = some w → ¬(w.info.period = q.period ∧ w.info.round = q.round)) → u.solv.batches.length < 64 →
      u.memAdmits .seq 0 (tBase b) (u.probAt (tBase b)).recLen = true → u.memAdmits .seq 1 (tWork b) (u.probAt (tBase b)).recLen = true →
      ∃ t c, Runs (.price h v) s t ∧ t.drift.st.work =
          some { claim := h.claim, crc := v.crc, batch := u.solv.nextId, info := q, tmpl := (n, b), out := none } ∧
        t.drift.st.ended ≠ some (q.period, q.round) ∧ t.drift.st.historyOf = q.period ∧
        t.solv.batches = u.solv.batches ++ [c] ∧ c.id = u.solv.nextId ∧ c.master = .seq ∧ c.prio = 3 ∧ c.mask = 0 ∧
        c.offsets = [tWork b] ∧ t.mem = (u.assemble b n v.prices q.tr (u.bidAt q - 100000) q.round).1.mem) ∧
    (∀ at_ q w o, let u := (s.reach at_).keepResult
      u.curRound = some q → u.driftStopped = false → u.isHead = false → q.stop = false → u.drift.st.work = some w →
      w.info.period = q.period → w.info.round = q.round → w.out = some o → o.status ≠ 0x0108 → o.flags.getLsbD 0 = true →
      u.schedMatches q = true → at_ < u.bidAt q → u.drift.st.ended ≠ some (q.period, q.round) →
      ∃ t, Runs (.bidQueue at_) s t ∧ t.drift.st.ended = some (q.period, q.round) ∧ t.mem = u.mem ∧
        t.drift.st.history = u.drift.st.history ∧
        (q.period, q.round, bidBody false w o u.drift.st.place.1) ∈ t.drift.st.bids) ∧
    (∀ at_ q, let u := (s.reach at_).keepResult
      u.curRound = some q → u.driftStopped = false → u.isHead = false → u.drift.st.ended ≠ some (q.period, q.round) →
      (q.stop = true → Runs (.bidQueue at_) s (u.noBid q.period q.round 3)) ∧
      (q.stop = false → (∀ w, u.drift.st.work = some w → ¬(w.info.period = q.period ∧ w.info.round = q.round)) → u.bidAt q ≤ at_ →
        Runs (.bidQueue at_) s (u.noBid q.period q.round 1))) ∧
    (∀ w r, s.drift.st.work = some w → w.out = none → s.resultOf w.tmpl.2 w.batch = some r → rValid r = true → rCarried r = false →
      s.drift.st.historyOf = w.info.period →
      let t := s.keepResult
      t.drift.st.history.find? (fun e => e.1 == w.info.round) = some (w.info.round, rX r, rY r) ∧ t.mem = s.mem)

/-- R174, R175: an accepted plan with a stored solution is staged for the next period start; with no accepted plan for
HOLD_TIME periods the plan in force ends (EFF and ARM are set; the values staged then are not said here). -/
def Sys2Proof.Claims.StationStagesPlans : Prop :=
  ∀ (s : State),
    (∀ (h : FrameHeader) (v : PlanBody) n b k x, (s.reach h.at_).carried h → (s.reach h.at_).accepts h true = .ok →
      (h.port ≠ 3 ∨ (s.reach h.at_).paired = false) →
      let u := (s.heard h true).keepResult
      let pos := u.drift.st.place.1
      let code := (v.src.getD (pos - 1) 0x1F).toNat
      u.drift.st.tmpl = some (n, b) → u.periodAt u.now = some k → u.driftStopped = false → u.isHead = false →
      v.period.toNat = k % 2 ^ 32 → v.chain.toNat = tChain b → 1 ≤ pos → pos ≤ v.npos.toNat → 1 ≤ code → code ≤ 16 →
      u.drift.st.historyOf = v.period.toNat → (u.drift.st.history.find? fun e => e.1 == code) = some x →
      ∃ t l, Runs (.planCommit h v) s t ∧ t.drift.st.lastPlan = some k ∧ t.drift.st.expired = false ∧
        t.drift.st.applied = some x.2.1 ∧ t.rd64 0x30050 = w64 (u.periodStart (k + 1)) ∧ t.bit 0x30058 1 = true ∧
        t.loop.plan = some (l, (w64 (u.periodStart (k + 1))).toNat) ∧ l.length = 64 ∧ t.mem = u.mem) ∧
    (∀ at_ j, let u := s.reach at_
      u.drift.st.lastPlan = some j → u.isHead = false → u.drift.st.expired = false →
      u.periodStart (j + 1 + u.drift.hold) ≤ at_ →
      ∃ t, Runs (.planHoldExpiry at_) s t ∧ t.drift.st.expired = true ∧ t.drift.st.applied = none ∧
        t.rd64 0x30050 = w64 (u.periodStart (j + 1 + u.drift.hold)) ∧ t.bit 0x30058 1 = true ∧ t.mem = s.mem)

/-! ### The loop engine (06) -/

/-- LOOP commands that read or write descriptors and modes (R188, R201, R206, R207, R211, R213): each with the whole of its
effect where its checks pass.
Answers a next state, in the effect that its clause gives: loopDescWrite, loopDescRead, loopBankSwap, loopModeSet,
loopTuneStart, loopTuneResult, loopStatus. -/
def Obligations.LoopCommandsTakeEffect : Prop :=
  ∀ (s : State) (i : Issue) (loop : W16), loop.toNat ≤ 255 →
    let k := loop.toNat
    (∀ (bank : Byte) (buf : Buf), s.admits { op := 0x0401, plen := 11 } i → s.bufOk i.host false buf = true →
      s.descStatus k bank.toNat (s.rdBuf buf) = eOk →
      Runs (.loopDescWrite i loop bank buf) s ((s.putPart k bank.toNat (s.rdBuf buf)).done i eOk) ∧
      (s.putPart k bank.toNat (s.rdBuf buf)).lpart k bank.toNat = some (s.rdBuf buf)) ∧
    (∀ (bank : Byte) (buf : Buf), s.admits { op := 0x0402, plen := 11 } i → bank.toNat ≤ 3 → s.bufOk i.host true buf = true →
      (s.partBytes k bank.toNat).length ≤ buf.len.toNat →
      Runs (.loopDescRead i loop bank buf) s
        ((s.wrMem (s.winAddr buf.off) (s.partBytes k bank.toNat)).complete i eOk (w32 (s.partBytes k bank.toNat).length) 0 0)) ∧
    (s.admits { op := 0x0403, plen := 2, frozenNo := true, async := true } i → s.swapRefusal k = 0 →
      ∃ t o, Runs (.loopBankSwap i loop) s t ∧ t.swapPend k = true ∧ t.mb.outstanding = s.mb.outstanding ++ [o] ∧ o.iss = i ∧
        t.mem = s.mem ∧ t.loop = s.loop) ∧
    (∀ (mode : Byte) (man : Dbl), s.admits { op := 0x0404, plen := 11, frozenNo := true } i → mode.toNat % 8 ≤ 2 → mode &&& 0x78 = 0 →
      dFinite man = true →
      (mode.toNat % 8 = 0 ∨ s.loopLive k = true ∨ (s.loopUnset k = false ∧ s.loadFails k = none)) →
      Runs (.loopModeSet i loop mode man) s ((s.setReq k (some (mode.toNat % 8, mode.getLsbD 7, some man))).done i eOk)) ∧
    (∀ (mode : Byte) (man : Dbl) n, s.admits { op := 0x0404, plen := 11, frozenNo := true } i → mode.toNat % 8 ≤ 2 → mode &&& 0x78 = 0 →
      dFinite man = true → mode.toNat % 8 ≠ 0 → s.loopLive k = false → s.loopUnset k = false → s.loadFails k = some n →
      Runs (.loopModeSet i loop mode man) s ((s.postFirn 0x0401 (w32 k) (w32 n) 1).done i 0x0101)) ∧
    (∀ (nc : Byte) (amp hyst : Dbl), s.admits { op := 0x0405, plen := 19, frozenNo := true } i → 2 ≤ nc.toNat → nc.toNat ≤ 16 →
      dFinite amp = true → dLt dZero amp = true → dFinite hyst = true → dLe dZero hyst = true →
      (∀ v ∈ [dAdd (s.lrun k).uPrev amp, dSub (s.lrun k).uPrev amp],
        dLe (dblAt (s.lbank k (s.actBank k)) 72) v = true ∧ dLe v (dblAt (s.lbank k (s.actBank k)) 80) = true) →
      (s.lmode k = 1 ∨ s.lmode k = 2) → s.loop.tune = none → (∀ j < 256, s.lmode j ≠ 3) →
      Runs (.loopTuneStart i loop nc amp hyst) s
        (({ s with loop := { s.loop with tune := some { loop := k, nc := nc.toNat, d := amp, h := hyst } } } : State).done i eOk)) ∧
    (s.admits { op := 0x0406, plen := 2 } i → s.fld 0x30030 7 0 = k →
      Runs (.loopTuneResult i loop) s (s.complete i eOk (s.rd 0x30034) (s.rd 0x30038) (s.rd 0x3003C))) ∧
    (s.admits { op := 0x0407, plen := 2 } i →
      Runs (.loopStatus i loop) s (s.complete i eOk (s.rd (lReg k 8)) (s.rd (lReg k 0)) (s.rd (lReg k 4))))

/-- R201, R206, R209, R211: requests by a write of LOOP_CMDk are those of the commands, made or rejected; a master to which
the register is not open makes none, and one whose transaction is not admitted leaves the record of R24 alone. Firn reaches a
part word by word. -/
def Sys2Proof.Claims.LoopRegistersMakeRequests : Prop :=
  ∀ (s : State) (m : Master) (loop : Byte),
    let k := loop.toNat
    (∀ np, s.regDenied m (lReg k 0xC) true = some np →
      (∀ mode b, Runs (.loopSetmode m loop mode b) s (s.denyReg m (lReg k 0xC) true np)) ∧
      Runs (.loopSwap m loop) s (s.denyReg m (lReg k 0xC) true np) ∧ Runs (.tuneAbort m loop) s (s.denyReg m (lReg k 0xC) true np)) ∧
    (s.regDenied m (lReg k 0xC) true = none → loopWriter m = false →
      (∀ mode b, Runs (.loopSetmode m loop mode b) s s) ∧ Runs (.loopSwap m loop) s s ∧ Runs (.tuneAbort m loop) s s) ∧
    (∀ (mode : Byte) (b : Bool), s.regDenied m (lReg k 0xC) true = none → loopWriter m = true → mode.toNat % 8 ≤ 2 → s.frozen = false →
      (mode.toNat % 8 = 0 ∨ s.loopLive k = true) →
      Runs (.loopSetmode m loop mode b) s (s.setReq k (some (mode.toNat % 8, b, none)))) ∧
    (∀ (mode : Byte) (b : Bool), s.regDenied m (lReg k 0xC) true = none → loopWriter m = true → mode.toNat % 8 ≤ 2 → s.frozen = true →
      Runs (.loopSetmode m loop mode b) s (s.rejectCmd k (w32 (8 + mode.toNat % 8 + 16 * b2n b)) 4)) ∧
    (s.regDenied m (lReg k 0xC) true = none → loopWriter m = true → s.swapRefusal k = 0 → Runs (.loopSwap m loop) s (s.setBit (lReg k 8) 5 true)) ∧
    (s.regDenied m (lReg k 0xC) true = none → loopWriter m = true → s.swapRefusal k ≠ 0 → Runs (.loopSwap m loop) s (s.rejectCmd k 0x20 (s.swapRefusal k))) ∧
    (∀ t : Tune, s.regDenied m (lReg k 0xC) true = none → loopWriter m = true → s.tuneOf k = some t →
      Runs (.tuneAbort m loop) s
        (if t.prev.isNone then s.endTune t 5 else { s with loop := { s.loop with tune := some { t with abort := true } } })) ∧
    (s.regDenied m (lReg k 0xC) true = none → loopWriter m = true → s.tuneOf k = none → Runs (.tuneAbort m loop) s s) ∧
    (m ≠ .firn → ∀ v, s.regDenied m 0x30024 true = none → Runs (.loopDdataAccess m true v) s s) ∧
    (∀ v, let p := s.fld 0x30020 9 8
      let o := 4 * s.fld 0x30020 14 10
      let j := s.fld 0x30020 7 0
      s.regDenied .firn 0x30024 true = none → p < 3 → o + 4 ≤ (s.partBytes j p).length →
      ∃ t, Runs (.loopDdataAccess .firn true v) s t ∧ t.lpart j p = some ((s.partBytes j p).take o ++ leBytes 4 v.toNat ++ (s.partBytes j p).drop (o + 4)) ∧
        t.fld 0x30020 14 10 = (s.fld 0x30020 14 10 + 1) % 32 ∧ t.fld 0x30020 9 0 = s.fld 0x30020 9 0 ∧ t.mem = s.mem) ∧
    (∀ v, s.regDenied .firn 0x30024 false = none → ∃ t, Runs (.loopDdataAccess .firn false v) s t ∧ t.loop = s.loop ∧
      t.bus.data = sliceB (s.partBytes (s.fld 0x30020 7 0) (s.fld 0x30020 9 8)) (4 * s.fld 0x30020 14 10) 4 ∧
      t.fld 0x30020 14 10 = (s.fld 0x30020 14 10 + 1) % 32)

/-- R192: ARM takes the 64 staged values and their time as one; the plan is applied whole at the first tick at or after its
time, and not before. -/
def Sys2Proof.Claims.PlansAreAppliedWhole : Prop :=
  ∀ (s : State),
    (∀ m, s.regDenied m 0x30058 true = none → m = .seq ∨ m = .firn → ∃ t l, Runs (.planArm m) s t ∧ t.loop.plan = some (l, (s.rd64 0x30050).toNat) ∧ l.length = 64 ∧
      (∀ j < 64, l.getD j 0 = s.rd64 (0x30400 + 8 * j)) ∧ t.bit 0x30058 1 = true ∧ t.mem = s.mem) ∧
    (∀ m, s.regDenied m 0x30058 true = none → m ≠ .seq → m ≠ .firn → Runs (.planArm m) s s) ∧
    (∀ at_ l eff, (s.reach at_).ticks at_ = true → s.loop.plan = some (l, eff) → l.length = 64 → eff ≤ at_ →
      ∃ t, Runs (.planApply at_) s t ∧ (∀ j < 64, t.rd64 (0x30600 + 8 * j) = l.getD j 0) ∧ t.loop.plan = none ∧
        t.bit 0x30058 1 = false ∧ t.mem = s.mem ∧ ∀ a, a ≠ 0x30058 → (a < 0x30600 ∨ 0x30800 ≤ a) → t.rd a = s.rd a) ∧
    (∀ at_ l eff, s.loop.plan = some (l, eff) → at_ < eff → Runs (.planApply at_) s (s.reach at_)) ∧
    (∀ at_, (s.reach at_).ticks at_ = false → Runs (.planApply at_) s (s.reach at_))

/-- R182, R184, R185: at a tick the plan is applied if it is due, the tick is counted, and the due loops are evaluated in
ascending order; off a tick, with RUN 0 or in the state of R4 nothing is evaluated. -/
def Sys2Proof.Claims.TicksEvaluateDueLoops : Prop :=
  ∀ (s : State) (at_ : Nat),
    let u := s.reach at_
    ((at_ % 10000 ≠ 0 ∨ u.bit 0x30004 0 = false ∨ u.persMismatch = true) → Runs (.loopTick at_) s u) ∧
    (at_ % 10000 = 0 → u.bit 0x30004 0 = true → u.persMismatch = false →
      let v := u.applyPlan at_
      let due := v.dueLoops (at_ / 10000)
      Runs (.loopTick at_) s (due.foldl (fun t k => t.evalLoop k at_) ((v.count 0x30008 1).showLoad due.length)) ∧
      due.Pairwise (· < ·) ∧ ∀ k ∈ due, k < 256 ∧ ((at_ / 10000 : Nat) : Int) % (cPeriod (v.lcfg k) : Int) = (cPhase (v.lcfg k) : Int) % (cPeriod (v.lcfg k) : Int))

/-- R197: a normal sample without exception leaves its output within UMIN and UMAX, and with RATE_EN within the step of the
rate limit, where the bank keeps to R211. -/
def Sys2Proof.Claims.LoopOutputsKeepTheirLimits : Prop :=
  ∀ (bank : Bytes) (r : LoopRun) (sp pv ff : Dbl) (rate dreset : Bool) (ts : Nat), bankOk bank = true →
    let l := loopLaw bank r sp pv ff none rate dreset ts
    l.exc = false →
    (rate = false → dLe (dblAt bank 72) l.run.uPrev = true ∧ dLe l.run.uPrev (dblAt bank 80) = true) ∧
    (rate = true → dLe (dSub r.uPrev (dblAt bank 88)) (dAdd r.uPrev (dblAt bank 88)) = true →
      dLe (dSub r.uPrev (dblAt bank 88)) l.run.uPrev = true ∧ dLe l.run.uPrev (dAdd r.uPrev (dblAt bank 88)) = true) ∧
    l.run.tsLast = ts ∧ l.run.hold = false ∧ l.run.numHold = false ∧ l.run.dreset = false

/-- R210: a proposal with finite values goes to the inactive bank, whose other coefficients are copied from the active one;
otherwise none is written and the tune state becomes 7. -/
def Sys2Proof.Claims.TuneProposalsGoToTheInactiveBank : Prop :=
  ∀ (s : State),
    (s.loop.proposal = none → Runs .tuneProposed s s) ∧
    (∀ t : Tune, s.loop.proposal = some t → t.loop ≤ 255 →
      let q := proposal t (cFlag (s.lcfg t.loop) 2) (cPeriod (s.lcfg t.loop))
      ((q.1 :: q.2).all dFinite = true →
        ∃ u nb, Runs .tuneProposed s u ∧ u.loop.proposal = none ∧ u.rd64 0x30048 = q.1 ∧
          u.lpart t.loop (1 - s.actBank t.loop) = some nb ∧
          u.lpart t.loop (s.actBank t.loop) = s.lpart t.loop (s.actBank t.loop) ∧ u.actBank t.loop = s.actBank t.loop ∧
          dblAt nb 0 = q.2.getD 0 0 ∧ dblAt nb 8 = q.2.getD 1 0 ∧ dblAt nb 16 = q.2.getD 2 0 ∧ dblAt nb 24 = q.2.getD 3 0) ∧
      ((q.1 :: q.2).all dFinite = false →
        ∃ u, Runs .tuneProposed s u ∧ u.loop.proposal = none ∧ u.fld 0x30034 3 0 = 7 ∧ u.loop.parts = s.loop.parts))

/-! ### Cyclic programs and remote I/O (07, 11) -/

/-- CYC_LOAD and CYC_START (R214, R215, R231): a container that passes every check becomes the pending program; a start
runs the active one cold, warm or hot, and a start that is not allowed answers E_STATE.
Answers a next state, in the effect that its clause gives: cycLoad, cycStart. -/
def Obligations.ProgramsLoadAndStart : Prop :=
  ∀ (s : State) (i : Issue),
    (∀ buf : Buf,
      let b := s.rdBuf buf
      let p := progOf s.decKeys b (i.env.prog.getD { syms := [] })
      s.admits { op := 0x0501, plen := 8 } i → s.bufOk i.host false buf = true → s.cycState ≠ 3 → progWhole s.decKeys b = true →
      i.env.prog.isSome = true → leAt (progSection s.decKeys b 0x50) 8 2 ≤ s.runtimeVer → cLength b ≤ 0xC0000 →
      progLayout s.decKeys b p (s.port.groups.map fun g => g.group) s.loopPwms = true →
      Runs (.cycLoad i buf) s ((({ s with cyc := { s.cyc with pend := some p } } : State).showProgs).complete i eOk p.ver 0 0)) ∧
    (s.admits { op := 0x0502, plen := 1, frozenNo := true } i → ∀ p, s.cyc.act = some p → s.cyc.pend = none →
      ((s.cycState = 1 ∨ s.cycState = 5) → Runs (.cycStart i 0) s (((s.prepare p true).run p).done i eOk)) ∧
      ((s.cycState = 1 ∨ s.cycState = 5) → s.warmRefused p = none → Runs (.cycStart i 1) s (((s.prepare p false).run p).done i eOk)) ∧
      (∀ c, (s.cycState = 1 ∨ s.cycState = 5) → s.warmRefused p = some c →
        Runs (.cycStart i 1) s ((s.postFirn 0x0507 1 (w32 c) p.ver).done i c)) ∧
      (s.cycState = 1 → s.bit aCycState 9 = true → Runs (.cycStart i 2) s ((s.run p).done i eOk)) ∧
      (∀ m : Byte, m.toNat ≤ 2 → (s.cycState = 2 ∨ s.cycState = 3 ∨ s.cycState = 4) → Runs (.cycStart i m) s (s.done i eState)) ∧
      (s.run p).cycState = 2) ∧
    (∀ q, s.admits { op := 0x0502, plen := 1, frozenNo := true } i → s.cycState = 0 → s.cyc.pend = some q →
      s.progVerified q = true →
      let u := (((s.promote).setCycState 1).showTasks 6).setBit aCycState 9 false
      Runs (.cycStart i 0) s (((u.prepare q true).run q).done i eOk))

/-- CYC_STOP and CYC_ONLINE_CHANGE (R233, R238, R239): a stop ends at once where nothing runs and otherwise waits for the
cycles in progress; a change that R238 admits puts S on the first tick at least 1 ms later. -/
def Sys2Proof.Claims.ProgramsStopAndChange : Prop :=
  ∀ (s : State) (i : Issue),
    (s.admits { op := 0x0503, plen := 0, async := true } i →
      (s.cycState = 1 → Runs (.cycStop i) s (s.done i eOk)) ∧
      (s.cycState = 4 → Runs (.cycStop i) s (s.startAsync (.cycStop i) i)) ∧
      ((s.cycState = 0 ∨ s.cycState = 3 ∨ s.cycState = 5) → Runs (.cycStop i) s (s.done i eState)) ∧
      (s.cycState = 2 →
        let u := ((s.startAsync (.cycStop i) i).setCycState 4).takeWrites fun _ => true
        let l := (u.cyc.act.map fun p => p.tasks).getD []
        Runs (.cycStop i) s
          ((l.foldl (fun t d => if t.inCycle d.task then t else (t.setPhase d.task 6).parkTask d) u).stopCheck))) ∧
    (∀ old new, s.admits { op := 0x0504, plen := 0, frozenNo := true, async := true } i → s.cyc.act = some old → s.cyc.pend = some new →
      s.cycState = 2 →
      (∀ c, changeRefused old new = some c → Runs (.cycOnlineChange i) s (s.done i c)) ∧
      (changeRefused old new = none → s.progVerified new = true →
        ∃ t o, Runs (.cycOnlineChange i) s t ∧ t.cycState = 3 ∧ t.mb.outstanding = s.mb.outstanding ++ [o] ∧ o.iss = i ∧
          t.switchAt = (w64 (roundUp (s.now + 1000000) 10000)).toNat ∧ t.cyc.act = some old ∧ t.cyc.pend = some new ∧
          t.mem = (s.placeCode new true).mem))

/-- Forces and variables (R235, R237, R250): a force of the symbol's own type is kept, cleared and listed; a variable is read
at its place and written at once while the program does not run, else at its task's latch. -/
def Sys2Proof.Claims.ForcesAndVariablesAreReached : Prop :=
  ∀ (s : State) (i : Issue) (sym : W32),
    (∀ (ty : Byte) (v : W64) x, s.admits { op := 0x0505, plen := 13 } i → s.activeSym sym = some x → x.ty = ty.toNat → 1 ≤ ty.toNat →
      ty.toNat ≤ 12 → forceOk ty.toNat v = true → s.cyc.forces.length < 1024 →
      ∃ t, Runs (.cycForceSet i sym ty v) s t ∧ kfind t.cyc.forces sym.toNat = some (ty.toNat, v) ∧
        t.rd 0x40018 = w32 t.cyc.forces.length ∧ (∀ k, k ≠ sym.toNat → kfind t.cyc.forces k = kfind s.cyc.forces k) ∧
        t.mb.last = some ⟨i.src, i.tag, eOk, 0, 0, 0⟩) ∧
    (s.admits { op := 0x0506, plen := 4 } i →
      ∃ t, Runs (.cycForceClear i sym) s t ∧
        (sym = 0xFFFFFFFF → t.cyc.forces = [] ∧ t.rd 0x40018 = 0) ∧
        (sym ≠ 0xFFFFFFFF → kfind t.cyc.forces sym.toNat = none ∧ ∀ k, k ≠ sym.toNat → kfind t.cyc.forces k = kfind s.cyc.forces k)) ∧
    (∀ buf, let b := s.cyc.forces.flatMap fun f =>
        leBytes 4 f.1 ++ [BitVec.ofNat 8 f.2.1, 0] ++ leBytes 2 (((s.activeSym (w32 f.1)).map fun x => x.mask).getD 0) ++ le8 f.2.2
      s.admits { op := 0x0507, plen := 8 } i → s.bufOk i.host true buf = true → b.length ≤ buf.len.toNat →
      Runs (.cycForceList i buf) s ((s.wrMem (s.winAddr buf.off) b).complete i eOk (w32 s.cyc.forces.length) 0 0)) ∧
    (∀ (t : Byte) p d, s.admits { op := 0x0508, plen := 1 } i → s.cyc.act = some p → p.task? t.toNat = some d →
      Runs (.cycTaskStatus i t) s
        (s.complete i eOk (w32 (10 * d.period)) (s.rd (tReg t.toNat 0x10C)) (w32 (kget 0 s.cyc.longest t.toNat)))) ∧
    (∀ buf x, s.admits { op := 0x0509, plen := 12 } i → s.activeSym sym = some x → s.bufOk i.host true buf = true →
      x.len ≤ buf.len.toNat →
      Runs (.cycVarRead i sym buf) s
        ((s.wrMem (s.winAddr buf.off) (s.rdMem (symPlace x) x.len)).complete i eOk (w32 x.len) 0 0)) ∧
    (∀ buf x, s.admits { op := 0x050A, plen := 12, async := true } i → s.activeSym sym = some x → s.bufOk i.host false buf = true →
      buf.len.toNat = x.len →
      (s.cycState ≠ 2 → s.cycState ≠ 3 →
        Runs (.cycVarWrite i sym buf) s ((s.putSym x ((bitsOf 16 x.mask).head?.getD 0) (s.rdBuf buf)).done i eOk)) ∧
      (s.cycState = 2 →
        ∃ t o, Runs (.cycVarWrite i sym buf) s t ∧ t.mb.outstanding = s.mb.outstanding ++ [o] ∧ o.iss = i ∧ t.mem = s.mem ∧
          t.cyc.writes = s.cyc.writes ++ [{ id := s.mb.serial, sym := x, bytes := s.rdBuf buf }]))

/-- The task cycle (R218, R222 to R224, R227, R228): a release queues a latch or counts a miss, a latch starts the logic, the
end of the logic queues a commit, a commit leaves the engine and its retentive lines to a drain, and a cycle that takes too
long or dirties too much halts the runtime.
Answers a next state, in the effect that its clause gives: taskRelease, latchComplete, taskEnd, commitComplete, overrun,
retBudget, retentiveDrain, switchInstant. -/
def Obligations.TasksRunTheirCycle : Prop :=
  ∀ s : State,
    (∀ (task : Byte) at_ p d, let u := s.reach at_
      u.cycState = 2 → u.cyc.act = some p → p.task? task.toNat = some d → u.persMismatch = false → u.overdue at_ = [] → releasedAt d at_ = true →
      u.cyc.first ≤ at_ →
      (u.inCycle task.toNat = false →
        ∃ t r, Runs (.taskRelease task at_) s t ∧ kget 0 t.cyc.rel task.toNat = at_ ∧ t.rd (tReg task.toNat 0x108) = w32 at_ ∧
          r ∈ t.cyc.reqs ∧ r.task = task.toNat ∧ r.isCommit = false ∧ r.arrived = u.now ∧ t.cyc.reqs.length = u.cyc.reqs.length + 1 ∧
          t.mem = s.mem) ∧
      (u.inCycle task.toNat = true →
        ∃ t, Runs (.taskRelease task at_) s t ∧ t.cyc = s.cyc ∧ t.rd (tReg task.toNat 0x114) = u.rd (tReg task.toNat 0x114) + 1 ∧
          t.mem = s.mem)) ∧
    (∀ at_ r rest p d, s.cyc.reqs = r :: rest → r.isCommit = false → s.progOfTask r.task = some p → s.defOfTask r.task = some d →
      s.persMismatch = false → s.overdue at_ = [] →
      let v := (s.reach at_).doLatch p d
      ((v.dirtyOf d).length ≤ 1024 → Runs (.latchComplete at_) s ((v.setPhase r.task 3).popReq.showCur)) ∧
      (1024 < (v.dirtyOf d).length → Runs (.latchComplete at_) s (v.overBudget d.task 1025))) ∧
    (∀ m (task : Byte) (st : Stores) d, 2 ≤ masterId m → masterId m ≤ 5 → s.curTask (masterId m - 2) = some d → d.task = task.toNat →
      s.persMismatch = false →
      let u := st.writes.foldl (fun t w => t.logicStore m w) s
      u.regDenied m 0x40020 true = none →
      ((u.dirtyOf d).length ≤ 1024 → Runs (.taskEnd m task st) s ((u.request d.task true).showCur)) ∧
      (1024 < (u.dirtyOf d).length → Runs (.taskEnd m task st) s (u.overBudget d.task 1025))) ∧
    (∀ at_ r rest p d, s.cyc.reqs = r :: rest → r.isCommit = true → (∀ x ∈ s.cyc.drains, x.task ≠ r.task) →
      s.progOfTask r.task = some p → s.defOfTask r.task = some d → s.persMismatch = false → s.overdue at_ = [] →
      (((s.reach at_).applyForces p r.task [1, 2, 3]).dirtyOf d).length ≤ 1024 →
      ∃ t, Runs (.commitComplete at_) s t ∧ t.cyc.reqs = rest ∧
        t.cyc.drains.map (fun x => x.task) = s.cyc.drains.map (fun x => x.task) ++ [d.task]) ∧
    (∀ (task : Byte) at_ d, s.persMismatch = false → d ∈ s.overdue at_ → d.task = task.toNat →
      let u := s.reach at_
      Runs (.overrun task at_) s (u.takeOverruns at_) ∧
      (s.overdue at_ = [d] → u.takeOverruns at_ =
        (((u.setBit (tReg d.task 0x104) 7 true).postHw 0x0501 (w32 d.task) (w32 (kget 0 u.cyc.rel d.task))
          (w32 ((u.deadline d - kget 0 u.cyc.rel d.task) / 1000))).halt).raise 48)) ∧
    (∀ at_ t d, s.inCycle t = true → s.defOfTask t = some d → t < 16 →
      kget 0 s.cyc.rel d.task + 10000 * (d.period * d.ovf / 16) ≤ at_ → d ∈ s.overdue at_) ∧
    (∀ task : Byte, s.tphase task.toNat = 3 → Runs (.retBudget task) s (s.overBudget task.toNat 1025)) ∧
    (∀ x rest, s.cyc.drains = x :: rest → s.bit (markReg x.task) 31 = true → s.pwr.pfw = false →
      Runs .retentiveDrain s (s.closeDrain.openDrain)) ∧
    (∀ at_, (s.reach at_).cycState = 3 → (s.reach at_).switchAt ≤ at_ → Runs (.switchInstant at_) s ((s.reach at_).passSwitch)) ∧
    (∀ at_, (s.reach at_).cycState ≠ 3 → Runs (.switchInstant at_) s (s.reach at_))

/-- Remote I/O (R245 to R249, R358): a launch takes the group's next sequence number; an accepted PUBLISH or COMMAND puts its
values into the received table; an ack updates its group; a check instant counts a miss; an expired hold writes the
fallback.
Answers a next state, in the effect that its clause gives: publishLaunch, publish, checkInstant, command, commandAck,
commandHoldExpiry, valueGroupLaunch. -/
def Obligations.RemoteValuesArrive : Prop :=
  ∀ s : State,
    (∀ (g : Byte) at_ p r, s.cyc.act = some p → (p.publications.find? fun r => r.group == g.toNat) = some r →
      tickOf at_ r.phase r.interval = true →
      ∃ t, Runs (.publishLaunch g at_) s t ∧ kget 0 t.cyc.pubSeq g.toNat = (kget 0 s.cyc.pubSeq g.toNat + 1) % 2 ^ 32 ∧ t.mem = s.mem) ∧
    (∀ (g : Byte) at_ v, (s.port.groups.find? fun v => v.group == g.toNat) = some v → tickOf at_ v.phase v.interval = true →
      ∃ t, Runs (.valueGroupLaunch g at_) s t ∧ kget 0 t.port.launches v.group = (kget 0 s.port.launches v.group + 1) % 2 ^ 32 ∧
        t.mem = s.mem ∧ t.cyc = s.cyc) ∧
    (∀ (h : FrameHeader) (b : ValuesBody), (s.reach h.at_).carried h → (s.reach h.at_).accepts h false = .ok → (h.port ≠ 3 ∨ (s.reach h.at_).paired = false) →
      let u := s.heard h false
      let l := u.numbered.filter fun p => p.2.ty == 3 && p.2.peer == h.src.toNat && p.2.group == b.group.toNat && p.2.count == b.values.length
      ∃ t, Runs (.publish h b) s t ∧ (∀ p ∈ l, (t.subRun p.2).miss = 0 ∧ (t.subRun p.2).got = true) ∧ t.mem = s.mem ∧
        ∀ n r, l = [(n, r)] → ∀ k < r.count, t.rd64 (0x38000 + 8 * (r.rx + k)) = b.values.getD k 0 ∨ 1024 < r.rx + r.count) ∧
    (∀ at_ n r, let u := s.reach at_
      (u.numbered.filter fun p => p.2.ty == 3 && tickOf at_ p.2.phase p.2.interval) = [(n, r)] →
      ((u.subRun r).got = true → Runs (.checkInstant at_) s (u.setSub r { u.subRun r with got := false })) ∧
      ((u.subRun r).got = false →
        let m := min 255 ((u.subRun r).miss + 1)
        Runs (.checkInstant at_) s
          ((u.setSub r { u.subRun r with miss := m }).quality n r (if m < r.limit then 1 else 2) m))) ∧
    (∀ (h : FrameHeader) (b : ValuesBody), (s.reach h.at_).carried h → (s.reach h.at_).accepts h true = .ok → (h.port ≠ 3 ∨ (s.reach h.at_).paired = false) →
      let u := s.heard h true
      let mine := (u.numbered.map fun p => p.2).filter fun r => r.ty == 4 && r.peer == h.src.toNat && r.group == b.group.toNat
      let fit := mine.filter fun r => r.count == b.values.length
      ∃ t, Runs (.command h b) s t ∧ t.mem = s.mem ∧ t.cyc.refused = s.cyc.refused + b2n fit.isEmpty ∧
        (∀ r ∈ fit, (t.subRun r).holding = true ∧ (t.subRun r).fallback = false ∧ (t.subRun r).seq = b.seq.toNat ∧
          (t.subRun r).since = u.now) ∧
        ∀ r, fit = [r] → ∀ k < r.count, t.rd64 (0x38000 + 8 * (r.rx + k)) = b.values.getD k 0 ∨ 1024 < r.rx + r.count) ∧
    (∀ (h : FrameHeader) (b : AckBody) p r, (s.reach h.at_).carried h → (s.reach h.at_).accepts h false = .ok → (h.port ≠ 3 ∨ (s.reach h.at_).paired = false) →
      let u := s.heard h false
      u.cyc.act = some p → (p.remotes.find? fun r => r.ty == 2 && r.group == b.group.toNat && r.peer == h.src.toNat) = some r →
      ∃ t, Runs (.commandAck h b) s t ∧ (t.group b.group.toNat).ackSeq = b.seq.toNat ∧
        (t.group b.group.toNat).rej = (b.result == 1) ∧ (b.result = 0 → b.seq.toNat = (u.group b.group.toNat).seq →
          (t.group b.group.toNat).ackLast = true ∧ (t.group b.group.toNat).unack = 0) ∧ t.mem = s.mem) ∧
    (∀ at_ n r, let u := s.reach at_
      (u.numbered.filter fun p => p.2.ty == 4 && (u.subRun p.2).holding && decide ((u.subRun p.2).since + u.drift.hold * u.districtNs ≤ at_))
        = [(n, r)] →
      ∃ t, Runs (.commandHoldExpiry at_) s t ∧ (t.subRun r).holding = false ∧ (t.subRun r).fallback = true ∧ t.mem = s.mem)

/-! ### Metering (08) -/

/-- MTR configuration (R256, R257, R270, R272): a change that passes its checks is written, counted and recorded; with
METRO_LOCK none is made. -/
def Sys2Proof.Claims.MeteringIsConfigured : Prop :=
  ∀ (s : State) (i : Issue),
    (∀ (c : Byte) (g o : Dbl) (d : W16), s.admits { op := 0x0601, plen := 19 } i → s.metroLock = true →
      Runs (.mtrChanConfig i c g o d) s (s.done i eAccess)) ∧
    (∀ (c : Byte) (g o : Dbl) (d : W16), s.admits { op := 0x0601, plen := 19 } i → s.metroLock = false → c.toNat ≤ 15 →
      dMag g ≠ 0 → dFinite g = true → dFinite o = true → -2048 ≤ d.toInt → d.toInt ≤ 2048 →
      (c.toNat < 12 → dLe (fullRating (s.gainWith c.toNat g) (c.toNat / 6)) (dOfInt 21000) = true) → s.calOf c.toNat = false →
      ∃ t, Runs (.mtrChanConfig i c g o d) s t ∧ t.gainOf c.toNat = g ∧ t.offsetOf c.toNat = o ∧ t.delayOf c.toNat = d.toInt ∧
        (∀ k, k ≤ 15 → k ≠ c.toNat → t.gainOf k = s.gainOf k ∧ t.offsetOf k = s.offsetOf k ∧ t.delayOf k = s.delayOf k) ∧
        t.rd 0x5001C = s.rd 0x5001C + 1 ∧ t.mtr = s.mtr ∧ t.mb.last = some ⟨i.src, i.tag, eOk, 0, 0, 0⟩) ∧
    (∀ (k : Byte) (c : W32) (w : W16), s.admits { op := 0x0605, plen := 7 } i → s.metroLock = false → k.toNat ≤ 3 →
      1000 ≤ c.toNat → 10 ≤ w.toNat → w.toNat ≤ 500 →
      ∃ t, Runs (.mtrPulseConfig i k c w) s t ∧ t.rd (poutReg k.toNat 0) = c ∧ t.fld (poutReg k.toNat 4) 15 0 = w.toNat ∧
        t.rd (poutReg k.toNat 8) = 0 ∧ (kget {} t.mtr.pulse k.toNat).counted = 0 ∧ (kget {} t.mtr.pulse k.toNat).width = w.toNat ∧
        t.rd 0x5001C = s.rd 0x5001C + 1) ∧
    (∀ (c : Byte) (buf : Buf), let b := sliceB (s.rdBuf buf) 0 32
      s.admits { op := 0x0606, plen := 9 } i → s.metroLock = false → c.toNat ≤ 3 → 32 ≤ buf.len.toNat → s.bufOk i.host false buf = true →
      leAt b 0 2 ≤ 1 → s.heatOk b = true →
      ∃ t, Runs (.mtrHeatConfig i c buf) s t ∧ (kget {} t.mtr.heat c.toNat).next = some b ∧
        (kget {} t.mtr.heat c.toNat).cfg = (kget {} s.mtr.heat c.toNat).cfg ∧ t.rd 0x5001C = s.rd 0x5001C + 1)

/-- MTR readings and requests (R267, R276, R283): a reading returns the registers of the last commit and changes nothing; a
save is asked for and the command waits; a calibration begins on a channel. -/
def Sys2Proof.Claims.MeterReadingsAnswer : Prop :=
  ∀ (s : State) (i : Issue),
    (∀ y p q : Byte, s.admits { op := 0x0602, plen := 3 } i → accOk y p q = true →
      Runs (.mtrEnergyRead i y p q) s (s.complete i eOk (s.rd (accReg y.toNat p.toNat q.toNat))
        (s.rd (accReg y.toNat p.toNat q.toNat + 4)) (s.rd 0x50018))) ∧
    (∀ y p q : Byte, s.admits { op := 0x0603, plen := 3 } i → accOk y p q = true →
      Runs (.mtrDeltaRead i y p q) s (s.complete i eOk (s.rd (accReg y.toNat p.toNat q.toNat))
        (w32 (s.fld (accReg y.toNat p.toNat q.toNat + 4) 7 0)) 0)) ∧
    (∀ (c : Byte) (buf : Buf), let b := (List.range 24).flatMap fun j => leBytes 4 (s.rd (heatReg c.toNat (4 * j))).toNat
      s.admits { op := 0x0607, plen := 9 } i → c.toNat ≤ 3 → 96 ≤ buf.len.toNat → s.bufOk i.host true buf = true →
      Runs (.mtrHeatRead i c buf) s ((s.wrMem (s.winAddr buf.off) b).complete i eOk 96 0 0)) ∧
    (s.admits { op := 0x0608, plen := 0, async := true } i →
      ∃ t o, Runs (.mtrSaveNow i) s t ∧ t.bit 0x51700 1 = true ∧ t.mb.outstanding = s.mb.outstanding ++ [o] ∧ o.iss = i ∧ o.ref = 0 ∧
        t.mem = s.mem ∧ t.mtr = s.mtr) ∧
    (∀ (c : Byte) (buf : Buf), s.admits { op := 0x0604, plen := 9, async := true } i → s.metroLock = false →
      s.bufOk i.host false buf = true → calBufOk c.toNat (s.rdBuf buf) = true → s.mtr.cal = none →
      ∃ t r, Runs (.mtrCalStart i c buf) s t ∧ t.mtr.cal = some r ∧ r.channel = c.toNat ∧ r.kind = leAt (s.rdBuf buf) 0 1 ∧
        r.ref = w64 (leAt (s.rdBuf buf) 8 8) ∧ r.seconds = leAt (s.rdBuf buf) 2 2 ∧
        r.left = none ∧ t.bit (chReg c.toNat) 3 = true ∧ t.mem = s.mem) ∧
    (∀ m, s.regDenied m 0x51700 true = none → Runs (.saveRequest m) s (if m = .firn then s.setBit 0x51700 1 true else s)) ∧
    (∀ x, (∀ r, s.mtr.cal = some r → r.left ≠ some 0) → Runs (.calibrationWindowEnd x) s s) ∧
    (∀ x r, s.mtr.cal = some r → r.left = some 0 → r.channel ≤ 15 →
      ∃ t, Runs (.calibrationWindowEnd x) s t ∧ t.mtr.cal = none ∧ t.bit (chReg r.channel) 3 = false ∧
        (∀ c, c ≤ 15 → t.gainOf c = s.gainOf c ∧ t.offsetOf c = s.offsetOf c ∧ t.delayOf c = s.delayOf c))

/-- R261, R262, R263, R276: an interval that is due, of 800 samples a phase, advances MTR_IVCNT, stamps it, and puts the configured gains into force; it
takes a save at each tenth commit or for a command that waits. -/
def Sys2Proof.Claims.IntervalsAreCommitted : Prop :=
  ∀ (s : State) (at_ : Nat) (x : Samples),
    let u := s.reach at_
    ((u.intervalDue at_ = false ∨ samplesOk x.phases = false) → Runs (.intervalCommit at_ x) s u) ∧
    (u.intervalDue at_ = true → samplesOk x.phases = true →
      ∃ t, Runs (.intervalCommit at_ x) s t ∧ t.rd 0x5000C = u.rd 0x5000C + 1 ∧
        t.rd64 0x50010 = (if u.timeState = 0 then 0 else u.time.ns) ∧
        (∀ c, c ≤ 15 → t.gainNow c = (u.gainOf c, u.offsetOf c)) ∧ t.mtr.gainOld = u.mtr.gain ∧ t.mtr.posts = 0 ∧
        (∀ k, k ≤ 7 → kget 0 t.mtr.pins k = u.rd64 (0x51100 + 8 * k)) ∧
        ((u.rd 0x5000C + 1).toNat % 10 = 0 ∨ u.bit 0x51700 1 = true →
          t.mtr.nextSeq = u.mtr.nextSeq + 1 ∧ (∃ k b, t.mtr.save = some (u.mtr.nextSeq, k, b)) ∧ t.bit 0x51700 1 = false) ∧
        ((u.rd 0x5000C + 1).toNat % 10 ≠ 0 → u.bit 0x51700 1 = false → t.mtr.save = u.mtr.save ∧ t.mtr.nextSeq = u.mtr.nextSeq))

/-- R276, R277: the end of a save shows its number; the power-fail warning, which is asserted while both feeds are lost (R386), takes a save of its own, which is written, and
latches the warning. -/
def Sys2Proof.Claims.SavesAreWritten : Prop :=
  ∀ s : State,
    (s.mtr.save = none → Runs .saveWriteComplete s s) ∧
    (∀ q k b, s.mtr.save = some (q, k, b) →
      ∃ t, Runs .saveWriteComplete s t ∧ t.mtr.save = none ∧ t.rd 0x50018 = w32 q ∧ t.rd 0x51704 = w32 (q % 512) ∧
        t.bit 0x50008 16 = false ∧
        ((∀ o ∈ s.mb.outstanding, o.ref ≠ q) → b.length = 2048 → (∀ j < 2048, s.poisoned (saveAddr q + j) = false) →
          ∀ j < 2048, t.byteAt (saveAddr q + j) = b.getD j 0)) ∧
    ((s.bit aFeed 0 = true ∨ s.bit aFeed 1 = true) → Runs .powerFailWarning s s) ∧
    (s.bit aFeed 0 = false → s.bit aFeed 1 = false → (∀ x ∈ s.cyc.drains, x.task ≤ 15) → ∃ t, Runs .powerFailWarning s t ∧ t.pwr.pfw = true ∧ t.bit aFeed 3 = true ∧ t.mtr.save = none ∧
      t.rd 0x50018 = w32 s.mtr.nextSeq ∧ t.bit 0x50008 17 = true ∧ t.pair.pfail = true)

/-- R260, R265, R269, R271, R273, R275: what the front end, the pulse emitter and the calculators do with a channel's fault, a
meter value, a pulse, a step and its commit.
Answers a next state, in the effect that its clause gives: meterValuePost, chFault, chRecover, pulseEmitterTick,
pulseInputEdge, calculatorStep, heatCommit. -/
def Obligations.MeteringEventsTakeEffect : Prop :=
  ∀ s : State,
    (∀ (c cause : Byte), c.toNat ≤ 15 → (cause = 1 ∨ cause = 2) → s.chFaulted c.toNat = false →
      ∃ t, Runs (.chFault c cause) s t ∧ t.chFaulted c.toNat = true ∧ t.bit (chReg c.toNat) cause.toNat = true ∧
        t.bit 0x50008 c.toNat = true ∧ kget 0 t.mtr.flt c.toNat = 0 ∧ t.mem = s.mem) ∧
    (∀ c : Byte, c.toNat ≤ 15 → s.chFaulted c.toNat = true →
      ∃ t, Runs (.chRecover c) s t ∧ t.chFaulted c.toNat = false ∧ t.bit 0x50008 c.toNat = false ∧ t.mem = s.mem ∧ t.mtr.cal = s.mtr.cal) ∧
    (∀ c : Byte, c.toNat ≤ 15 → s.chFaulted c.toNat = false → Runs (.chRecover c) s s) ∧
    (∀ w : MeterWindow, samplesOk w.phases = false → Runs (.meterValuePost w) s s) ∧
    (∀ w : MeterWindow, samplesOk w.phases = true → ∃ t, Runs (.meterValuePost w) s t ∧ t.mem = s.mem ∧
      t.mtr.posts = min 800 (s.mtr.posts + 1) ∧
      t.rd 0x5002C = w32 ((s.rd 0x5002C).toNat + b2n (crosses (s.windowOf 0 0 (min 800 (s.mtr.posts + 1)) (w.phases.getD 0 [])))) ∧
      ∀ k < 8, t.rd64 (0x50800 + 8 * (132 + k)) = dOfInt ((kget 0 s.mtr.rate k : Nat) : Int) ∧
        kget 0 t.loop.meter (132 + k) = dOfInt ((kget 0 s.mtr.rate k : Nat) : Int) ∧ t.loop.meterBad.contains (132 + k) = false) ∧
    (∀ at_, let u := s.reach at_
      ((u.outputsHeld = true ∨ u.outputsDriven = false) → Runs (.pulseEmitterTick at_) s u) ∧
      (u.outputsHeld = false → u.outputsDriven = true → ∃ t, Runs (.pulseEmitterTick at_) s t ∧ t.mem = s.mem ∧ ∀ k < 4,
        let p := kget {} u.mtr.pulse k
        let n := u.fld (poutReg k 8) 15 0
        (p.stop ≤ at_ → p.next ≤ at_ → n ≠ 0 →
          t.fld (poutReg k 8) 15 0 = n - 1 ∧ (kget {} t.mtr.pulse k).stop = at_ + p.width * 1000000 ∧
          (kget {} t.mtr.pulse k).next = at_ + 2 * p.width * 1000000) ∧
        ((at_ < p.stop ∨ at_ < p.next ∨ n = 0) → t.rd (poutReg k 8) = u.rd (poutReg k 8) ∧ kget {} t.mtr.pulse k = p))) ∧
    (∀ p : Byte, p.toNat ≤ 7 →
      Runs (.pulseInputEdge p) s (s.wr64 (0x51100 + 8 * p.toNat) (w64 ((s.rd64 (0x51100 + 8 * p.toNat)).toNat + 1)))) ∧
    (∀ (c : Byte) at_, c.toNat ≤ 3 → s.pwr.lost.getLsbD 6 = false → Runs (.calculatorStep c at_) s ((s.reach at_).heatStep c.toNat)) ∧
    (∀ (c : Byte) at_, s.pwr.lost.getLsbD 6 = true → Runs (.calculatorStep c at_) s s) ∧
    (∀ c : Byte, c.toNat ≤ 3 → s.regDenied .mtr (0x513F0 + 0x100 * c.toNat) true = none → ∃ t, Runs (.heatCommit .mtr c) s t ∧ t.mem = s.mem ∧
      (∀ j < 24, t.rd (heatReg c.toNat (4 * j)) = s.rd (heatReg c.toNat (0x80 + 4 * j))) ∧
      (∀ a, (a < heatReg c.toNat 0 ∨ heatReg c.toNat 0x60 ≤ a) → t.rd a = s.rd a)) ∧
    (∀ m (c : Byte), m ≠ .mtr → s.regDenied m (0x513F0 + 0x100 * c.toNat) true = none → Runs (.heatCommit m c) s s)

/-! ### Time (09) -/

/-- R284: each TIMECLK edge adds INC = 4 · 2³² + ADJ, in units of 2⁻³² ns, to NS and FRAC as one number of 96 bits. -/
def Obligations.TimeBaseAdvances : Prop :=
  ∀ (s : State) (n : Nat),
    (s.inc : Int) = 4 * 2 ^ 32 + (s.rd 0x60020).toInt ∧
    ((s.edges n).time.ns.toNat * 2 ^ 32 + (s.edges n).time.frac.toNat) % 2 ^ 96 =
      (s.time.ns.toNat * 2 ^ 32 + s.time.frac.toNat + n * s.inc) % 2 ^ 96

/-- R284 and the model's passing of edges (DESIGN CHOICE, log 1): the edges that pass up to an instant never turn the time base back, and
reach the instant unless a step is pending before it; registers and memory stay. -/
def Sys2Proof.Claims.InstantsAreReached : Prop :=
  ∀ (s : State) (n : Nat),
    (n < 2 ^ 63 → s.now ≤ (s.reach n).now ∧ (s.time.pendStep = none → n ≤ (s.reach n).now)) ∧
    (∀ a v, s.time.pendStep = some (a, v) → s.now < a.toNat → (s.reach n).now < a.toNat) ∧
    (n ≤ s.now → s.reach n = s) ∧ (s.reach n).regs = s.regs ∧ (s.reach n).mem = s.mem

/-- R287, R298, R303, R312, R314: TIME commands answer the time base and set corrections, the PTP configuration and the mode of a
TEVT pin. -/
def Sys2Proof.Claims.TimeCommandsAnswer : Prop :=
  ∀ (s : State) (i : Issue),
    (s.admits { op := 0x0701, plen := 0 } i →
      let u := s.timeEdges 2
      Runs (.timeRead i) s (u.complete i eOk (lo32 u.time.ns) (hi32 u.time.ns) u.time.frac)) ∧
    (s.admits { op := 0x0703, plen := 0 } i →
      Runs (.timeState i) s (s.complete i eOk (w32 (s.fld 0x60004 7 0)) (s.rd 0x60024) (i32 (adjPpb (s.rd 0x60020).toInt)))) ∧
    (∀ (p : Byte) (x y z : W32), s.admits { op := 0x0704, plen := 13 } i → p.toNat ≤ 3 → x.msb = false → y.msb = false →
      Runs (.timePortCorr i p x y z) s
        ((((s.wr (tpReg p.toNat 0x100) x).wr (tpReg p.toNat 0x104) y).wr (tpReg p.toNat 0x108) z).done i eOk)) ∧
    (∀ buf : Buf, s.admits { op := 0x0705, plen := 8 } i → s.bufOk i.host false buf = true → ptpStatus (s.rdBuf buf) = eOk →
      Runs (.timePtpConfig i buf) s ((s.setPtp (ptpOf (s.rdBuf buf))).done i eOk)) ∧
    (∀ p m : Byte, s.admits { op := 0x0706, plen := 2 } i → p.toNat ≤ 3 → m.toNat ≤ 5 →
      ∃ t, Runs (.timeEventConfig i p m) s t ∧ t.fld (tpReg p.toNat 0x200) 2 0 = m.toNat ∧
        (s.fld (tpReg p.toNat 0x200) 2 0 ≠ m.toNat →
          kget [] t.time.fifo p.toNat = [] ∧ t.time.armed = s.time.armed ∧ kfind t.time.evOut p.toNat = none))

/-- R293, R294, R308: a step, of TIME_SET or of the servo, is taken from UNSET alone; it loads the new value, drops every queued
frame with a launch time and leaves the state STEPPED, or LOCKED with REFSRC 0. -/
def Sys2Proof.Claims.TheTimeBaseStepsOnce : Prop :=
  ∀ (s : State),
    (∀ (i : Issue) (v : W64), s.admits { op := 0x0702, plen := 8 } i →
      ((s.timeState ≠ 0 ∨ s.time.pendStep ≠ none ∨ s.servoWins = true) → Runs (.timeSet i v) s (s.done i eState)) ∧
      (s.timeState = 0 → s.time.pendStep = none → s.servoWins = false →
        ∃ t, Runs (.timeSet i v) s t ∧ t.time.ns = v ∧ t.time.frac = 0 ∧
          t.timeState = (if s.time.ptp.refsrc = 0 then 2 else 1) ∧ t.rd64 0x60058 = v ∧
          (∀ p < 4, ∀ f ∈ t.portFrames p, f.launch = 0) ∧ t.mb.last = some ⟨i.src, i.tag, eOk, 0, 0, 0⟩)) ∧
    (∀ m, s.regDenied m 0x60028 true = none → s.servoWriter m = false → Runs (.servoStep m) s s ∧ Runs (.stepCancel m) s s) ∧
    (∀ m, s.regDenied m 0x60028 true = none → s.servoWriter m = true →
      let u := s.timeEdges 3
      (u.timeState = 0 → u.time.pendStep = none → u.now < (s.rd64 0x60030).toNat →
        ∃ t, Runs (.servoStep m) s t ∧ t.time = { u.time with pendStep := some (s.rd64 0x60030, s.rd64 0x60038) } ∧ t.bit 0x60004 5 = true) ∧
      ((u.timeState ≠ 0 ∨ u.time.pendStep ≠ none ∨ (s.rd64 0x60030).toNat ≤ u.now) →
        ∃ t, Runs (.servoStep m) s t ∧ t.time = u.time ∧ t.bit 0x60004 6 = true)) ∧
    (∀ m, s.regDenied m 0x60028 true = none → s.servoWriter m = true →
      ∃ t, Runs (.stepCancel m) s t ∧ t.time = { s.time with pendStep := none } ∧ t.bit 0x60004 5 = false) ∧
    (s.time.pendStep = none → Runs .stepTaken s s) ∧
    (∀ at_ v, s.time.pendStep = some (at_, v) →
      ∃ t, Runs .stepTaken s t ∧ t.time.ns = v ∧ t.time.frac = 0 ∧ t.time.pendStep = none ∧ t.rd64 0x60058 = v ∧
        t.timeState = (if s.time.ptp.refsrc = 0 then 2 else 1) ∧ ∀ p < 4, ∀ f ∈ t.portFrames p, f.launch = 0)

/-- R286, R288, R289, R292: updates move the state machine; the rate is clamped; with no update for HOLD_LIMIT seconds LOCKED
falls to STEPPED, and after 1 s HOLDOVER is set. -/
def Sys2Proof.Claims.ServoMovesTheTimeBase : Prop :=
  ∀ (s : State),
    (∀ m, s.servoWriter m = false → (s.regDenied m 0x60028 true = none → Runs (.servoUpdate m) s s) ∧
      ∀ v, s.regDenied m 0x60020 true = none → Runs (.adjWrite m v) s s) ∧
    (∀ m, s.regDenied m 0x60028 true = none → s.servoWriter m = true →
      let u := s.timeEdges 3
      ((u.timeState = 0 ∨ u.time.ptp.refsrc = 0) →
        ∃ t, Runs (.servoUpdate m) s t ∧ t.time.lastUpd = some (u.now : Int) ∧ t.timeState = u.timeState ∧ t.bit 0x60004 3 = false) ∧
      (u.timeState = 1 → u.time.ptp.refsrc ≠ 0 → (u.rd 0x60024).toInt.natAbs ≤ (u.rd 0x60040).toNat →
        ∃ t, Runs (.servoUpdate m) s t ∧ t.time.lastUpd = some (u.now : Int) ∧
          (u.fld 0x60044 7 0 ≤ u.time.inRun + 1 → t.timeState = 2) ∧
          (u.time.inRun + 1 < u.fld 0x60044 7 0 → t.timeState = 1 ∧ t.time.inRun = u.time.inRun + 1)) ∧
      (u.timeState = 2 → u.time.ptp.refsrc ≠ 0 → (u.rd 0x60040).toNat < (u.rd 0x60024).toInt.natAbs →
        u.time.outRun + 1 < u.fld 0x60044 15 8 →
        ∃ t, Runs (.servoUpdate m) s t ∧ t.timeState = 2 ∧ t.time.outRun = u.time.outRun + 1 ∧ t.time.inRun = 0)) ∧
    (∀ m v, s.regDenied m 0x60020 true = none → s.servoWriter m = true →
      ∃ t, Runs (.adjWrite m v) s t ∧ t.rd 0x60020 = i32 (clampAdj v.toInt) ∧
        (s.time.pendStep = none → t.time = (((s.timeEdges 2).wr 0x60020 (i32 (clampAdj v.toInt))).timeEdges 1).time) ∧
        (t.rd 0x60020 ≠ v → t.bit 0x60004 4 = true)) ∧
    (s.timeState = 2 → s.time.ptp.refsrc ≠ 0 → ∃ t, Runs .lockLost s t ∧ t.timeState = 1 ∧ t.bit 0x60004 3 = false) ∧
    (s.timeState = 2 → s.time.ptp.refsrc ≠ 0 → ∃ t, Runs .holdover s t ∧ t.timeState = 2 ∧ t.bit 0x60004 3 = true) ∧
    (s.timeState ≠ 2 → Runs .lockLost s s ∧ Runs .holdover s s)

/-- R287, R310 to R313: a read of TIME_NOW_LO captures all 96 bits for its reader; PPS and the TEVT pins stamp, compare and
queue. -/
def Sys2Proof.Claims.TimeEventsAreStamped : Prop :=
  ∀ (s : State),
    (∀ m, s.regDenied m 0x60010 false = none → let u := s.timeEdges 2
      ∃ t, Runs (.timeNowCapture m) s t ∧ t.bus.data = leBytes 4 (lo32 u.time.ns).toNat ∧
        kfind t.halves.shadows (halfKey 0x60014 (masterId m)) = none ∧ t.rd (bankKey 0x60014 (masterId m)) = hi32 u.time.ns ∧
        t.rd (bankKey 0x60018 (masterId m)) = u.time.frac ∧ t.time = u.time) ∧
    (∀ at_, let u := s.reach at_
      ∃ t, Runs (.ppsInEdge at_) s t ∧ t.rd64 0x60070 = u.time.ns - 12 ∧ t.rd 0x60078 = u.time.frac ∧
        t.rd 0x6007C = u.rd 0x6007C + 1 ∧ t.bit 0x60004 7 = false ∧ t.time.ppsInAt = (u.now : Int)) ∧
    (∃ t, Runs .ppsInLoss s t ∧ t.bit 0x60004 7 = true ∧ t.rd 0x6007C = s.rd 0x6007C) ∧
    (∀ at_, let u := s.reach at_
      let mode := u.fld 0x60060 1 0
      let rises := u.firstEdgeOf at_ = true ∧ ((at_ : Int) - (u.rd 0x60068).toInt) % 1000000000 = 0 ∧
        (mode = 1 ∨ (mode = 2 ∧ u.timeState = 2))
      (rises → ∃ t, Runs (.ppsOutPulse at_) s t ∧
        t.time.ppsOut = some (((u.timeEdges 2).now : Int) + (u.rd 0x60064).toNat * 1000)) ∧
      (¬ rises → Runs (.ppsOutPulse at_) s u)) ∧
    (∀ (p : Byte) (r : Bool) at_, p.toNat < 4 → let u := s.reach at_
      let mode := u.fld (tpReg p.toNat 0x200) 2 0
      let takes := mode = 3 ∨ (mode = 1 ∧ r = true) ∨ (mode = 2 ∧ r = false)
      (takes → (kget [] u.time.fifo p.toNat).length < 16 →
        ∃ t, Runs (.tevtCapture p r at_) s t ∧ kget [] t.time.fifo p.toNat = kget [] u.time.fifo p.toNat ++ [u.time.ns - 12] ∧
          t.fld (tpReg p.toNat 0x21C) 4 0 = (kget [] u.time.fifo p.toNat).length + 1) ∧
      (takes → 16 ≤ (kget [] u.time.fifo p.toNat).length →
        ∃ t, Runs (.tevtCapture p r at_) s t ∧ t.time = u.time ∧ t.bit (tpReg p.toNat 0x21C) 8 = true) ∧
      (¬ takes → Runs (.tevtCapture p r at_) s u)) ∧
    (∀ (p : Byte) at_, p.toNat < 4 → let u := s.reach (s.compareAt p.toNat at_)
      (u.compareDue p.toNat at_ = true →
        ∃ t, Runs (.tevtCompare p at_) s t ∧
          kfind t.time.evOut p.toNat = some (((u.timeEdges 2).now : Int) + (u.rd (tpReg p.toNat 0x20C)).toNat) ∧
          (u.fld (tpReg p.toNat 0x200) 2 0 = 4 → t.time.armed.getLsbD p.toNat = false)) ∧
      (u.compareDue p.toNat at_ = false → Runs (.tevtCompare p at_) s u)) ∧
    (∀ m (p : Byte) v, p.toNat < 4 → s.regDenied m (tpReg p.toNat 0x208) true = none → eventWriter m = true →
      ∃ t, Runs (.tevtArm m p v) s t ∧ t.rd (tpReg p.toNat 0x208) = v ∧ t.time.armed.getLsbD p.toNat = true) ∧
    (∀ m (p : Byte) v, s.regDenied m (tpReg p.toNat 0x208) true = none → eventWriter m = false → Runs (.tevtArm m p v) s s) ∧
    (∀ m (p : Byte) v rest, p.toNat < 4 → s.regDenied m (0x60214 + 0x20 * p.toNat) false = none → kget [] s.time.fifo p.toNat = v :: rest →
      ∃ t, Runs (.tevtFifoRead m p) s t ∧ t.bus.data = leBytes 4 (lo32 v).toNat ∧ kget [] t.time.fifo p.toNat = rest ∧
        kfind t.halves.shadows (halfKey (tpReg p.toNat 0x218) (masterId m)) = none ∧
        t.rd (bankKey (tpReg p.toNat 0x218) (masterId m)) = hi32 v)

/-! ### The switch, MACsec and the UARTs (11) -/

/-- R348, R350, R352, R357 to R360, R362: a NET command whose operands and buffer pass their checks puts in force what it
names. A port's new configuration drops a link that is up. -/
def Sys2Proof.Claims.NetworkIsConfigured : Prop :=
  ∀ (s : State) (i : Issue),
    (∀ (p : Byte) (buf : Buf), s.admits { op := 0x0901, plen := 9 } i → s.bufOk i.host false buf = true → p.toNat ≤ 3 →
      portStatus p.toNat (s.rdBuf buf) = eOk → (p.toNat = 3 → s.paired = false) →
      s.bit aDomBusy (0x10 + p.toNat) = false →
      Runs (.netPortConfig i p buf) s ((s.setPortCfg p.toNat (portOf (s.rdBuf buf))).done i eOk)) ∧
    (∀ p c, p ≤ 3 → (s.setPortCfg p c).portCfg p = c ∧ (s.setPortCfg p c).linkUp p = false) ∧
    (∀ (p : Byte) (buf : Buf), s.admits { op := 0x0901, plen := 9 } i → s.bufOk i.host false buf = true → p.toNat = 4 →
      s.cpuPortStatus (s.rdBuf buf) = eOk → Runs (.netPortConfig i p buf) s ((s.setCpuPort (s.rdBuf buf)).done i eOk)) ∧
    (∀ p : Byte, s.admits { op := 0x0902, plen := 1 } i → p.toNat ≤ 3 →
      Runs (.netPortStatus i p) s (s.complete i eOk (s.rd (pReg p.toNat 0x104)) (s.rd (pReg p.toNat 0x108))
        (s.rd (pReg p.toNat 0x110) + s.rd (pReg p.toNat 0x114) + s.rd (pReg p.toNat 0x124) + s.rd (pReg p.toNat 0x128)))) ∧
    (∀ a : W16, s.admits { op := 0x0903, plen := 2 } i → 1 ≤ a.toNat → a.toNat ≤ 16382 → s.driftBusy = false →
      Runs (.netAddrSet i a) s (((s.wr 0x80008 (w32 a.toNat)).setConf fun c => { c with address := a }).done i eOk)) ∧
    (∀ (p : Byte) (buf : Buf), s.admits { op := 0x0904, plen := 9 } i → p.toNat ≤ 4 → s.bufOk i.host false buf = true →
      vlanBytesOk (s.rdBuf buf) = true → (s.vidsWith p.toNat (vlansOf (s.rdBuf buf))).length ≤ 64 →
      Runs (.netVlanSet i p buf) s
        (({ s with port := { s.port with vlans := kset s.port.vlans p.toNat (vlansOf (s.rdBuf buf)) } } : State).done i eOk)) ∧
    (∀ (p d an slot : Byte) (pn : W64), s.admits { op := 0x0905, plen := 12 } i → p.toNat ≤ 3 → d.toNat ≤ 1 → an.toNat ≤ 3 →
      slot.toNat ≤ 127 → s.slotValid slot.toNat = true → (s.slot slot.toNat).usage = 0x02 → (s.portCfg p.toNat).required = true →
      pn ≠ 0 → pn.toNat ≤ pnMax (s.portCfg p.toNat).xpn →
      ∃ t, Runs (.netMacsecSa i p d an slot pn) s t ∧ t.port.sas =
        s.port.sas.filter (fun b => !(b.port == p.toNat && b.dir == d.toNat && (d.toNat == 0 || b.an == an.toNat))) ++
          [⟨p.toNat, d.toNat, an.toNat, slot.toNat, pn.toNat, false⟩] ∧
        (d = 0 → t.bit (pReg p.toNat 0x104) 4 = true ∧ t.fld (pReg p.toNat 0x12C) 1 0 = an.toNat ∧ t.rd64 (pReg p.toNat 0x130) = pn) ∧
        t.mb.last = some ⟨i.src, i.tag, eOk, 0, 0, 0⟩) ∧
    (∀ (p q : Byte) (buf : Buf), s.admits { op := 0x0906, plen := 10 } i → p.toNat ≤ 3 → q.toNat ≤ 7 → s.bufOk i.host false buf = true →
      gateOk (s.rdBuf buf) = true → let g := gateOf (s.rdBuf buf)
      Runs (.netQueueConfig i p q buf) s (({ s with port := { s.port with
        gatesNext := kset s.port.gatesNext (p.toNat * 8 + q.toNat) (gateStart g s.now, g) } } : State).done i eOk)) ∧
    (∀ (u : Byte) (buf : Buf) (c : UartCfg), s.admits { op := 0x0907, plen := 9 } i → u.toNat ≤ 3 → s.bufOk i.host false buf = true →
      i.env.uart = some c → uartOk c = true → c.timeout ≤ 2000 →
      Runs (.netUartConfig i u buf) s (({ s with port := { s.port with uarts := kset s.port.uarts u.toNat c } } : State).done i eOk))

/-- NET_FRAME_SEND and the CPU port's descriptors (R346, R361, R362): a frame that no gate refuses stands last in its queue, and the
command completes at its launch; a UART request begins its transaction at its launch time; the ring's descriptors are taken up to the tail. -/
def Sys2Proof.Claims.FramesAreHandedOver : Prop :=
  ∀ (s : State),
    (∀ (i : Issue) (p q : Byte) (l : W64) (buf : Buf), let b := s.rdBuf buf
      s.admits { op := 0x0908, plen := 18, frozenNo := true, async := true } i → p.toNat ≤ 3 → q.toNat ≤ 7 → 14 ≤ b.length →
      s.bufOk i.host false buf = true → l.toNat ≤ s.now + 16000000000 → (isCmdFrame b = true → s.standby = false ∧ s.persMismatch = false) →
      (isField b = true → s.address ≠ 0) → s.linkUp p.toNat = true → s.pairBars p.toNat b = false →
      driftStops (s.portCfg p.toNat) p.toNat b = false → s.hasRoom p.toNat q.toNat b.length = true →
      ∃ t o, Runs (.netFrameSend i p q l buf) s t ∧ t.queue p.toNat q.toNat =
        s.queue p.toNat q.toNat ++ [{ bytes := b, launch := l.toNat, origin := .command s.mb.serial }] ∧
        t.mb.outstanding = s.mb.outstanding ++ [o] ∧ o.iss = i ∧ o.id = s.mb.serial ∧ t.mem = s.mem) ∧
    (∀ (i : Issue) (p : Byte) (l : W64) (buf : Buf),
      s.admits { op := 0x0908, plen := 18, frozenNo := true, async := true } i → 5 ≤ p.toNat → p.toNat ≤ 8 →
      s.bufOk i.host false buf = true → s.bufOk i.host true buf = true → l.toNat ≤ s.now + 16000000000 →
      kfind s.port.utx (p.toNat - 5) = none →
      ∃ t, Runs (.netFrameSend i p 0 l buf) s t ∧ t.mem = s.mem ∧ t.bit (0x80600 + 0x20 * (p.toNat - 5)) 1 = true ∧
        kfind t.port.utx (p.toNat - 5) = some ⟨some s.mb.serial, s.winAddr buf.off, buf.len.toNat, buf.len.toNat, l.toNat, s.now⟩) ∧
    (∀ m v, s.regDenied m 0x8001C true = none → netWriter m = false → Runs (.txTailWrite m v) s s) ∧
    (∀ m (v : W32), s.regDenied m 0x8001C true = none → netWriter m = true → let u := s.setFld 0x8001C 7 0 v.toNat
      (s.port.txIdx = v.toNat % 256 → Runs (.txTailWrite m v) s u) ∧
      (s.port.txIdx ≠ v.toNat % 256 → let t := u.txDescriptor s.port.txIdx
        (t.port.txIdx + 1) % 256 = t.fld 0x8001C 7 0 →
        Runs (.txTailWrite m v) s { t with port := { t.port with txIdx := (t.port.txIdx + 1) % 256 } }))

/-- R305, R337 to R341, R343, R347, R350, R351: a port starts the eligible head of its highest queue; a received frame that
passes the checks is counted, its source learned, and a group frame queued at each egress port; a bad one is counted and
goes nowhere; cut-through sends at once, or counts an abort. -/
def Sys2Proof.Claims.FramesPassTheSwitch : Prop :=
  ∀ (s : State),
    (∀ (p : Byte) b iv st fr, let t0 := s.internalOf p.toNat b
      let v := (s.reach t0).applyGates
      let u := (List.range 8).foldl (fun x q => x.dropLate p.toNat q b 64) v
      ((3 < p.toNat ∨ v.linkUp p.toNat = false ∨ v.boundaryIs p.toNat b iv st fr = false) → Runs (.frameLaunch p b iv st fr) s v) ∧
      (p.toNat ≤ 3 → v.linkUp p.toNat = true → v.boundaryIs p.toNat b iv st fr = true →
        (u.idleAt p.toNat b = false ∨ u.nextFrame p.toNat t0 b = none) → Runs (.frameLaunch p b iv st fr) s u) ∧
      (∀ q f, p.toNat ≤ 2 → v.linkUp p.toNat = true → v.boundaryIs p.toNat b iv st fr = true → u.idleAt p.toNat b = true → u.nextFrame p.toNat t0 b = some (q, f) →
        f.origin = .own → f.oneStep = false → f.residence = none → f.bytes.length ≤ 1518 → (u.portCfg p.toNat).required = false →
        u.driftWaiting p.toNat = [] →
        ∃ t, Runs (.frameLaunch p b iv st fr) s t ∧ t.rd (pReg p.toNat 0x10C) = u.rd (pReg p.toNat 0x10C) + 1 ∧
          kfind t.port.lastTx p.toNat = some f.bytes ∧ kfind t.port.lastWire p.toNat = some (u.onWire none f.bytes) ∧ t.queue p.toNat q = (u.queue p.toNat q).drop 1 ∧
          kget 0 t.port.busy p.toNat = b + u.wireBytes p.toNat f.bytes * u.byteNs p.toNat ∧ t.mem = u.mem)) ∧
    (∀ (p : Byte) (f : RxFrame), let u := s.reach f.at_
      ((3 < p.toNat ∨ u.switching = false) → Runs (.frameReceive p f) s u) ∧
      (p.toNat ≤ 3 → u.switching = true →
        (u.abortCause p.toNat f = 4 →
          ∃ t, Runs (.frameReceive p f) s t ∧ t.rd (pReg p.toNat 0x114) = u.rd (pReg p.toNat 0x114) + 1 ∧ t.port = u.port) ∧
        ((u.abortCause p.toNat f = 1 ∨ u.abortCause p.toNat f = 3) →
          ∃ t, Runs (.frameReceive p f) s t ∧ t.rd (pReg p.toNat 0x110) = u.rd (pReg p.toNat 0x110) + 1 ∧ t.port = u.port) ∧
        (u.abortCause p.toNat f = 2 →
          ∃ t, Runs (.frameReceive p f) s t ∧ t.rd (pReg p.toNat 0x128) = u.rd (pReg p.toNat 0x128) + 1 ∧ t.port = u.port) ∧
        (u.abortCause p.toNat f = 0 → u.pairBars p.toNat f.bytes = false → (∀ q, q ≤ 3 → (u.portCfg q).defQ ≤ 7) →
          ∃ t, Runs (.frameReceive p f) s t ∧ t.rd (pReg p.toNat 0x108) = u.rd (pReg p.toNat 0x108) + 1 ∧
            (etherType f.bytes ≠ 0x8808 → isField f.bytes = false → u.port.addr.length < 1024 →
              (⟨beNat (sliceB f.bytes 6 6), p.toNat, u.now⟩ : MacEntry) ∈ t.port.addr) ∧
            (∀ q untag, q ≤ 3 → q ≠ p.toNat → 2 ≤ q → (u.portCfg p.toNat).fwd.getLsbD q = true → isGroup f.bytes = true →
              etherType f.bytes ≠ 0x8808 → etherType f.bytes ≠ 0x88F7 → isField f.bytes = false → linkLocal f.bytes = false →
              tagLen f.bytes = 0 → u.vlanOk p.toNat f.bytes = true → u.member q (u.vidOn p.toNat f.bytes) = some untag →
              u.linkUp q = true → u.pairBars q (retag f.bytes (u.vidOn p.toNat f.bytes) untag) = false →
              u.hasRoom q (u.portCfg q).defQ (retag f.bytes (u.vidOn p.toNat f.bytes) untag).length = true →
              t.queue q (u.portCfg q).defQ = u.queue q (u.portCfg q).defQ ++
                [{ bytes := retag f.bytes (u.vidOn p.toNat f.bytes) untag, origin := .forwarded }])))) ∧
    (∀ (p : Byte) (f : RxFrame), let u := s.reach f.at_
      (u.cutsThrough p.toNat f = false → Runs (.cutThrough p f) s u) ∧
      (u.cutsThrough p.toNat f = true → u.linkUp (1 - p.toNat) = true → u.abortCause p.toNat f ≠ 0 →
        (((u.portCfg (1 - p.toNat)).required = false → u.tcOn = false →
          ∃ t, Runs (.cutThrough p f) s t ∧ t.rd (pReg p.toNat 0x120) = u.rd (pReg p.toNat 0x120) + 1 ∧
            kfind t.port.lastWire (1 - p.toNat) = some (badFcs (u.onWire none f.bytes)) ∧
            t.port = { u.port with busy := t.port.busy, aborted := t.port.aborted, lastWire := t.port.lastWire }) ∧
        ((u.portCfg (1 - p.toNat)).required = true → u.txSa (1 - p.toNat) = none →
          ∃ t, Runs (.cutThrough p f) s t ∧ t.rd (pReg (1 - p.toNat) 0x128) = u.rd (pReg (1 - p.toNat) 0x128) + 1 ∧
            t.port = u.port))) ∧
      (u.cutsThrough p.toNat f = true → u.linkUp (1 - p.toNat) = false →
        ∃ t, Runs (.cutThrough p f) s t ∧ t.rd (pReg (1 - p.toNat) 0x124) = u.rd (pReg (1 - p.toNat) 0x124) + 1 ∧ t.mem = s.mem) ∧
      (u.cutsThrough p.toNat f = true → u.linkUp (1 - p.toNat) = true → u.abortCause p.toNat f = 0 → u.tcOn = false →
        (u.portCfg (1 - p.toNat)).required = false → f.bytes.length ≤ 1518 →
        ∃ t, Runs (.cutThrough p f) s t ∧ t.rd (pReg (1 - p.toNat) 0x10C) = u.rd (pReg (1 - p.toNat) 0x10C) + 1 ∧
          kfind t.port.lastTx (1 - p.toNat) = some f.bytes ∧
          kfind t.port.lastWire (1 - p.toNat) = some (u.onWire none f.bytes) ∧ t.mem = s.mem))

/-- R335, R336, R339, R361: a link that comes up or goes down shows in PORT_Pp_STAT; addresses age; a UART transaction begins,
or waits its turn, and its end is shown and frees the UART for the next. -/
def Sys2Proof.Claims.LinksAndUartsRespond : Prop :=
  ∀ (s : State),
    (∀ (p v : Byte), (3 < p.toNat ∨ s.subOn (0x10 + p.toNat) = false ∨ s.bit aDomBusy (0x10 + p.toNat) = true ∨
      s.speedOk p.toNat v.toNat = false) → Runs (.linkUp p v) s s) ∧
    (∀ (p v : Byte), p.toNat ≤ 2 → s.subOn (0x10 + p.toNat) = true → s.bit aDomBusy (0x10 + p.toNat) = false →
      s.speedOk p.toNat v.toNat = true →
      ∃ t, Runs (.linkUp p v) s t ∧ t.linkUp p.toNat = true ∧ t.fld (pReg p.toNat 0x104) 3 1 = v.toNat % 8 ∧
        t.bit (pReg p.toNat 0x104) 5 = true ∧ t.port = s.port ∧ t.mem = s.mem) ∧
    (∀ (v : Byte), s.subOn 0x13 = true → s.bit aDomBusy 0x13 = false → s.speedOk 3 v.toNat = true → ∃ t, Runs (.linkUp 3 v) s t ∧ t.linkUp 3 = true ∧ t.mem = s.mem) ∧
    (∀ p : Byte, p.toNat ≤ 3 → s.linkUp p.toNat = true →
      ∃ t, Runs (.linkDown p) s t ∧ t.linkUp p.toNat = false ∧ t.bit (pReg p.toNat 0x104) 5 = true) ∧
    (∀ p : Byte, (3 < p.toNat ∨ s.linkUp p.toNat = false) → Runs (.linkDown p) s s) ∧
    (∀ at_, let u := s.reach at_
      Runs (.addressTableAgeOut at_) s
        { u with port := { u.port with addr := u.port.addr.filter fun e => decide (u.now < e.seen + 300000000000) } }) ∧
    (∀ m (k : Byte), (3 < k.toNat ∨ (s.regDenied m (0x80600 + 0x20 * k.toNat) true = none ∧ uartWriter m = false)) → Runs (.uartGo m k) s s) ∧
    (∀ m (k : Byte), k.toNat ≤ 3 → s.regDenied m (0x80600 + 0x20 * k.toNat) true = none → uartWriter m = true →
      let x : UartTx := ⟨none, (s.rd (0x80604 + 0x20 * k.toNat)).toNat, s.fld (0x80608 + 0x20 * k.toNat) 15 0, 
        s.fld (0x80608 + 0x20 * k.toNat) 31 16, 0, s.now⟩
      ∃ t, Runs (.uartGo m k) s t ∧ t.bit (0x80600 + 0x20 * k.toNat) 1 = true ∧ t.bit (0x80600 + 0x20 * k.toNat) 2 = false ∧
        (kfind s.port.utx k.toNat = none → kfind t.port.utx k.toNat = some x) ∧
        (kfind s.port.utx k.toNat ≠ none → t.port.utx = s.port.utx ∧ kget [] t.port.uwait k.toNat = kget [] s.port.uwait k.toNat ++ [x])) ∧
    (∀ (k r : Byte) d st, kfind s.port.utx k.toNat = none → Runs (.uartResponse k r d st) s s) ∧
    (∀ (k r : Byte) d st x, kfind s.port.utx k.toNat = some x → st < x.launch → Runs (.uartResponse k r d st) s s) ∧
    (∀ (k r : Byte) d st x, kfind s.port.utx k.toNat = some x → x.launch ≤ st →
      let e : Byte := if r = 0 && !(s.uartCfg k.toNat).generic && !mbusOk d then 2 else r
      ∃ t, Runs (.uartResponse k r d st) s t ∧
        kfind t.port.utx k.toNat = (kget [] s.port.uwait k.toNat).head?.map (fun y => { y with since := s.now }) ∧
        (x.command = none → t.bit (0x80600 + 0x20 * k.toNat) 2 = true ∧ t.fld (0x80600 + 0x20 * k.toNat) 5 4 = e.toNat % 4 ∧
          t.rd (0x8060C + 0x20 * k.toNat) = w32 (if e = 0 then (d.take x.room).length else 0) ∧
          (kget [] s.port.uwait k.toNat = [] → t.bit (0x80600 + 0x20 * k.toNat) 1 = false)))

/-! ### The pair (12) -/

/-- The unit lost its voice or its sync: UNSYNCED, or RESYNC where AUTO_RESYNC asks for it at once (R384). -/
def Sys2Proof.Machine.State.unsynced (s : State) : Prop := (s.pairState = 4 ∨ s.pairState = 5) ∧ s.bit aIl 0 = false

/-- R363, R367, R377, R382 to R384, R387: PAIR commands store a configuration, report, set a region, begin a swap or a resync. -/
def Sys2Proof.Claims.PairCommandsTakeEffect : Prop :=
  ∀ (s : State) (i : Issue),
    (∀ (buf : Buf) r, let b := s.rdBuf buf
      s.admits { op := 0x0A01, plen := 8 } i → s.bufOk i.host false buf = true → leAt b 0 2 = 1 → pairCfgOk b = true →
      s.pairState ≠ 5 → s.pairState ≠ 6 → s.cfg = some r →
      ∃ t, Runs (.pairConfig i buf) s t ∧ t.cfg = some { r with pair := pairCfgOf b } ∧
        t.pair.cfg = PairCfg.inForce s.pair.cfg (pairCfgOf b) ∧ t.pairState = s.pairState ∧
        ((b.getD 7 0).getLsbD 2 = true → ∀ g < 16, t.rd (0x90040 + 4 * g) = 0) ∧ t.mb.last = some ⟨i.src, i.tag, eOk, 0, 0, 0⟩) ∧
    (s.admits { op := 0x0A02, plen := 0 } i →
      Runs (.pairStatus i) s (s.complete i eOk (s.rd aPairState) (s.rd aClaim) (s.rd aPClaim))) ∧
    (∀ (k : Byte) (b l : W32), let u := (s.wr (0x90100 + 8 * k.toNat) b).wr (0x90104 + 8 * k.toNat) l
      s.admits { op := 0x0A03, plen := 9 } i → s.regionOk k.toNat b.toNat l.toNat = true →
      s.pairState ≠ 3 → s.pairState ≠ 4 → s.pairState ≠ 5 → u.regionTotal 0 64 ≤ 0x800000 → u.regionTotal 64 16 ≤ 0x400000 →
      ∃ t, Runs (.pairMirrorSet i k b l) s t ∧ t.region k.toNat = (b.toNat, l.toNat) ∧
        (∀ j < 80, j ≠ k.toNat → t.region j = s.region j) ∧
        (k.toNat < 64 → ∀ x ∈ linesOf b.toNat l.toNat, x ∈ t.pair.dirty) ∧ t.mb.last = some ⟨i.src, i.tag, eOk, 0, 0, 0⟩) ∧
    (s.admits { op := 0x0A04, plen := 0, frozenNo := true, async := true } i → s.standby = false → s.pairState = 2 → s.pairLink = true →
      s.swapOk = true →
      ∃ t o, Runs (.pairSwap i) s t ∧ t.pairState = 6 ∧ t.bit aIl 0 = false ∧ t.pair.swapCmd = some s.mb.serial ∧
        t.pair.oldClaim = s.rd aClaim ∧ t.mb.outstanding = s.mb.outstanding ++ [o] ∧ o.iss = i ∧ o.id = s.mb.serial) ∧
    (s.admits { op := 0x0A05, plen := 0, async := true } i → s.pairState = 4 → s.pairLink = true →
      ∃ t o, Runs (.pairResync i) s t ∧ t.pairState = 5 ∧ t.pair.rsFirst = true ∧ t.mb.outstanding = s.mb.outstanding ++ [o] ∧ o.iss = i)

/-- R373: a heartbeat goes out at a whole millisecond while the unit is alive; a valid one is taken down; half a millisecond
later its absence is checked. R371, R372, R374, R375:
what it changes by the unit's state, and what its absence does. -/
def Sys2Proof.Claims.HeartbeatsDecideTheVoice : Prop :=
  ∀ (s : State),
    (∀ at_, let u := s.reach at_
      ((at_ % 1000000 ≠ 0 ∨ u.pair.alive = false ∨ u.pair.pfail = true ∨ u.paired = false) → Runs (.heartbeatLaunch at_) s u) ∧
      (at_ % 1000000 = 0 → u.pair.alive = true → u.pair.pfail = false → u.paired = true → u.address ≠ 0 → u.linkUp 3 = true →
        u.hasRoom 3 7 54 = true →
        ∃ t f, Runs (.heartbeatLaunch at_) s t ∧ t.queue 3 7 = u.queue 3 7 ++ [f] ∧ f.launch = at_ ∧ f.origin = .own ∧
          subtypeOf f.bytes = 0x40 ∧ t.pair.hbSeq = (u.pair.hbSeq + 1) % 65536)) ∧
    (∀ (h : FrameHeader) (b : HeartbeatBody), (s.reach h.at_).carried h → (s.reach h.at_).accepts h false = .ok → let u := s.reach h.at_
      (u.hbValid h b = false → Runs (.heartbeat h b) s u) ∧
      (u.hbValid h b = true → ∃ t, Runs (.heartbeat h b) s t ∧ t.rd aPClaim = h.claim ∧ t.pair.rxSeq = some b.hbseq ∧
        t.pair.pState = b.state.toNat ∧ t.pair.seen = true ∧ t.fld aHbMiss 2 0 = 0 ∧
        (u.pairState = 1 → (b.state = 2 ∨ u.ilIn = true) → t.unsynced) ∧
        (u.pairState = 1 → b.state ≠ 2 → u.ilIn = false → fldOf h.claim 7 0 = u.pair.cfg.unitId.toNat → t.pairState = 8) ∧
        (u.pairState = 2 → b.state = 2 → (u.rd aClaim).toNat < h.claim.toNat → t.unsynced) ∧
        (u.pairState = 3 → b.flags.getLsbD 7 = false → b.state = 2 → b.flags.getLsbD 1 = false → t.unsynced) ∧
        (u.pairState = 6 → b.state = 2 → (u.rd aClaim).toNat < h.claim.toNat → t.pairState = 3 ∧ t.bit aIl 0 = false ∧ t.pair.swapCmd = none))) ∧
    (∀ at_, let u := s.reach at_
      let n := u.fld aHbMiss 2 0 + 1
      ((u.paired = false ∨ at_ % 1000000 ≠ 500000) → Runs (.heartbeatCheck at_) s u) ∧
      (u.paired = true → at_ % 1000000 = 500000 → u.pair.seen = true → Runs (.heartbeatCheck at_) s { u with pair := { u.pair with seen := false } }) ∧
      (u.paired = true → at_ % 1000000 = 500000 → u.pair.seen = false →
        ∃ t, Runs (.heartbeatCheck at_) s t ∧ t.fld aHbMiss 2 0 = min 7 n ∧ t.fld aHbMiss 31 16 = min 0xFFFF (u.fld aHbMiss 31 16 + 1) ∧
          (5 ≤ n → (u.pairState = 3 ∨ u.pairState = 4 ∨ u.pairState = 5) → u.ilIn = true → t.pair.loss = true ∧ t.pairState = u.pairState) ∧
          (5 ≤ n → u.pairState = 2 → t.pairState = 2 ∧ t.bit aPairState 9 = true) ∧
          (5 ≤ n → u.pairState = 3 → u.pair.loss = false → u.ilIn = true → t.bit aPairState 10 = true) ∧
          (5 ≤ n → u.pairState = 3 → u.ilIn = false → u.pair.alive = true → u.frozen = false → u.topEpoch < 0xFFFFFF →
            t.pairState = 2 ∧ t.rd aEpoch = w32 (u.topEpoch + 1) ∧ t.bit aIl 0 = true)))

/-- R364, R370 to R372, R374, R386: what the interlock line, the start wait, ALIVE and the feeds change. -/
def Sys2Proof.Claims.LinesAndWaitsDecide : Prop :=
  ∀ (s : State),
    (∀ l, ∃ t, Runs (.pairIlChange l) s t ∧ t.bit aIl 1 = l ∧ (l = true → s.pairState = 1 → t.unsynced) ∧
      (l = true → s.pairState ≠ 1 → s.ilIn = true → t = s) ∧
      (l = true → s.pairState ≠ 1 → s.ilIn = false → t = { s.setBit aIl 1 true with pair := { s.pair with ilSince := s.now } }) ∧
      (l = false → s.pairState = 3 → s.pair.loss = true → s.pair.alive = true → s.frozen = false → s.topEpoch < 0xFFFFFF →
        t.pairState = 2 ∧ t.rd aEpoch = w32 (s.topEpoch + 1))) ∧
    (∀ e, let w := s.pair.cfg.startWait * (if s.pair.cfg.primary then 1 else 2)
      ((s.pairState ≠ 1 ∨ s.ilIn = true ∨ e < w) → Runs (.startWaitExpiry e) s s) ∧
      (s.pairState = 1 → s.ilIn = false → w ≤ e → s.topEpoch < 0xFFFFFF →
        ∃ t, Runs (.startWaitExpiry e) s t ∧ t.pairState = 2 ∧ t.rd aEpoch = w32 (s.topEpoch + 1) ∧ t.bit aIl 0 = true)) ∧
    Runs .ilFault s (if s.bit aIl 0 && s.ilIn && !s.pairLink then
      (s.reachAfter (max s.pair.ilSince (max s.pair.activeSince s.pair.linkSince)) 10000000).setBit aPairState 12 true else s) ∧
    (∀ m, m ≠ .firn → s.regDenied m aPairCtrl true = none → Runs (.alive m) s s) ∧
    (s.regDenied .firn aPairCtrl true = none → s.pairState ≠ 4 →
      Runs (.alive .firn) s { s with pair := { s.pair with alive := true, aliveAt := s.now } }) ∧
    (s.regDenied .firn aPairCtrl true = none → s.pairState = 4 → ∃ t, Runs (.alive .firn) s t ∧ t.pair.alive = true ∧ (t.pairState = 4 ∨ t.pairState = 5)) ∧
    (s.pair.alive = false → Runs .aliveExpiry s s) ∧
    (s.pair.alive = true → ∃ t, Runs .aliveExpiry s t ∧ t.pair.alive = false ∧
      (s.paired = true → s.pairState < 7 → t.pairState = 4) ∧
      ((s.paired = false ∨ 7 ≤ s.pairState) → t.pairState = s.pairState)) ∧
    (∀ b : Bool, b = (s.pairState == 2 && s.ilIn && decide ((s.rd aPClaim).toNat > (s.rd aClaim).toNat)) →
      (b = false → Runs .demoted s s) ∧ (b = true → ∃ t, Runs .demoted s t ∧ t.unsynced)) ∧
    (∀ f : Byte, (1 < f.toNat ∨ s.bit aFeed f.toNat = false) → Runs (.feedLost f) s s) ∧
    (∀ f : Byte, f.toNat ≤ 1 → s.bit aFeed f.toNat = true →
      ∃ t, Runs (.feedLost f) s t ∧ t.bit aFeed f.toNat = false ∧ t.bit aFeed (4 + f.toNat) = true ∧
        t.bit aFeed (1 - f.toNat) = s.bit aFeed (1 - f.toNat) ∧ t.bit aFeed 2 = !t.bit aFeed 0 ∧
        t.bit aFeed 3 = (!t.bit aFeed 0 && !t.bit aFeed 1)) ∧
    (∀ f : Byte, f.toNat ≤ 1 →
      ∃ t, Runs (.feedOk f) s t ∧ t.bit aFeed f.toNat = true ∧ t.bit aFeed 3 = false ∧ t.pwr.pfw = false ∧ t.mem = s.mem) ∧
    (∀ f : Byte, 1 < f.toNat → Runs (.feedOk f) s s)

/-- R378, R380, R381: mirror points of the active, and what a standby makes of the frames it receives. -/
def Sys2Proof.Claims.TheMirrorFollows : Prop :=
  ∀ (s : State),
    (∀ at_, let u := (s.reach at_).wr aMbytes 0
      let n := 64 * u.pair.dirty.length
      ((s.reach at_).mirrorInstant at_ = false → Runs (.mirrorPoint at_) s (s.reach at_)) ∧
      ((s.reach at_).mirrorInstant at_ = true → (u.pairState ≠ 2 ∨ u.pair.mirrorOff = true) → Runs (.mirrorPoint at_) s u) ∧
      ((s.reach at_).mirrorInstant at_ = true → u.pairState = 2 → u.pair.mirrorOff = false → n ≤ 0x200000 →
        ∃ t, Runs (.mirrorPoint at_) s t ∧ t.rd aMseq = u.rd aMseq + 1 ∧ t.pair.dirty = [] ∧ t.rd aMbytes = w32 n ∧ t.mem = s.mem) ∧
      ((s.reach at_).mirrorInstant at_ = true → u.pairState = 2 → u.pair.mirrorOff = false → 0x200000 < n →
        ∃ t, Runs (.mirrorPoint at_) s t ∧ t.pair.mirrorOff = true ∧ t.bit aPairState 13 = true ∧ t.rd aMseq = u.rd aMseq)) ∧
    (∀ m, m ≠ .seq → m ≠ .firn → s.regDenied m 0x90034 true = none → Runs (.mirrorPointRequest m) s s) ∧
    (∀ m, let n := 64 * s.pair.dirty.length
      (m = .seq ∨ m = .firn) → s.regDenied m 0x90034 true = none → s.pairState = 2 → s.pair.mirrorOff = false → n ≤ 0x200000 → (s.rd aMbytes).toNat + n ≤ 0x800000 →
      ∃ t, Runs (.mirrorPointRequest m) s t ∧ t.rd aMseq = s.rd aMseq + 1 ∧ t.pair.dirty = [] ∧
        t.rd aMbytes = w32 ((s.rd aMbytes).toNat + n) ∧ t.mem = s.mem) ∧
    (∀ (h : FrameHeader), (s.reach h.at_).carried h → (s.reach h.at_).accepts h false = .ok → let u := s.reach h.at_
      (∀ b, (u.fromPartner h = false ∨ (u.pairState ≠ 3 ∧ u.pairState ≠ 5)) →
        Runs (.mirrorData h b) s u ∧ ∀ e, Runs (.mirrorEnd h e) s u) ∧
      (∀ b, u.fromPartner h = true → (u.pairState = 3 ∨ u.pairState = 5) →
        ∃ l, Runs (.mirrorData h b) s { u with pair := { u.pair with staged := some (b.mseq, b.flags, l ++ b.lines) } } ∧
          (∀ m f x, u.pair.staged = some (m, f, x) → l = if m = b.mseq then x else []) ∧ (u.pair.staged = none → l = [])) ∧
      (∀ (e : MirrorEndBody) f l, u.fromPartner h = true → u.pairState = 3 → u.pair.rsFirst = false → u.pair.staged = some (e.mseq, f, l) →
        e.mseq = u.rd aMseq + 1 → l.length = e.lines.toNat →
        ∃ t, Runs (.mirrorEnd h e) s t ∧ t.rd aMseq = e.mseq ∧ t.pair.staged = none ∧
          (∀ (a : W32) (bs : Bytes), l = [(a, bs)] → a.toNat + 64 ≤ 0x02000000 → bs.length = 64 →
            (∀ j < 64, u.poisoned (a.toNat + j) = false) → ∀ j < 64, t.byteAt (a.toNat + j) = bs.getD j 0)) ∧
      (∀ (e : MirrorEndBody), u.fromPartner h = true → (u.pairState = 3 ∨ u.pairState = 5) → u.pair.rsFirst = false →
        e.mseq ≠ u.rd aMseq + 1 → ∃ t, Runs (.mirrorEnd h e) s t ∧ t.unsynced ∧ t.rd aMseq = u.rd aMseq ∧ t.mem = s.mem) ∧
      (∀ r : Regions, u.fromPartner h = true → (u.pairState = 3 ∨ u.pairState = 4 ∨ u.pairState = 5) →
        ∃ t, Runs (.mirrorTable h r) s t ∧ (u.pairState = 3 → t.unsynced) ∧
          ∀ k (p : W32 × W32), k < 80 → r.entries[k]? = some p → t.region k = (p.1.toNat, p.2.toNat)) ∧
      (∀ r : Regions, (u.fromPartner h = false ∨ (u.pairState ≠ 3 ∧ u.pairState ≠ 4 ∧ u.pairState ≠ 5)) → Runs (.mirrorTable h r) s u))

/-- R382 to R384: a swap is taken when due and possible, offered, accepted, or ends in its timeout; a resync is served, ends or
times out. -/
def Sys2Proof.Claims.SwapsAndResyncsEnd : Prop :=
  ∀ (s : State),
    (∀ at_, let u := s.reach at_
      let past := (u.now : Int) - (u.pair.activeSince + (u.pair.cfg.swapH * 3600000000000 : Nat))
      let due := u.pairState = 2 ∧ u.pair.cfg.swapH ≠ 0 ∧ u.swapInstant at_ = true ∧ 0 ≤ past
      (¬ due → Runs (.swapDue at_) s u) ∧
      (due → u.swapOk = true → ∃ t, Runs (.swapDue at_) s t ∧ t.pairState = 6 ∧ t.pair.swapCmd = none ∧ t.bit aIl 0 = false) ∧
      (due → u.swapOk = false →
        ∃ t, Runs (.swapDue at_) s t ∧ t.pair.deferred = max (past.toNat / 3600000000000) u.pair.deferred ∧ t.pairState = 2 ∧
          t.mem = s.mem)) ∧
    (∀ (h : FrameHeader), (s.reach h.at_).carried h → (s.reach h.at_).accepts h false = .ok → let u := s.reach h.at_
      (∀ m c, u.fromPartner h = true → u.pairState = 3 →
        ∃ t, Runs (.swapOffer h m c) s t ∧ t.pair.oldClaim = c ∧
          (u.rd aMseq ≠ m → t.pairState = 3 ∧ t.pair.offer = some m) ∧
          (u.rd aMseq = m → u.ilIn = false → u.frozen = false → u.topEpoch < 0xFFFFFF →
            t.pairState = 2 ∧ t.rd aEpoch = w32 (u.topEpoch + 1))) ∧
      (∀ c, u.fromPartner h = true → u.pairState = 6 → (u.rd aClaim).toNat < c.toNat →
        ∃ t, Runs (.swapAccept h c) s t ∧ t.pairState = 3 ∧ t.bit aPairState 8 = true ∧ t.rd aPClaim = c ∧ t.pair.swapCmd = none) ∧
      (∀ e, u.fromPartner h = true → u.pairState = 2 →
        ∃ t, Runs (.resyncReq h e) s t ∧ t.pair.mirrorOff = false ∧ t.pair.dirty = [] ∧ t.pairState = 2 ∧ t.mem = s.mem) ∧
      (∀ m, u.fromPartner h = true → u.pairState = 5 → u.rd aMseq = m → u.pair.rsFirst = false →
        Runs (.resyncEnd h m) s { u with pair := { u.pair with rsEnd := some m } }) ∧
      (u.fromPartner h = false → (∀ m c, Runs (.swapOffer h m c) s u) ∧ (∀ c, Runs (.swapAccept h c) s u) ∧
        (∀ e, Runs (.resyncReq h e) s u) ∧ (∀ m, Runs (.resyncEnd h m) s u))) ∧
    (s.pairState = 6 → s.pair.pState = 3 → s.ilIn = false →
      ∃ t, Runs .swapTimeout s t ∧ t.pairState = 2 ∧ t.bit aIl 0 = true ∧ t.pair.swapCmd = none ∧ t.rd aClaim = s.rd aClaim) ∧
    ((s.pairState ≠ 6 ∨ s.pair.pState ≠ 3 ∨ s.ilIn = true) → (s.pairState = 6 ∨ s.pair.swapCmd = none) → Runs .swapTimeout s s) ∧
    (∀ k, s.pairState ≠ 6 → s.pair.swapCmd = some k →
      ∃ t, Runs .swapTimeout s t ∧ t.pair.swapCmd = none ∧ t.pairState = s.pairState) ∧
    (s.pairState = 5 → ∃ t, Runs .resyncTimeout s t ∧ t.unsynced) ∧
    (s.pairState ≠ 5 → (∀ o ∈ s.mb.outstanding, ∀ i, o.cmd ≠ .pairResync i) → Runs .resyncTimeout s s)

/-! ### The calendar (10) -/

/-- R322 to R326, R331 to R333: CAL commands read and set the calendar, its alarms and its trim, and start a measurement. -/
def Sys2Proof.Claims.CalendarCommandsTakeEffect : Prop :=
  ∀ (s : State) (i : Issue),
    (s.admits { op := 0x0801, plen := 0 } i → s.isHead = false → let b := (s.groupBytes 0).map fun x => x.toNat
      Runs (.calRead i) s ((s.freeShadow 0).complete i eOk (s.calW0 b) (calW1 b) 0)) ∧
    (s.admits { op := 0x0801, plen := 0 } i → s.isHead = true →
      ∃ t, Runs (.calRead i) s t ∧
        (∀ f < 7, t.rd (calReg (0x10 + 4 * f)) = w32 (fieldOf (if i.env.roll then s.nextSec else s.cal.secs) f)) ∧
        t.mb.last.map (fun c => c.status) = some eOk ∧
        (i.env.roll = false → t.rd64 0x70060 = w64 ((s.timeEdges 3).now - 12) ∧ t.rd 0x70068 = w32 s.presc ∧ t.cal = (s.timeEdges 3).cal ∧
          t.mb.last.map (fun c => c.w2) = some (lo32 (w64 ((s.timeEdges 3).now - 12))))) ∧
    (∀ (v : W64) (c : Byte) n, s.admits { op := 0x0802, plen := 9 } i → let f := byteOf v
      secsOf (f 0) (f 1) (f 2) (f 4) (f 5) (f 6) = some n → f 3 = 0 → f 7 ≤ 1 → c.toNat ≤ 1 →
      ∃ t, Runs (.calWrite i v c) s t ∧ t.mb.last = some ⟨i.src, i.tag, eOk, 0, 0, 0⟩ ∧
        (∀ p ∈ [(0x30, f 0), (0x34, f 1), (0x38, f 2), (0x40, f 4), (0x44, f 5), (0x48, f 6), (0x4C, f 7)], t.rd (calReg p.1) = w32 p.2) ∧
        (c = 0 → t.cal = s.cal) ∧
        (c = 1 → t.cal.secs = n ∧ t.calValid = true ∧ t.bit aCalStatus 1 = decide (f 7 = 1) ∧ t.bit aCalStatus 2 = false ∧
          (n < s.cal.secs → t.bit aCalStatus 3 = true))) ∧
    (∀ d : Byte, (d = 1 ∨ d = 0xFF) → s.admits { op := 0x0803, plen := 1 } i → s.shiftRefused (d == 1) i.env.roll = false →
      let base := if i.env.roll then s.nextSec else s.cal.secs
      ∃ t, Runs (.calDstShift i d) s t ∧ t.cal.secs = (if d = 1 then (base + 3600) % calSpan else base - 3600) ∧
        t.bit aCalStatus 1 = decide (d = 1) ∧ t.bit aCalStatus 2 = decide (d ≠ 1) ∧ t.mb.last = some ⟨i.src, i.tag, eOk, 0, 0, 0⟩) ∧
    (∀ (k : Byte) (v : W64) (m : Byte), s.admits { op := 0x0804, plen := 10 } i → k.toNat ≤ 1 → byteOf v 7 ≤ 1 → m.getLsbD 7 = false →
      (∀ f < 7, m.getLsbD f = false → almInRange f (byteOf v f) = true) → (m.getLsbD 4 = false → m.getLsbD 5 = false →
        ofBcd (byteOf v 4) ≤ (monthDays 0).getD (ofBcd (byteOf v 5) - 1) 0) →
      ∃ t, Runs (.calAlarmSet i k v m) s t ∧ (∀ f < 7, f ≠ 3 → t.almField k.toNat f = byteOf v f) ∧
        t.almField k.toNat 3 = byteOf v 3 % 8 ∧ (∀ f < 7, t.bit (calReg (0x88 + 16 * k.toNat)) f = m.getLsbD f) ∧
        t.bit (calReg (0x88 + 16 * k.toNat)) 8 = decide (byteOf v 7 = 1) ∧ t.bit aCalStatus (8 + k.toNat) = false ∧
        t.bit aCalStatus (10 + k.toNat) = false ∧ t.cal = s.cal) ∧
    (∀ (y : Byte) (n : W16), s.admits { op := 0x0805, plen := 3, async := true } i → y.toNat ≤ 2 → 10 ≤ n.toNat → s.calValid = true →
      s.cal.meas = none →
      ∃ t o, Runs (.calTrimMeasure i y n) s t ∧ t.cal.meas = some { id := s.mb.serial, source := y.toNat, seconds := n.toNat, lost := y.toNat != 2 && s.loop.meterBad.contains (64 * y.toNat + 22) } ∧
        t.mb.outstanding = s.mb.outstanding ++ [o] ∧ o.iss = i ∧ o.id = s.mb.serial ∧ t.regs = s.regs ∧ t.mem = s.mem) ∧
    (∀ v : W16, s.admits { op := 0x0806, plen := 2 } i → -5000 ≤ v.toInt → v.toInt ≤ 5000 →
      Runs (.calTrimSet i v) s (((s.wr 0x70050 (w32 v.toNat)).postFirn 0x0805 (i32 (BitVec.ofNat 16 (s.fld 0x70050 15 0)).toInt)
        (i32 v.toInt) (i32 s.cal.lastE)).done i eOk))

/-- R316, R318 to R321, R323, R325, R332: roll-over edges advance the calendar by one second; register requests of FIRN and the
CYC cores commit, shift and capture, and those of other masters do nothing; a group is read from one instant; a
measurement's window closes; the supply's flags are set. -/
def Sys2Proof.Claims.TheCalendarAdvances : Prop :=
  ∀ (s : State),
    (∃ t, Runs .calendarRollover s t ∧ t.cal.secs = (if s.cal.secs + 1 = calSpan then 0 else s.cal.secs + 1) ∧
      (s.cal.secs + 1 = calSpan → t.bit aCalStatus 4 = true) ∧ t.cal.began = (s.countOut.now : Int) ∧ t.cal.held = none ∧
      (s.cal.repeatAt = some s.nextSec → t.bit aCalStatus 2 = false) ∧
      (∃ k : Int, t.cal.len = (32768 - k).toNat ∧ t.cal.acc.natAbs < 10000000 ∧
        t.cal.acc = s.cal.acc + (BitVec.ofNat 16 (s.fld 0x70050 15 0)).toInt * 32768 - k * 10000000) ∧
      (s.isHead = false → ∀ f < 7, t.rd (calReg (0x10 + 4 * f)) = w32 (fieldOf s.nextSec f))) ∧
    (∀ m np, s.regDenied m 0x70004 true = some np → let u := s.denyReg m 0x70004 true np
      Runs (.calCommit m false) s u ∧ Runs (.calCapture m false) s u ∧ Runs (.dstFwd m false) s u ∧ Runs (.dstBack m false) s u) ∧
    (∀ m, s.regDenied m 0x70004 true = none → calWriter m = false →
      Runs (.calCommit m false) s s ∧ Runs (.calCapture m false) s s ∧ Runs (.dstFwd m false) s s ∧ Runs (.dstBack m false) s s) ∧
    (∀ m, s.regDenied m 0x70004 true = none → calWriter m = false → Runs (.calCommit m true) s s.rollover ∧ Runs (.calCapture m true) s s.rollover ∧
      Runs (.dstFwd m true) s s.rollover ∧ Runs (.dstBack m true) s s.rollover) ∧
    (∀ m r n, s.regDenied m 0x70004 true = none → calWriter m = true → s.calStaged = some n →
      ∃ t, Runs (.calCommit m r) s t ∧ t.cal.secs = n ∧ t.calValid = true ∧ t.bit aCalStatus 1 = s.bit 0x7004C 0 ∧
        t.bit aCalStatus 2 = false ∧ t.cal.began = (s.now : Int) ∧ t.cal.edgeAt = some (s.now : Int) ∧ (n < s.cal.secs → t.bit aCalStatus 3 = true)) ∧
    (∀ m, s.regDenied m 0x70004 true = none → calWriter m = true → s.calStaged = none → Runs (.calCommit m false) s (s.setBit aCalStatus 14 true)) ∧
    (∀ m, s.regDenied m 0x70004 true = none → calWriter m = true → s.isHead = true →
      ∃ t, Runs (.calCapture m false) s t ∧ (∀ f < 7, t.rd (calReg (0x10 + 4 * f)) = w32 (fieldOf s.cal.secs f)) ∧
        t.bit aCalStatus 12 = true ∧ t.rd64 0x70060 = w64 ((s.timeEdges 3).now - 12) ∧ t.rd 0x70068 = w32 s.presc ∧ t.cal = (s.timeEdges 3).cal) ∧
    (∀ m, s.regDenied m 0x70004 true = none → calWriter m = true → s.isHead = false → Runs (.calCapture m false) s s) ∧
    (∀ m, s.regDenied m 0x70004 true = none → calWriter m = true → s.shiftRefused true false = true → Runs (.dstFwd m false) s (s.setBit aCalStatus 13 true)) ∧
    (∀ m, s.regDenied m 0x70004 true = none → calWriter m = true → s.shiftRefused false false = true → Runs (.dstBack m false) s (s.setBit aCalStatus 13 true)) ∧
    (∀ m, s.regDenied m 0x70004 true = none → calWriter m = true → s.shiftRefused true false = false →
      ∃ t, Runs (.dstFwd m false) s t ∧ t.cal.secs = (s.cal.secs + 3600) % calSpan ∧ t.bit aCalStatus 1 = true ∧ t.bit aCalStatus 2 = false) ∧
    (∀ m, s.regDenied m 0x70004 true = none → calWriter m = true → s.shiftRefused false false = false →
      ∃ t, Runs (.dstBack m false) s t ∧ t.cal.secs = s.cal.secs - 3600 ∧ t.bit aCalStatus 1 = false ∧ t.bit aCalStatus 2 = true ∧
        t.cal.repeatAt = some s.cal.secs) ∧
    (∀ m (f : Byte), f.toNat ≤ 6 → s.regDenied m (0x70010 + 4 * f.toNat) false = none → let b := s.groupBytes (masterId m)
      ∃ t, Runs (.calGroupRead m f) s t ∧ t.bus.data = [b.getD f.toNat 0, 0, 0, 0] ∧ t.regs = s.regs ∧
        (s.isHead = false → f.toNat ≠ 6 → t.groupBytes (masterId m) = b) ∧
        (s.isHead = false → f.toNat = 6 → kfind t.cal.shadows (masterId m) = none)) ∧
    (∀ m, Runs (.shadowRelease m) s (s.freeShadow (masterId m))) ∧
    (s.cal.meas = none → Runs .trimWindowClose s s) ∧
    (∀ r, s.cal.meas = some r → r.left ≠ some 0 → Runs .trimWindowClose s s) ∧
    (∀ r, s.cal.meas = some r → r.left = some 0 → r.lost = false → let n : Int :=
        if r.source = 2 then (r.endNs : Int) - r.ns else (((r.endZc + 2 ^ 32 - r.zc) % 2 ^ 32 : Nat) : Int)
      let want : Int := if r.source = 2 then (r.seconds : Int) * 1000000000 else (r.seconds : Int) * r.fnom
      0 < n → ∃ t e, Runs .trimWindowClose s t ∧ t.cal.meas = none ∧ t.cal.lastE = e ∧
        2 * ((want - n) * 10000000 - e * n).natAbs ≤ n.natAbs) ∧
    (∃ t, Runs .oscstop s t ∧ t.calValid = false ∧ t.bit aCalStatus 5 = true ∧ t.cal.secs = s.cal.secs ∧ t.cal.newLoss = 1 ∧ t.cal.meas = none ∧
      t.cal.held ≠ none) ∧
    (∀ l, Runs (.vbatMeasure l) s (if s.bit 0x90030 0 || s.bit 0x90030 1 then s.setBit aCalStatus 7 l else s))

/-! ### Faults and FREEZE (13), outputs (18) -/

/-- R388, R391, R394: source `n` is enabled and defined; once its condition has held on an edge its STATUS bit is set, and
FREEZE with it unless the bit stood already. -/
def Sys2Proof.Machine.State.latchedBy (t s : State) (n : Nat) : Prop :=
  s.srcEnabled n = true → t.srcStatus n = true ∧ (s.srcStatus n = false → t.frozen = true)

/-- R398, R401 to R403: FAULT commands report, clear, set safe values and test sources.
Answers a next state, in the effect that its clause gives: faultStatus, faultReadAll, faultClear, faultSafeSet, faultTest. -/
def Obligations.FaultCommandsTakeEffect : Prop :=
  ∀ (s : State) (i : Issue),
    (s.admits { op := 0x0B01, plen := 0 } i →
      Runs (.faultStatus i) s (s.complete i eOk (w32 (s.fld 0xA000C 7 0 + b2n (s.bit 0xA0008 2) * 2 ^ 31))
        (w32 (b2n (s.bit 0xA0008 3) + s.fld 0xA0008 15 8 * 256)) (w32 s.assertedList.length))) ∧
    (∀ buf : Buf, s.admits { op := 0x0B02, plen := 8 } i → 72 ≤ buf.len.toNat → s.bufOk i.host true buf = true →
      Runs (.faultReadAll i buf) s ((s.wrMem (s.winAddr buf.off) s.faultRecord).complete i eOk 72 0 0)) ∧
    (s.admits { op := 0x0B03, plen := 0 } i →
      (s.frozen = false → Runs (.faultClear i) s (((s.latch (s.assertedWith i.env.rising)).done i eOk).latchedSince s i.env.boot)) ∧
      (s.frozen = true → s.assertedWith i.env.rising = [] → s.onTrial = false →
        ∃ t, Runs (.faultClear i) s t ∧ t.frozen = false ∧ (∀ g < 6, t.rd (0xA0020 + 4 * g) = 0) ∧ t.bit 0xA0008 2 = false ∧
          t.fld 0xA0008 15 8 = 0 ∧ t.bit 0xA0008 1 = s.bit 0xA0008 1 ∧ t.mb.last = some ⟨i.src, i.tag, eOk, 0, 0, 0⟩) ∧
      (s.frozen = true → s.assertedWith i.env.rising ≠ [] → s.onTrial = false →
        ∃ t, Runs (.faultClear i) s t ∧ t.frozen = true ∧ t.bit 0xA0008 5 = true ∧ t.rd 0xA001C = s.rd 0xA001C + 1 ∧
          (∀ n < 192, s.srcStatus n = true → t.srcStatus n = true) ∧ (∀ n ∈ s.assertedWith i.env.rising, t.latchedBy s n) ∧ t.mb.last = some ⟨i.src, i.tag, eState, 0, 0, 0⟩)) ∧
    (∀ (o : W16) (v : W64), s.admits { op := 0x0B04, plen := 10 } i → safeOk o.toNat v = true →
      ∃ t, Runs (.faultSafeSet i o v) s t ∧ (o.toNat < 24 → t.safeGpio o.toNat = v.toNat) ∧
        (0x100 ≤ o.toNat → o.toNat < 0x110 → t.safePwm (o.toNat - 0x100) = v) ∧
        (0x200 ≤ o.toNat → t.bit 0xA0108 (o.toNat - 0x200) = decide (v.toNat = 1)) ∧
        (∀ r, s.cfg = some r → t.cfg = some { r with safe := putAssoc r.safe o.toNat v }) ∧
        t.mb.last = some ⟨i.src, i.tag, eOk, 0, 0, 0⟩) ∧
    (∀ n : Byte, s.admits { op := 0x0B05, plen := 1 } i → sourceDefined n.toNat = true → s.conf.testAllow = true → s.fld 0x90008 3 0 ≠ 2 →
      Runs (.faultTest i n) s (((s.faultTest n.toNat).done i eOk).latchedSince s i.env.boot) ∧
      (s.onTrial = false → ∃ t, Runs (.faultTest i n) s t ∧ t.bit 0xA0008 4 = true ∧ t.latchedBy s n.toNat ∧ t.mb.last = some ⟨i.src, i.tag, eOk, 0, 0, 0⟩))

/-- R388 to R393, R399, R401, R402, R508: conditions of an edge are latched, the first is kept with its time, user bits, fault
inputs and Firn's requests work by register; a PWM period takes its duty; a source's condition ends.
Answers a next state, in the effect that its clause gives: faultCondition, faultUserWrite, faultCtrlClear, faultTestreqGo,
faultInput, sourceReleased, pwmPeriodStart. -/
def Obligations.FaultsAreLatched : Prop :=
  ∀ (s : State),
    (∀ c : Sources, let m : Sources := 0x3#192 <<< 33
      let u := { s with fault := { s.fault with live := (s.fault.live &&& ~~~m) ||| (c &&& m) } }
      (u.assertedWith c = [] → Runs (.faultCondition c) s u) ∧
      Runs (.faultCondition c) s ((u.latch (u.assertedWith c)).latchedSince s {}) ∧
      (s.onTrial = false → ∃ t, Runs (.faultCondition c) s t ∧ (∀ n < 192, c.getLsbD n = true → t.latchedBy s n) ∧
        (∀ n, u.assertedWith c = [n] → s.srcStatus n = false → s.bit 0xA0008 2 = false →
          t.fld 0xA000C 7 0 = n ∧ t.rd64 0xA0010 = s.time.ns ∧ t.bit 0xA0008 2 = true ∧ t.rd 0xA0018 = s.rd 0xA0018 + 1))) ∧
    (∀ m (k : Byte) (v : W32), 1 < k.toNat → Runs (.faultUserWrite m k v) s s) ∧
    (∀ m (k : Byte) (v : W32), k.toNat ≤ 1 → s.regDenied m (0xA0080 + 4 * k.toNat) true = none → userWriter m = false →
      Runs (.faultUserWrite m k v) s s) ∧
    (∀ m (k : Byte) (v : W32), k.toNat ≤ 1 → s.regDenied m (0xA0080 + 4 * k.toNat) true = none → userWriter m = true →
      ∃ t, Runs (.faultUserWrite m k v) s t ∧ t.rd (0xA0080 + 4 * k.toNat) = v ∧
        (∀ b < 32, t.asserted (128 + 32 * k.toNat + b) = (s.srcEnabled (128 + 32 * k.toNat + b) && v.getLsbD b)) ∧
        ∀ b < 32, v.getLsbD b = true → t.latchedBy s (128 + 32 * k.toNat + b)) ∧
    (∀ r, s.frozen = true → s.assertedWith r = [] → s.onTrial = false →
      ∃ t, Runs (.faultCtrlClear .firn r) s t ∧ t.frozen = false ∧ ∀ g < 6, t.rd (0xA0020 + 4 * g) = 0) ∧
    (∀ r, s.frozen = true → s.assertedWith r ≠ [] → s.onTrial = false →
      ∃ t, Runs (.faultCtrlClear .firn r) s t ∧ t.frozen = true ∧ t.bit 0xA0008 5 = true ∧ t.rd 0xA001C = s.rd 0xA001C + 1) ∧
    (∀ m r, m ≠ .firn → s.regDenied m 0xA0004 true = none → s.assertedWith r = [] → Runs (.faultCtrlClear m r) s s) ∧
    (∀ m n, m ≠ .firn → s.regDenied m 0xA00A0 true = none → Runs (.faultTestreqGo m n) s s) ∧
    (∀ n : Byte, n.toNat < 192 → s.onTrial = false →
      ∃ t, Runs (.faultTestreqGo .firn n) s t ∧ t.fld 0xA00A0 7 0 = n.toNat ∧ t.bit 0xA0008 4 = true ∧ t.latchedBy s n.toNat) ∧
    (∀ (g : Byte) l, 24 ≤ g.toNat → Runs (.faultInput g l) s s) ∧
    (∀ (g : Byte) l, g.toNat < 24 →
      ∃ t, Runs (.faultInput g l) s t ∧ t.bit 0xF0018 g.toNat = l ∧
        ∀ k < 8, let c := s.fld (0xA0090 + 4 * (k / 4)) (8 * (k % 4) + 7) (8 * (k % 4))
          c % 32 = g.toNat → decide (c ≥ 128) = l → t.latchedBy s (96 + k)) ∧
    (∀ k : Byte, (16 ≤ k.toNat ∨ s.bit 0xA0004 0 = false) → Runs (.pwmPeriodStart k) s s) ∧
    (∀ k : Byte, k.toNat < 16 → s.bit 0xA0004 0 = true → let p := s.fld (0xF0100 + 8 * k.toNat) 23 0
      let d := if s.pwmSafe k.toNat then s.safePwm k.toNat else kget 0 s.io.duty k.toNat
      ∃ t, Runs (.pwmPeriodStart k) s t ∧ t.rd (0xF0104 + 8 * k.toNat) = w32 (pwmHigh d p) ∧ kget 250000 t.io.period k.toNat = p ∧
        t.io.duty = s.io.duty ∧ t.mem = s.mem) ∧
    (∀ n : Byte, 32 ≤ n.toNat → n.toNat ≤ 34 →
      ∃ t, Runs (.sourceReleased n) s t ∧ t.srcLevel n.toNat = false ∧ (∀ k < 192, t.srcStatus k = s.srcStatus k) ∧ t.mem = s.mem) ∧
    (∀ n : Byte, 96 ≤ n.toNat → n.toNat ≤ 103 →
      let cfg := fun k => s.fld (0xA0090 + 4 * (k / 4)) (8 * (k % 4) + 7) (8 * (k % 4))
      let c := cfg (n.toNat - 96)
      ∃ t, Runs (.sourceReleased n) s t ∧ t.srcLevel n.toNat = false ∧ t.bit 0xF0018 (c % 32) = decide (c < 128) ∧
        (∀ k < 192, s.srcStatus k = true → t.srcStatus k = true) ∧
        (∀ k < 8, cfg k % 32 = c % 32 → decide (cfg k ≥ 128) = decide (c < 128) → t.latchedBy s (96 + k))) ∧
    (∀ n : Byte, (n.toNat < 32 ∨ (34 < n.toNat ∧ n.toNat < 96) ∨ 103 < n.toNat) → Runs (.sourceReleased n) s s)

/-- R390: the writes of the user sources. CYC0 to CYC3, SEQ and Firn write FAULT_USER0 and FAULT_USER1; a bit written 1
asserts its source where it is enabled and a bit written 0 withdraws it, all on the edge of the write; another master's write
does nothing. The access table admits the write (R447); one that it does not admit is RefusedAccessesAreRecorded's.
Answers a next state, in the effect that its clause gives: faultUserWrite. -/
def Obligations.UserSourcesFollowTheirBits : Prop :=
  ∀ (s : State) (m : Master) (k : Byte) (v : W32), k.toNat ≤ 1 → s.regDenied m (0xA0080 + 4 * k.toNat) true = none →
    (m ∈ [.cyc0, .cyc1, .cyc2, .cyc3, .seq, .firn] →
      ∃ t, Runs (.faultUserWrite m k v) s t ∧ t.rd (0xA0080 + 4 * k.toNat) = v ∧
        (∀ b < 32, t.srcLevel (128 + 32 * k.toNat + b) = v.getLsbD b ∧
          t.asserted (128 + 32 * k.toNat + b) = (s.srcEnabled (128 + 32 * k.toNat + b) && v.getLsbD b)) ∧
        (∀ b < 32, t.srcLevel (128 + 32 * (1 - k.toNat) + b) = s.srcLevel (128 + 32 * (1 - k.toNat) + b))) ∧
    (m ∉ [.cyc0, .cyc1, .cyc2, .cyc3, .seq, .firn] → Runs (.faultUserWrite m k v) s s)

/-! ### The log (14) -/

/-- R411, R413, R416 to R418: LOG commands read, report, flush, set limits, seal and write. -/
def Sys2Proof.Claims.LogCommandsTakeEffect : Prop :=
  ∀ (s : State) (i : Issue),
    (∀ (f : W64) (n : W32) (c : W16) (buf : Buf), s.admits { op := 0x0C01, plen := 22 } i → 1 ≤ n.toNat → n.toNat ≤ 4096 →
      32 ≤ buf.len.toNat → s.bufOk i.host true buf = true → let q := max (s.seqOf f.toNat) (s.log.oldest.getD s.logNext)
      let l := s.selectRecords c.toNat q (s.logNext - q) (min n.toNat (buf.len.toNat / 32))
      Runs (.logRead i f n c buf) s ((s.wrMem (s.winAddr buf.off) l.flatten).complete i eOk (w32 l.length) 0 0)) ∧
    (s.admits { op := 0x0C02, plen := 0 } i →
      Runs (.logStatus i) s (s.complete i eOk (if s.log.written then w32 (s.logNext - 1) else 0) (w32 (s.log.oldest.getD 0)) (s.rd 0xB0020))) ∧
    (s.admits { op := 0x0C03, plen := 0, async := true } i →
      ∃ t, Runs (.logFlush i) s t ∧ t.mem = s.mem ∧ t.regs = s.regs ∧ t.mb.serial = s.mb.serial + 1 ∧
        (s.bit 0xB0004 0 = true → s.log.flush = none → t.log.flush = some s.logNext ∧
          ∃ o ∈ t.mb.outstanding, o.iss = i ∧ o.id = s.mb.serial ∧ o.ref = 1) ∧
        (s.bit 0xB0004 0 = true → s.log.flush ≠ none → t.log.flush = s.log.flush ∧ t.log.flushAgain = true ∧
          ∃ o ∈ t.mb.outstanding, o.iss = i ∧ o.id = s.mb.serial ∧ o.ref = 0) ∧
        (s.bit 0xB0004 0 = false → t.log = s.log ∧ ∃ o ∈ t.mb.outstanding, o.iss = i ∧ o.id = s.mb.serial ∧ o.ref = 0)) ∧
    (∀ c r b : W16, s.sound → s.admits { op := 0x0C04, plen := 6 } i → limitedCode c.toNat = true → r.toNat ≤ 1000 → 1 ≤ b.toNat →
      b.toNat ≤ 255 → (s.rateOf c.toNat ≠ none ∨ s.rateFree ≠ none) →
      ∃ t e, Runs (.logRateSet i c r b) s t ∧ e < 1023 ∧ t.rd (0xB1000 + 8 * e) = w32 (0x80000000 + c.toNat) ∧
        t.rateLim e = (r.toNat, b.toNat) ∧ (t.rateEntry e).tokens ≤ b.toNat * 1000 ∧ t.mb.last = some ⟨i.src, i.tag, eOk, 0, 0, 0⟩) ∧
    (∀ (k : Byte) (f l : W64), s.admits { op := 0x0C05, plen := 17, async := true } i → k.toNat ≤ 127 →
      s.seqOf f.toNat ≤ s.seqOf l.toNat → s.seqOf l.toNat - s.seqOf f.toNat < 262143 → s.slotValid k.toNat = true →
      (s.slot k.toNat).usage = 0x03 →
      ∃ t, Runs (.logSeal i k f l) s t ∧ t.log.seals = s.log.seals ++ [⟨s.mb.serial, k.toNat, s.seqOf f.toNat, s.seqOf l.toNat, false⟩] ∧
        t.mem = s.mem ∧ ∃ o ∈ t.mb.outstanding, o.iss = i ∧ o.id = s.mb.serial) ∧
    (∀ (c : W16) (x y z : W32), s.admits { op := 0x0C06, plen := 14 } i → 0x0C80 ≤ c.toNat → c.toNat ≤ 0x0CFF → s.log.fifo = [] →
      s.log.waitWrites = [] → s.log.unset = false → s.log.lostPend = 0 → s.unflushed ≤ 4094 →
      ∃ t, Runs (.logWrite i c x y z) s t ∧ t.rd64 0xB0010 = w64 (s.logNext + 1) ∧ t.log.fifo = [] ∧ t.log.waitWrites = [] ∧
        t.mb.last = some ⟨i.src, i.tag, eOk, w32 s.logNext, 0, 0⟩)

/-- R404 to R410, R412, R413, R417: postings queue in order; the engine writes one record for each, or counts it; buckets
fill; a flush copies the records it covers; a seal writes its two records. -/
def Sys2Proof.Claims.TheLogKeepsItsRecords : Prop :=
  ∀ (s : State),
    (∀ m c, poster m = false → Runs (.logPost m c) s (s.denyReg m 0xB004C true true)) ∧
    (∀ m c, poster m = true → s.regDenied m 0xB004C true = none → s.log.fifo.length < 64 →
      ∃ t p, Runs (.logPost m c) s t ∧ t.log.fifo = s.log.fifo ++ [p] ∧ p.code = c ∧ p.source = m ∧ p.time = s.time.ns ∧
        p.p0 = s.rd (bankKey 0xB0040 (masterId m)) ∧ p.p1 = s.rd (bankKey 0xB0044 (masterId m)) ∧
        p.p2 = s.rd (bankKey 0xB0048 (masterId m)) ∧ t.regs = s.regs ∧ t.mem = s.mem) ∧
    (∀ m c, poster m = true → s.regDenied m 0xB004C true = none → 64 ≤ s.log.fifo.length →
      ∃ t, Runs (.logPost m c) s t ∧ t.log.fifo = s.log.fifo ∧ t.log.lostPend = s.log.lostPend + 1 ∧ t.rd 0xB0020 = s.rd 0xB0020 + 1) ∧
    ((s.log.unset = true ∨ (s.log.lostPend = 0 ∧ (4094 < s.unflushed ∨ s.log.fifo = []))) → Runs .logIntakeEntry s s) ∧
    (∀ (p : Posting) r, s.log.unset = false → s.log.lostPend = 0 → s.unflushed ≤ 4094 → s.log.fifo = p :: r → exempt p.code.toNat = true →
      p.waiter = none → s.log.waitWrites = [] → (∀ j < 32, s.populated (s.ringAddr s.logNext + j) = true ∧ s.poisoned (s.ringAddr s.logNext + j) = false) →
      ∃ t, Runs .logIntakeEntry s t ∧ t.log.fifo = r ∧ t.rd64 0xB0010 = w64 (s.logNext + 1) ∧
        (∀ j < 32, t.byteAt (s.ringAddr s.logNext + j) =
          (logRecord p.code.toNat s.logNext p.source p.tunset false 0 p.time p.p0 p.p1 p.p2).getD j 0) ∧
        (∀ a, (a < s.ringAddr s.logNext ∨ s.ringAddr s.logNext + 32 ≤ a) → t.byteAt a = s.byteAt a)) ∧
    (∀ (p : Posting) r e, s.log.unset = false → s.log.lostPend = 0 → s.unflushed ≤ 4094 → s.log.fifo = p :: r → exempt p.code.toNat = false →
      p.waiter = none → s.log.waitWrites = [] → s.rateOf p.code.toNat = some e → (s.rateLim e).1 ≠ 0 → (s.rateEntry e).tokens < 1000 →
      (s.rateEntry e).lastSeq = none →
      ∃ t, Runs .logIntakeEntry s t ∧ t.log.fifo = r ∧ t.regs = s.regs ∧ t.mem = s.mem ∧
        (t.rateEntry e).suppressed = (s.rateEntry e).suppressed + 1) ∧
    (∀ at_, let u := s.reach at_
      (at_ % 1000000 ≠ 0 ∨ u.now < at_ ∨ at_ / 1000000 < u.log.msNext) → Runs (.rateRefill at_) s u) ∧
    (∀ at_, at_ % 1000000 = 0 → let u := s.reach at_
      let n := at_ / 1000000 + 1 - u.log.msNext
      at_ ≤ u.now → u.log.msNext ≤ at_ / 1000000 →
      ∃ t, Runs (.rateRefill at_) s t ∧ t.regs = u.regs ∧ t.time = u.time ∧ t.log.msNext = at_ / 1000000 + 1 ∧
        t.log.msSince = (if u.bit 0xB0004 0 || u.flushBegun then u.log.msSince + n else 0) ∧
        ∀ e r, kfind u.log.rates e = some r →
          kfind t.log.rates e = some { r with tokens := min ((u.rateLim e).2 * 1000) (r.tokens + n * (u.rateLim e).1) }) ∧
    (s.flushDue = false → Runs .flushStart s s) ∧
    (s.flushDue = true → s.bit 0xB0004 0 = true → s.log.flush = none →
      ∃ t, Runs .flushStart s t ∧ t.log.flush = some s.logNext ∧ t.log.firstFlush = (s.log.firstFlush && !s.faultPosted) ∧
        t.log.msSince = 0 ∧ t.mem = s.mem ∧ t.regs = s.regs) ∧
    (s.log.flush = none → Runs .flushComplete s s) ∧
    (∀ e, s.log.flush = some e → s.bit 0xB0008 22 = false →
      ∃ t, Runs .flushComplete s t ∧ t.log.tail = max s.log.tail e ∧ t.rd 0xB0028 = s.rd 0xB0028 + 1 ∧
        (s.log.tail < e → t.rd64 0xB0018 = w64 (e - 1)) ∧
        (s.mb.outstanding = [] → e - s.log.tail ≤ 4096 → (s.rd 0xB0024).toNat + 0x20000 ≤ 0x02000000 →
          (∀ a, 0x11200000 ≤ a → a < 0x11A00000 → s.poisoned a = false) →
          ∀ q, s.log.tail ≤ q → q < e → ∀ j < 32, t.byteAt (mramAddr q + j) = (s.rdMem (s.ringAddr q) 32).getD j 0)) ∧
    ((s.log.seals.find? fun q => q.hashing) = none → Runs .sealTag s s) ∧
    (∀ q, (s.log.seals.find? fun q => q.hashing) = some q → (s.log.unset = true ∨ 4094 < s.unflushed) → Runs .sealTag s s) ∧
    (∀ q, (s.log.seals.find? fun q => q.hashing) = some q → s.log.unset = false → s.unflushed ≤ 4094 →
      ∃ t, Runs .sealTag s t ∧ t.rd64 0xB0010 = w64 (s.logNext + 2) ∧ t.log.seals = s.log.seals.filter fun r => r != q)

/-! ### Keys, tamper and debug (16) -/

/-- R455, R457, R458, R461, R465, R467: KEY commands install and derive, invalidate, report and configure; a parent that
fails its check is BAD; a debug response is judged by its signature. -/
def Sys2Proof.Claims.KeyCommandsTakeEffect : Prop :=
  ∀ (s : State) (i : Issue),
    (∀ (l : Buf) k, s.admits { op := 0x0E01, plen := 11 } i → s.bufOk i.host false l = true → l.len.toNat = 64 → s.unwrapRoot (s.rdBuf l) = some k →
      s.slotValid 0 = false →
      s.key.live = 0 → s.key.debug = false → (s.slot 0).bad = false → (s.slot 0).gen < 0xFFFFFF →
      ∃ t, Runs (.keyDerive i 0xFF 0 0 l) s t ∧ t.key.rootId = w32 (leAt (s.rdBuf l) 12 4) ∧ t.key.latched = 0 ∧ t.key.zeroized = false ∧
        t.slotValid 0 = true ∧ (t.slot 0).gen = (s.slot 0).gen + 1 ∧
        (t.slot 0).key = k ∧
        t.mb.last = some ⟨i.src, i.tag, eOk, w32 ((s.slot 0).gen + 1), 0, 0⟩) ∧
    (∀ (p n u : Byte) (l : Buf), let g := (s.deriveTarget n).getD 0
      s.admits { op := 0x0E01, plen := 11 } i → s.bufOk i.host false l = true → p ≠ 0xFF →
      s.deriveStatus p n u (s.rdBuf l).length = eOk → s.validUp 9 p.toNat = true → i.env.icv = true →
      ∃ t, Runs (.keyDerive i p n u l) s t ∧ t.slotValid g = true ∧ (t.slot g).parent = p.toNat ∧ (t.slot g).usage = u ∧
        (t.slot g).key = deriveKey (s.slot p.toNat).key (s.rdBuf l) u ((s.slot p.toNat).depth + 1) ∧
        (s.key.debug = false → ∃ r ∈ t.key.records, r.target = g ∧ r.parent = p.toNat ∧ r.usage = u ∧ r.label = s.rdBuf l) ∧
        t.mb.last = some ⟨i.src, i.tag, eOk, w32 (g * 2 ^ 24 + (s.slot p.toNat).gen), 0, 0⟩) ∧
    (∀ (p n u : Byte) (l : Buf), s.admits { op := 0x0E01, plen := 11 } i → s.bufOk i.host false l = true → p ≠ 0xFF →
      s.deriveStatus p n u (s.rdBuf l).length = eOk → i.env.icv = false →
      ∃ t, Runs (.keyDerive i p n u l) s t ∧ (t.slot p.toNat).bad = true ∧ t.slotValid p.toNat = false ∧
        t.mb.last = some ⟨i.src, i.tag, eIntegrity, 0, 0, 0⟩) ∧
    (∀ n : Byte, s.admits { op := 0x0E02, plen := 1 } i → (n.toNat = 0 ∨ (4 ≤ n.toNat ∧ n.toNat ≤ 127)) →
      ∃ t, Runs (.keyInvalidate i n) s t ∧ t.mb.last = some ⟨i.src, i.tag, eOk, w32 (s.validDescendants n.toNat), 0, 0⟩ ∧
        (t.slot n.toNat).gen = (bumpGen (s.slot n.toNat)).gen ∧
        (n.toNat ≠ 0 → t.slotValid n.toNat = false ∧ (t.slot n.toNat).key = List.replicate 32 0)) ∧
    (∀ n : Byte, s.admits { op := 0x0E03, plen := 1 } i → n.toNat ≤ 127 → let k := s.slot n.toNat
      Runs (.keySlotInfo i n) s (s.complete i eOk (w32 (k.parent % 128 + b2n (s.slotValid n.toNat) * 128 + k.usage.toNat * 256 +
        k.depth % 16 * 65536 + b2n k.bad * 2 ^ 20 + b2n k.fixed * 2 ^ 21)) (w32 k.gen) (if n.toNat = 0 then s.key.rootId else w32 k.pgen))) ∧
    (s.admits { op := 0x0E04, plen := 0 } i →
      Runs (.keyTamperStatus i) s (s.complete i eOk (w32 s.key.latched.toNat) (w32 s.key.live.toNat)
        (w32 (b2n (s.slotValid 0) + b2n s.key.zeroized * 2 + b2n s.key.debug * 4)))) ∧
    (∀ n m : Byte, s.admits { op := 0x0E05, plen := 2 } i → s.tamperStatus n.toNat m.toNat = eOk →
      ∃ t, Runs (.keyTamperConfig i n m) s t ∧ t.tamperMode n.toNat = m.toNat ∧
        (∀ k < 8, k ≠ n.toNat → t.tamperMode k = s.tamperMode k) ∧ t.mb.last = some ⟨i.src, i.tag, eOk, 0, 0, 0⟩) ∧
    (∀ buf : Buf, s.admits { op := 0x0E06, plen := 8 } i → buf.len.toNat = 88 → s.bufOk i.host false buf = true →
      ∃ t, Runs (.keyDebugUnlock i buf) s t ∧
        ((s.key.debug = true ∨ 3 ≤ s.key.refused) → t.key = { s.key with challenge := t.key.challenge } ∧ t.fresh = s.fresh + 2 ∧ t.mb.last = some ⟨i.src, i.tag, eAccess, 0, 0, 0⟩) ∧
        (s.key.debug = false → s.key.refused < 3 → s.noDebugKey = false → sliceB (s.rdBuf buf) 0 16 = s.key.challenge → s.responseOk (s.rdBuf buf) = true →
          t.key.debug = true ∧ t.key.scope = w32 (leAt (s.rdBuf buf) 16 4) ∧ t.key.masked = some (bumpGen (s.slot 0)) ∧
          t.mb.last = some ⟨i.src, i.tag, eOk, 0, 0, 0⟩) ∧
        (s.key.debug = false → s.key.refused < 3 → s.noDebugKey = false →
          (sliceB (s.rdBuf buf) 0 16 ≠ s.key.challenge ∨ s.responseOk (s.rdBuf buf) = false) →
          t.key.debug = false ∧ t.key.refused = s.key.refused + 1 ∧ t.fresh = s.fresh + 2 ∧
          t.mb.last = some ⟨i.src, i.tag, eIntegrity, 0, 0, 0⟩))

/-- R454, R461, R463, R465 and the JTAG instructions: a tamper on an armed input is latched and zeroizes unless LOG_ONLY; a
slot that fails its check is BAD; the JTAG port scans. -/
def Sys2Proof.Claims.TheGuardActs : Prop :=
  ∀ (s : State),
    (∀ (n : Byte) (x : TamperPin), (8 ≤ n.toNat ∨ s.armed n.toNat = false ∨ s.detects n.toNat x.levels = false) →
      Runs (.tamper n x) s { s with key := { s.key with live := x.live } }) ∧
    (∀ (n : Byte) (x : TamperPin), s.armed n.toNat = true →
      ((4 ≤ n.toNat ∨ (s.tamperMode n.toNat % 4 = 1 ∧ x.levels = [true, true, true, true]) ∨
        (s.tamperMode n.toNat % 4 = 2 ∧ x.levels = [false, false, false, false])) → s.detects n.toNat x.levels = true) ∧
      (n.toNat < 4 → s.tamperMode n.toNat % 4 = 3 → s.detects n.toNat x.levels =
        (decide (1 ≤ s.meshCount) && decide (x.levels = [!s.meshBit (s.meshCount - 1), !s.meshBit s.meshCount])))) ∧
    (∀ (n : Byte) (x : TamperPin), let l := x.live
      n.toNat < 8 → s.detects n.toNat x.levels = true →
      ∃ t, Runs (.tamper n x) s t ∧ t.key.live = l ∧ t.key.latched = s.key.latched ||| (1#8 <<< n.toNat) ∧
        (s.tamperLogOnly n.toNat = true → t.key.slots = s.key.slots ∧ t.key.zeroized = s.key.zeroized) ∧
        (s.tamperLogOnly n.toNat = false → t.key.zeroized = true ∧ t.slotValid 0 = false ∧
          (∀ k < 128, (t.slot k).key = List.replicate 32 0) ∧ (s.chip.running = true → s.recovery = false → t.latchedBy s 80)) ∧
        ((s.chip.running = false ∨ s.recovery = true) → t.key.missed = s.key.missed ++ [(n.toNat, s.tamperLogOnly n.toNat, s.calW0 (fieldsOf s.cal.secs))])) ∧
    (∀ n : Byte, 128 ≤ n.toNat → Runs (.keyBad n) s s) ∧
    (∀ n : Byte, n.toNat < 128 →
      ∃ t, Runs (.keyBad n) s t ∧ (t.slot n.toNat).bad = true ∧ t.slotValid n.toNat = false ∧ (t.slot n.toNat).gen = (s.slot n.toNat).gen) ∧
    Runs .dbgChal s { s with jtag := { ir := 0x10, dr := s.key.challenge } } ∧
    (∀ d v, ∃ t, Runs (.dbgResp d v) s t ∧ t.jtag = { ir := 0x11, dr := [] } ∧
      ((s.key.debug = true ∨ 3 ≤ s.key.refused) → t.key = { s.key with challenge := t.key.challenge }) ∧
      (s.key.debug = false → s.key.refused < 3 → s.noDebugKey = false → sliceB (d ++ v) 0 16 = s.key.challenge → s.responseOk (d ++ v) = true →
        t.key.debug = true ∧ t.key.scope = w32 (leAt (d ++ v) 16 4)) ∧
      (s.key.debug = false → s.key.refused < 3 →
        (s.noDebugKey = true ∨ sliceB (d ++ v) 0 16 ≠ s.key.challenge ∨ s.responseOk (d ++ v) = false) →
        t.key.debug = false ∧ t.key.refused = s.key.refused + 1)) ∧
    Runs .bypass s { s with jtag := { ir := 0x1F, dr := [0] } } ∧
    Runs .idcode s { s with jtag := { ir := 0x01, dr := leBytes 4 idcode.toNat } } ∧
    (∃ t, Runs .samplePreload s t ∧ t.jtag.ir = 0x02 ∧ t.key = s.key ∧ t.regs = s.regs) ∧
    (∀ c : Byte, (c = 0x00 ∨ c = 0x04 ∨ c = 0x05) → (s.chip.straps.testEn = true ∨ (s.key.debug = true ∧ s.key.scope.getLsbD 2 = true)) →
      Runs (.extest c) s { s with jtag := { ir := BitVec.ofNat 5 c.toNat, dr := [] } }) ∧
    (∀ c : Byte, s.chip.straps.testEn = false → (s.key.debug = false ∨ s.key.scope.getLsbD 2 = false) →
      Runs (.extest c) s { s with jtag := { ir := 0x1F, dr := [0] } }) ∧
    Runs .tapReset s { s with jtag := { ir := 0x01, dr := [] } }

/-! ### Power, clocks, temperature, memory repair and rotation (17) -/

/-- R468 to R470, R491, R512: PWR commands begin a switch and report; a switch's end sets the domain's state. -/
def Sys2Proof.Claims.PowerIsSwitched : Prop :=
  ∀ (s : State) (i : Issue),
    (∀ (d : Byte) (o : Byte), s.admits { op := 0x0F01, plen := 2, frozenNo := true, async := true } i → domainCode d.toNat = true →
      o.toNat ≤ 1 → s.bit aDomBusy d.toNat = false →
      (s.bit aDomOn d.toNat = (o == 1) → Runs (.pwrDomainSet i d o) s (s.done i eOk)) ∧
      (s.bit aDomOn d.toNat ≠ (o == 1) → s.domainRefused i.host d.toNat (o == 1) = true → Runs (.pwrDomainSet i d o) s (s.done i eState)) ∧
      (s.bit aDomOn d.toNat ≠ (o == 1) → s.domainRefused i.host d.toNat (o == 1) = false →
        ∃ t, Runs (.pwrDomainSet i d o) s t ∧ t.bit aDomReq d.toNat = (o == 1) ∧ t.bit aDomBusy d.toNat = true ∧
          t.pwr.switching = s.pwr.switching ++ [⟨d.toNat, o == 1, s.now⟩] ∧
          (o = 1 → t.mem = s.mem ∧ ∃ x ∈ t.mb.outstanding, x.iss = i ∧ x.id = s.mb.serial) ∧
          (o ≠ 1 → 0x10 ≤ d.toNat → d.toNat ≤ 0x13 → t.portFrames (d.toNat - 0x10) = []))) ∧
    (s.admits { op := 0x0F02, plen := 0 } i →
      Runs (.pwrStatus i) s (s.complete i eOk (s.rd aDomOn) (s.rd 0x90030) (i32 (s.hottest.fdiv 256)))) ∧
    (∀ k : Byte, s.admits { op := 0x0F03, plen := 1 } i → k.toNat ≤ 15 →
      Runs (.pwrThermalRead i k) s (s.complete i eOk (s.rd (0xE0080 + 4 * k.toNat)) 0 0)) ∧
    (s.admits { op := 0x0F04, plen := 0 } i →
      Runs (.pwrRepairStatus i) s (s.complete i eOk (s.rd 0xE0204) (s.rd 0xE0400) (s.rd 0xE0010))) ∧
    (∀ (d : Byte) f, (s.pwr.switching.find? fun x => x.code == d.toNat) = none → Runs (.domainSwitch d f) s s) ∧
    (∀ (d : Byte) (f : LaneList) x, (s.pwr.switching.find? fun x => x.code == d.toNat) = some x → domainCode d.toNat = true →
      ∃ t, Runs (.domainSwitch d f) s t ∧ t.bit aDomBusy d.toNat = false ∧ t.pwr.switching = s.pwr.switching.filter (fun e => e != x) ∧
        t.bit aDomOn d.toNat = (x.turnOn && !(d == 0x16 && (s.chip.ddrSize == 0 || decide (f.ddrCode < s.chip.ddrSize)))))

/-- R471, R475 to R477: a PLL that loses lock gives up its clock; sensors are read; a hot tile's role moves to the reserve;
the core voltage moves by at most one step within its limits. -/
def Sys2Proof.Claims.ClocksAndHeatAreHandled : Prop :=
  ∀ (s : State),
    (∀ k : Byte, 4 < k.toNat → Runs (.pllSwitch k) s s) ∧
    (∀ k : Byte, 1 < k.toNat → k.toNat ≤ 4 → Runs (.pllSwitch k) s (s.setBit 0xE0010 k.toNat false)) ∧
    (∀ k : Byte, k.toNat ≤ 1 →
      ∃ t, Runs (.pllSwitch k) s t ∧ t.bit 0xE0010 k.toNat = false ∧ t.bit 0xE0010 (8 + k.toNat) = true ∧
        (s.pllGood (1 - k.toNat) = true → t.bit 0xE0010 (16 + k.toNat) = true) ∧
        (s.pllGood (1 - k.toNat) = false → s.bit 0xE0010 (16 + k.toNat) = false → t.fault.live.getLsbD 32 = true ∧ t.latchedBy s 32)) ∧
    (∀ x : Readings, ∃ t, Runs (.thermalSample x) s t ∧ (∀ k v, k < 16 → x.temps[k]? = some v → t.therm k = v.toInt) ∧
      (∀ k, k < 16 → x.temps[k]? = none → t.therm k = s.therm k) ∧
      (32000 < t.hottest → t.fault.live.getLsbD 35 = true ∧ t.latchedBy s 35) ∧
      (t.hottest ≤ 30720 → t.fault.live.getLsbD 35 = false) ∧
      (∀ h c, neighbours (h + 2) (c + 2) = true →
        t.skewRun h c = (if t.therm h - t.therm c > 5120 then min 100 (s.skewRun h c + 1) else 0)) ∧
      (30720 < t.hottest → t.hottest ≤ 32000 → t.fault = s.fault)) ∧
    (∀ (h c : Byte) (d : Nat), (s.skewRun h.toNat c.toNat < 100 ∨ (d : Int) ≠ s.therm h.toNat - s.therm c.toNat) →
      Runs (.thermSkew h c d) s s) ∧
    (∀ (h c : Byte) (d : Nat), h.toNat < 9 → 100 ≤ s.skewRun h.toNat c.toNat → (d : Int) = s.therm h.toNat - s.therm c.toNat →
      ∃ t, Runs (.thermSkew h c d) s t ∧ t.bit aThermSkew h.toNat = true ∧ t.mem = s.mem ∧
        (∀ k, s.tileRole (h.toNat + 2) = some k → s.hasRsv = true → s.rotPhase = 0 → s.pwr.thermalAt = none → s.frozen = false →
          t.rotPhase = 1 ∧ t.rotRole = k ∧ t.rotSrc = h.toNat + 2 ∧ t.rotDst = s.rsvTile) ∧
        (∀ k, s.tileRole (h.toNat + 2) = some k → s.hasRsv = true → s.rotPhase = 0 → s.pwr.thermalAt = none → s.frozen = true →
          t.rd aRotState = s.rd aRotState ∧ t.pwr.migrate = some k) ∧
        (∀ k n, s.tileRole (h.toNat + 2) = some k → s.pwr.thermalAt = some n → s.now < n + 600000000000 →
          t.rd aRotState = s.rd aRotState ∧ t.pwr.migrate = s.pwr.migrate) ∧
        (s.tileRole (h.toNat + 2) = none → t.rd aRotState = s.rd aRotState)) ∧
    (∀ x, s.bit 0xE0030 0 = false → Runs (.avsAdjust x) s s) ∧
    (∀ x : AvsStep, s.bit 0xE0030 0 = true → let cur := s.fld 0xE0034 9 0
      ∃ t, Runs (.avsAdjust x) s t ∧ t.rd 0xE0038 = w32 (x.meas % 1024) ∧
        (x.ack = false → t.rd 0xE0034 = s.rd 0xE0034) ∧
        (x.ack = true → max cur x.meas - min cur x.meas ≤ 25 → t.pwr.vout = some (s.fld 0xE0030 7 1, t.fld 0xE0034 9 0)) ∧
        (x.ack = true → max cur x.meas - min cur x.meas ≤ 25 → 650 ≤ cur → cur ≤ 850 →
          650 ≤ t.fld 0xE0034 9 0 ∧ t.fld 0xE0034 9 0 ≤ 850 ∧ t.fld 0xE0034 9 0 ≤ cur + 5 ∧ cur ≤ t.fld 0xE0034 9 0 + 5 ∧
          (cur + 5 ≤ x.want → cur ≤ 845 → t.fld 0xE0034 9 0 = cur + 5) ∧ (x.want + 5 ≤ cur → 655 ≤ cur → t.fld 0xE0034 9 0 + 5 = cur)))

/-- R487 to R489: scrub passes repair weak rows, an uncorrectable word is poisoned, a weak MRAM sector moves to the pool. -/
def Sys2Proof.Claims.MemoriesAreRepaired : Prop :=
  ∀ (s : State),
    Runs (.scrubPass { ce := [], ue := [] }) s (s.count 0xE0200 1) ∧
    (∀ a, a < 0x02000000 → (s.pwr.ceWords.any fun v => sramRow v == sramRow (a / 8 * 8)) = false →
      ∃ t, Runs (.scrubPass { ce := [a], ue := [] }) s t ∧ t.pwr.ceWords = s.pwr.ceWords ++ [a / 8 * 8] ∧
        t.rd 0xE0208 = s.rd 0xE0208 + 1 ∧ t.rd 0xE0200 = s.rd 0xE0200 + 1 ∧ t.mem = s.mem) ∧
    (∀ a, a < 0x02000000 → (s.pwr.ceWords.any fun v => sramRow v == sramRow (a / 8 * 8)) = true →
      let b := a / 0x80000
      s.fld (0xE0300 + 4 * (b / 4)) (8 * (b % 4) + 4) (8 * (b % 4)) < 16 →
      ∃ t, Runs (.scrubPass { ce := [a], ue := [] }) s t ∧ t.pwr.rows = s.pwr.rows ++ [sramRow (a / 8 * 8)] ∧
        t.fld (0xE0300 + 4 * (b / 4)) (8 * (b % 4) + 4) (8 * (b % 4)) =
          s.fld (0xE0300 + 4 * (b / 4)) (8 * (b % 4) + 4) (8 * (b % 4)) + 1 ∧
        (∀ v ∈ t.pwr.ceWords, sramRow v ≠ sramRow (a / 8 * 8)) ∧ t.rd 0xE0200 = s.rd 0xE0200 + 1 ∧ t.mem = s.mem) ∧
    (∀ a, 0x02000000 ≤ a → Runs (.sramUe a) s s) ∧
    (∀ a, a < 0x02000000 → s.mb.waiting = [] → s.mtr.cal = none → (∀ p < 4, s.portFrames p = []) →
      ∃ t, Runs (.sramUe a) s t ∧ t.poisoned a = true ∧ t.latchedBy s 16 ∧ t.mem = s.mem ∧
        t.rdMem (a / 8 * 8) 8 = List.replicate 8 0) ∧
    (∀ a, 0x2000 ≤ a → Runs (.mramRemap a) s s) ∧
    (∀ a, a < 0x2000 → s.pwr.remap.length < 255 →
      ∃ t, Runs (.mramRemap a) s t ∧ t.pwr.remap = s.pwr.remap ++ [a] ∧ t.rd 0xE0400 = w32 (s.pwr.remap.length + 1) ∧ t.mem = s.mem) ∧
    (∀ a, a < 0x2000 → 255 ≤ s.pwr.remap.length → ∃ t, Runs (.mramRemap a) s t ∧ t.latchedBy s 19 ∧ t.pwr.remap = s.pwr.remap)

/-- A waiting command is not one of the role in handover, and so outlives the abandonment (R57, R484). -/
def Sys2Proof.Machine.State.staysAtAbandon (s : State) (c : Instr) : Bool := !((cmdOf c).any fun q => s.handoverHolds q.1)

/-- R481 to R484, R486: at a rotation instant the next role's handover begins, is deferred under FREEZE, or finds another in
progress; a passed self-test leads to the cut, a failed one retires the tile; the cut swaps the tiles; a handover without
a window is abandoned.
Answers a next state, in the effect that its clause gives: rotationInstant, rotationNow, bistDone, rotate, rotateAbandon. -/
def Obligations.RolesRotate : Prop :=
  ∀ (s : State),
    (∀ at_ f, let u := s.reach at_
      let v := (u.setRotNext at_).testSpares f.lanes
      ((u.rotating = false ∨ at_ < (u.rd64 aRotNext).toNat) → Runs (.rotationInstant at_ f) s u) ∧
      (u.rotating = true → (u.rd64 aRotNext).toNat ≤ at_ →
        ∃ t, Runs (.rotationInstant at_ f) s t ∧ t.rd64 aRotNext = w64 (at_ + (u.rd aRotInterval).toNat * 1000000000) ∧
          (v.frozen = true → t.pwr.rotRetry = true ∧ t.rd aRotState = u.rd aRotState) ∧
          (v.frozen = false → v.rotPhase ≠ 0 → t = v) ∧
          (v.frozen = false → v.rotPhase = 0 → s.boot.activating = none → s.pwr.counted = [] → s.pwr.pos < 8 →
            t.rotPhase = 1 ∧ t.rotRole = s.pwr.pos ∧ t.rotSrc = u.roleTile s.pwr.pos ∧ t.rotDst = u.rsvTile))) ∧
    (∀ m f, m ≠ .firn → Runs (.rotationNow m f) s (s.denyReg m aRotCtrl true true)) ∧
    (∀ f, s.hasRsv = false → Runs (.rotationNow .firn f) s s) ∧
    (∀ f, s.hasRsv = true → let v := s.testSpares f.lanes
      (v.frozen = false → v.rotPhase = 0 → s.boot.activating = none → s.pwr.counted = [] → s.pwr.pos < 8 →
        ∃ t, Runs (.rotationNow .firn f) s t ∧ t.rotPhase = 1 ∧ t.rotRole = s.pwr.pos ∧ t.rotSrc = s.roleTile s.pwr.pos) ∧
      (v.frozen = true → ∃ t, Runs (.rotationNow .firn f) s t ∧ t.pwr.rotRetry = true) ∧
      (v.frozen = false → v.rotPhase ≠ 0 → Runs (.rotationNow .firn f) s v)) ∧
    (s.rotPhase = 1 → Runs (.bistDone true) s (s.setFld aRotState 2 0 (if s.componentOk (roleComponent s.rotRole) then 4 else 2))) ∧
    (s.rotPhase = 1 → 2 ≤ s.rotDst → s.rotDst ≤ 10 →
      ∃ t, Runs (.bistDone false) s t ∧ t.rotPhase = 0 ∧ t.bit aTileStat (s.rotDst - 2) = true ∧ t.hasRsv = false ∧
        t.bit aDomOn s.rotDst = false ∧ t.bit aRotCtrl 2 = true ∧ t.mb.waiting = s.mb.waiting.filter s.staysAtAbandon) ∧
    (s.rotPhase = 6 → s.boot.activating = none → Runs (.bistDone true) s (s.wr aRotState 0)) ∧
    (s.rotPhase = 6 → s.boot.activating = none → 2 ≤ s.rotSrc → s.rotSrc ≤ 10 →
      ∃ t, Runs (.bistDone false) s t ∧ t.rotPhase = 0 ∧ t.bit aTileStat (s.rotSrc - 2) = true) ∧
    (∀ b, s.rotPhase ≠ 1 → s.rotPhase ≠ 6 → Runs (.bistDone b) s s) ∧
    (∀ d w, (s.rotPhase ≠ 4 ∨ w = false ∨ 256 < d ∨ s.frozen = true ∨ s.cutWindow s.rotRole = false) → Runs (.rotate d w) s s) ∧
    (∀ d, s.rotPhase = 4 → d ≤ 256 → s.frozen = false → s.cutWindow s.rotRole = true → s.rotRole < 8 →
      ∃ t, Runs (.rotate d true) s t ∧ t.roleTile s.rotRole = s.rotDst ∧ t.rsvTile = s.rotSrc ∧ t.rotPhase = 6 ∧
        (∀ j < 8, j ≠ s.rotRole → t.roleTile j = s.roleTile j) ∧ t.mem = s.mem ∧
        (s.pwr.rotThermal = false → t.pwr.pos = (s.rotRole + 1) % 8) ∧
        (s.pwr.rotThermal = true → s.boot.activating = none → t.pwr.thermalAt = some s.now ∧ s.rotRole ∈ t.pwr.counted ∧
          t.pwr.pos = s.pwr.pos)) ∧
    (¬ (1 ≤ s.rotPhase ∧ s.rotPhase ≤ 4) → Runs .rotateAbandon s s) ∧
    (1 ≤ s.rotPhase → s.rotPhase ≤ 4 → s.boot.activating = none →
      ∃ t, Runs .rotateAbandon s t ∧ t.rotPhase = 0 ∧ t.bit aRotCtrl 2 = true ∧ t.mb.waiting = s.mb.waiting.filter s.staysAtAbandon ∧
        (∀ j < 8, t.roleTile j = s.roleTile j) ∧ (s.pwr.rotThermal = false → t.pwr.pos = (s.rotRole + 1) % 8))

/-! ### Every command completes: one clause per command -/

/-- The commands of the classes SYS, SOLV, DRIFT and LOOP: each completes with its effect where its class admits it and the
state and operands are as named.
Answers a next state, in the effect that its clause gives: sysNop, sysInfo, sysWindowSet, sysAccessGet, sysAccessSet,
sysEventRoute, sysRoleMap, sysRotate, sysConfigRead, sysConfigWrite, sysRestart, solvBatchSubmit, solvBatchStatus,
solvBatchWait, solvBatchCancel, solvLaneStatus, solvLaneRetire, solvParamSet, driftNetConfig, driftPeriodSet,
driftTemplateSet, driftSlotSet, driftFallbackSet, driftStart, driftStop, driftPricesRead, driftPlanRead, driftBidRead,
loopDescWrite, loopDescRead, loopBankSwap, loopModeSet, loopTuneStart, loopTuneResult, loopStatus, unknownOpcode. -/
def Obligations.SysSolvDriftLoopCommandsComplete : Prop :=
  (∀ (s : State) (i : Issue) (d : Bytes), s.admits { op := 0x0100, plen := 0 } i → Runs (.sysNop i d) s
    (s.complete i eOk (w32 (leAt (d.take i.plen) 0 4)) (w32 (leAt (d.take i.plen) 4 4)) (w32 (leAt (d.take i.plen) 8 4)))) ∧
  (∀ (s : State) (i : Issue), s.admits { op := 0x0101, plen := 0 } i → Runs (.sysInfo i) s
    (s.complete i eOk Config.firnVersion (w32 (s.fld 0xC0020 15 0)) (w32 (s.fld 0x80008 13 0 + s.conf.ddrSize % 8 *
      65536)))) ∧
  (∀ (s : State) (i : Issue) (b : W32), s.admits { op := 0x0102, plen := 4 } i → b.toNat % 0x100000 = 0 →
    b.toNat ≤ 0x01000000 → s.windowHolds b.toNat = true → Runs (.sysWindowSet i b) s
    ((s.moveWindow b).complete i eOk (s.rd 0x10040) 0 0)) ∧
  (∀ (s : State) (i : Issue) (t : Byte) (m : Byte) (r : Byte), s.admits { op := 0x0103, plen := 3 } i →
    s.targetShape t.toNat ≠ none → m.toNat ≤ 15 → r.toNat ≤ 15 → Runs (.sysAccessGet i t m r) s
    (s.complete i eOk (w32 (s.accEntry t.toNat m.toNat r.toNat).start) (w32 (s.accEntry t.toNat m.toNat r.toNat).stop)
      (w32 (s.accEntry t.toNat m.toNat r.toNat).rights.toNat))) ∧
  (∀ (s : State) (i : Issue) (tg : Byte) (m : Byte) (r : Byte) (rt : Byte) (a : W32) (b : W32),
    s.admits { op := 0x0104, plen := 12 } i → s.targetShape tg.toNat ≠ none → (m.toNat = 11 ∨ m.toNat = 12) →
    r.toNat ≤ 15 → s.conf.hostLock = false → s.entryOk ⟨tg.toNat, m.toNat, r.toNat, a.toNat, b.toNat, rt⟩ = true →
    (s.accEntry tg.toNat m.toNat r.toNat).rights.getLsbD 7 = false →
    let e : AccEntry := ⟨tg.toNat, m.toNat, r.toNat, a.toNat, b.toNat, rt⟩; Runs (.sysAccessSet i tg m r rt a b) s
    (((((s.stageEntry e).putEntry e).setBit 0x20 2 false).postFirn 0x0121 (w32 (tg.toNat + m.toNat * 256 + r.toNat *
      65536)) a b).done i eOk)) ∧
  (∀ (s : State) (i : Issue) (src : Byte) (vec : Byte), s.admits { op := 0x0105, plen := 2 } i →
    (src.toNat = 0 ∨ (9 ≤ src.toNat ∧ src.toNat ≤ 15)) → vec.toNat ≤ 15 → ∃ t, Runs (.sysEventRoute i src vec) s t ∧
    kfind t.mb.routes src.toNat = some vec ∧ t.mb.last = some ⟨i.src, i.tag, eOk, 0, 0, 0⟩) ∧
  (∀ (s : State) (i : Issue), s.admits { op := 0x0106, plen := 0 } i → Runs (.sysRoleMap i) s
    (s.complete i eOk (s.rd 0xE0114) (w32 (s.fld 0xE0118 19 16 + s.fld 0xE0118 8 0 * 256)) s.toRotation)) ∧
  (∀ (s : State) (i : Issue) (n : W32) (now : Byte), s.admits { op := 0x0107, plen := 5, frozenNo := true } i →
    (n.toNat = 0 ∨ (3600 ≤ n.toNat ∧ n.toNat ≤ 2592000)) → now.toNat ≤ 1 → s.rotPhase = 0 → s.hasRsv = true →
    let u := ((s.wr 0xE0104 n).setBit 0xE0100 0 (n.toNat != 0)).wr64 0xE0108 (if n.toNat = 0 then 0 else w64 (s.now +
      n.toNat * 1000000000)); Runs (.sysRotate i n now) s
    ((if now = 1 then u.rotInstant i.env.badLanes.lanes else u).done i eOk)) ∧
  (∀ (s : State) (i : Issue) (r : W16) (buf : Buf) (b : Bytes), s.admits { op := 0x0108, plen := 10 } i →
    kfind s.cfgBytes r.toNat = some b → s.bufOk i.host true buf = true → b.length ≤ buf.len.toNat →
    Runs (.sysConfigRead i r buf) s
    ((s.wrMem (s.winAddr buf.off) b).complete i eOk (w32 b.length) (w32 (s.fld 0xC0020 15 0)) 0)) ∧
  (∀ (s : State) (i : Issue) (r : W16) (buf : Buf) (c : CfgRecord), s.admits { op := 0x0109, plen := 10 } i →
    s.bufOk i.host false buf = true → i.env.recFormat.toNat = s.fld 0xC0020 31 16 → i.env.record = some c →
    s.recordOk c = true →
    (((kdel s.cfgBytes r.toNat).map fun (p : Nat × Bytes) => p.2.length).sum + buf.len.toNat ≤ storeRoom) →
    Runs (.sysConfigWrite i r buf) s
    ((({ s with cfgBytes := kset s.cfgBytes r.toNat (s.rdBuf buf) } : State).takeRecord c).done i eOk)) ∧
  (∀ (s : State) (i : Issue), s.admits { op := 0x010A, plen := 1 } i → s.logWrites = [] → s.mb.outstanding = [] → ∃ t,
    Runs (.sysRestart i 0) s t ∧ t.bit 0x10010 0 = false ∧ t.bit 0x10010 1 = true) ∧
  (∀ (s : State) (m : Master) (desc : Nat) (n : Nat), s.sramOk m false desc 16 = true →
    (∀ j < n, s.poisoned (desc + j) = false) → n = 16 + 4 * leAt (s.rdMem desc 16) 0 4 → s.sramOk m false desc n = true →
    let h := s.rdMem desc 16; 1 ≤ leAt h 0 4 → leAt h 0 4 ≤ 1024 → leAt h 8 1 ≤ 3 → leAt h 9 1 ≤ 1 → leAt h 10 6 = 0 →
    (leAt h 8 1 = 3 → m = .seq) → w32 (leAt h 4 4) &&& ~~~(s.rd 0x20004) = 0 → s.solv.batches.length < 64 →
    ∀ (i : Issue) (buf : Buf) (nf : Byte), s.admits { op := 0x0201, plen := 9 } i → m = hostMaster i.host → nf.toNat ≤ 1 →
    desc = s.winAddr buf.off → n = buf.len.toNat → s.bufOk i.host false buf = true → Runs (.solvBatchSubmit i buf nf) s
    ((s.submit m desc (some n) (nf.getLsbD 0) false).1.complete i eOk (w32 s.solv.nextId) 0 0)) ∧
  (∀ (s : State) (i : Issue) (n : W32) b, s.admits { op := 0x0202, plen := 4 } i → s.batch n.toNat = some b →
    Runs (.solvBatchStatus i n) s (s.complete i eOk (w32 b.done) (w32 b.carried) (s.batchWord b))) ∧
  (∀ (s : State) (i : Issue) (n : W32) (w : W32) b, s.admits { op := 0x0203, plen := 8, async := true } i →
    s.batch n.toNat = some b → s.batchLive b.id = false → Runs (.solvBatchWait i n w) s
    (s.complete i eOk (w32 b.done) (w32 b.carried) 0)) ∧
  (∀ (s : State) (i : Issue) (n : W32) (b : Batch), s.admits { op := 0x0204, plen := 4 } i → s.batch n.toNat = some b →
    s.batchLive b.id = true → ∃ t, Runs (.solvBatchCancel i n) s t ∧
    t.mb.last = some ⟨i.src, i.tag, eOk, w32 (((s.solv.front.filter fun f => f.1 == b.id).length) + b.waiting.length), 0,
      0⟩) ∧
  (∀ (s : State) (i : Issue), s.admits { op := 0x0205, plen := 0 } i → Runs (.solvLaneStatus i) s
    (s.complete i eOk (s.rd 0x20004) (s.rd 0x2000C) (s.rd 0x20010))) ∧
  (∀ (s : State) (i : Issue) (lane : Byte), s.admits { op := 0x0206, plen := 1, async := true } i → lane.toNat ≤ 33 →
    s.laneRetired lane.toNat = false → s.lanePowered lane.toNat = true → s.laneInService lane.toNat = false → ∃ t,
    Runs (.solvLaneRetire i lane) s t ∧ t.laneRetired lane.toNat = true ∧
    t.mb.last = some ⟨i.src, i.tag, eOk, 0xFFFFFFFF, 0, 0⟩) ∧
  (∀ (s : State) (i : Issue) (p : Dbl) (r : Dbl), s.admits { op := 0x0207, plen := 16 } i → paramOk p = true →
    paramOk r = true → Runs (.solvParamSet i p r) s (((s.wr64 0x20018 p).wr64 0x20020 r).done i eOk)) ∧
  (∀ (s : State) (i : Issue) (buf : Buf), s.admits { op := 0x0301, plen := 8, pers := some 1, frozenNo := true } i →
    s.bufOk i.host false buf = true → leAt (s.rdBuf buf) 0 2 = 1 → netShape (s.rdBuf buf) = true →
    netTimes (s.rdBuf buf) = true → (∀ q, s.drift.sched = some q → netFitsSched (s.rdBuf buf) q = true) →
    (s.paired = true → netVolume (s.rdBuf buf) s.rounds ≤ 0x800000) → Runs (.driftNetConfig i buf) s
    (((s.takeNet (((s.periodAt s.now).map s.periodStart).getD 0)).setHd fun h => { h with netNext := some (s.now, s.rdBuf
      buf) }).done i eOk)) ∧
  (∀ (s : State) (i : Issue) (p : W32) (r : Byte) (st : W64), s.admits { op := 0x0302, plen := 13, frozenNo := true } i →
    1 ≤ p.toNat → p.toNat ≤ 3600 → 1 ≤ r.toNat → r.toNat ≤ 16 →
    (s.isHead = true → s.drift.hd.started = none ∧ ∀ b, s.netHeld = some b → netFitsSched b (p.toNat, r.toNat, st.toNat) =
      true ∧ (s.paired = true → netVolume b r.toNat ≤ 0x800000)) → Runs (.driftPeriodSet i p r st) s
    (({ s with drift := { s.drift with sched := some (p.toNat, r.toNat, st.toNat) } } : State).done i eOk)) ∧
  (∀ (s : State) (i : Issue) (buf : Buf), s.admits { op := 0x0303, plen := 8, pers := some 0, frozenNo := true } i →
    s.bufOk i.host false buf = true → leAt (s.rdBuf buf) 0 2 = 1 → s.tmplOk (s.rdBuf buf) = true →
    Runs (.driftTemplateSet i buf) s
    ((s.setSt fun t => { t with tmplNext := some (s.now, (s.probAt (tBase (s.rdBuf buf))).n, s.rdBuf buf) }).done i eOk)) ∧
  (∀ (s : State) (i : Issue) (p : Byte) (k : W16),
    s.admits { op := 0x0304, plen := 3, pers := some 0, frozenNo := true } i → 1 ≤ p.toNat → p.toNat ≤ 64 →
    k.toNat ≤ 1023 → s.bidQueued = false → Runs (.driftSlotSet i p k) s
    ((s.setSt fun t => { t with placeNext := some (s.now, p.toNat, k.toNat) }).done i eOk)) ∧
  (∀ (s : State) (i : Issue) (buf : Buf) (h : Byte), s.admits { op := 0x0305, plen := 9, pers := some 0 } i →
    8 ≤ buf.len.toNat → buf.len.toNat ≤ 512 → buf.len.toNat % 8 = 0 → 1 ≤ h.toNat → s.bufOk i.host false buf = true → ∃ t,
    Runs (.driftFallbackSet i buf h) s t ∧ t.drift.hold = h.toNat ∧
    t.drift.st.fallback = dblsOf (buf.len.toNat / 8) (s.rdBuf buf)) ∧
  (∀ (s : State) (i : Issue), ∀ b q, s.admits { op := 0x0306, plen := 0, pers := some 1, frozenNo := true } i →
    s.netHeld = some b → s.drift.sched = some q → 1 ≤ q.1 → s.standby = false → s.timeState = 2 →
    s.drift.hd.started = none → netFitsSched b q = true → ∃ t k, Runs (.driftStart i) s t ∧ t.drift.hd.started = some k ∧
    s.now + 1000000000 ≤ s.periodStart k) ∧
  (∀ (s : State) (i : Issue), s.admits { op := 0x0307, plen := 0, pers := some 1 } i → ∃ t, Runs (.driftStop i) s t ∧
    t.drift.hd.started = none ∧ t.drift.hd.ran = (s.drift.hd.ran && s.drift.hd.final != 0)) ∧
  (∀ (s : State) (i : Issue) (period : W32) (buf : Buf), s.bufOk i.host true buf = true → ∀ (round : Byte),
    let l := s.drift.hd.prices.filter fun q => keptHead s.nowPeriod q.1 && q.1 % 2 ^ 32 == period.toNat && q.2.1 ==
      round.toNat; let b := (sortBy (fun q => q.2.2.1) l).flatMap fun q => q.2.2.2;
    s.admits { op := 0x0308, plen := 13, pers := some 1 } i → l ≠ [] → b.length ≤ buf.len.toNat →
    Runs (.driftPricesRead i period round buf) s ((s.wrMem (s.winAddr buf.off) b).complete i eOk (w32 b.length) 0 0)) ∧
  (∀ (s : State) (i : Issue) (period : W32) (buf : Buf), s.bufOk i.host true buf = true →
    let l := s.drift.hd.plans.filter fun q => keptHead s.nowPeriod q.1 && q.1 % 2 ^ 32 == period.toNat;
    let b := (sortBy (fun q => q.2.1) l).flatMap fun q => planEntry q.2.1 q.2.2.1 q.2.2.2;
    s.admits { op := 0x0309, plen := 12 } i → s.isHead = true → l ≠ [] → b.length ≤ buf.len.toNat →
    Runs (.driftPlanRead i period buf) s ((s.wrMem (s.winAddr buf.off) b).complete i eOk (w32 b.length) 0 0)) ∧
  (∀ (s : State) (i : Issue) (period : W32) (buf : Buf), s.bufOk i.host true buf = true → ∀ (round : Byte) q,
    s.admits { op := 0x030A, plen := 13, pers := some 0 } i →
    (s.drift.st.bids.find? fun q => keptBid s.nowPeriod q.1 && q.1 == period.toNat && q.2.1 == round.toNat) = some q →
    q.2.2.length ≤ buf.len.toNat → Runs (.driftBidRead i period round buf) s
    ((s.wrMem (s.winAddr buf.off) q.2.2).complete i eOk (w32 q.2.2.length) (w32 (b2n ((q.2.2.getD 5 0).getLsbD 0))) 0)) ∧
  (∀ (s : State) (i : Issue) (loop : W16), loop.toNat ≤ 255 → let k := loop.toNat; ∀ (bank : Byte) (buf : Buf),
    s.admits { op := 0x0401, plen := 11 } i → s.bufOk i.host false buf = true →
    s.descStatus k bank.toNat (s.rdBuf buf) = eOk → Runs (.loopDescWrite i loop bank buf) s
    ((s.putPart k bank.toNat (s.rdBuf buf)).done i eOk)) ∧
  (∀ (s : State) (i : Issue) (loop : W16), loop.toNat ≤ 255 → let k := loop.toNat; ∀ (bank : Byte) (buf : Buf),
    s.admits { op := 0x0402, plen := 11 } i → bank.toNat ≤ 3 → s.bufOk i.host true buf = true →
    (s.partBytes k bank.toNat).length ≤ buf.len.toNat → Runs (.loopDescRead i loop bank buf) s
    ((s.wrMem (s.winAddr buf.off) (s.partBytes k bank.toNat)).complete i eOk (w32 (s.partBytes k bank.toNat).length) 0 0)) ∧
  (∀ (s : State) (i : Issue) (loop : W16), loop.toNat ≤ 255 → let k := loop.toNat;
    s.admits { op := 0x0403, plen := 2, frozenNo := true, async := true } i → s.swapRefusal k = 0 → ∃ t o,
    Runs (.loopBankSwap i loop) s t ∧ t.swapPend k = true ∧ t.mb.outstanding = s.mb.outstanding ++ [o]) ∧
  (∀ (s : State) (i : Issue) (loop : W16), loop.toNat ≤ 255 → let k := loop.toNat; ∀ (mode : Byte) (man : Dbl),
    s.admits { op := 0x0404, plen := 11, frozenNo := true } i → mode.toNat % 8 ≤ 2 → mode &&& 0x78 = 0 →
    dFinite man = true → (mode.toNat % 8 = 0 ∨ s.loopLive k = true ∨ (s.loopUnset k = false ∧ s.loadFails k = none)) →
    Runs (.loopModeSet i loop mode man) s ((s.setReq k (some (mode.toNat % 8, mode.getLsbD 7, some man))).done i eOk)) ∧
  (∀ (s : State) (i : Issue) (loop : W16), loop.toNat ≤ 255 → let k := loop.toNat; ∀ (nc : Byte) (amp : Dbl) (hyst : Dbl),
    s.admits { op := 0x0405, plen := 19, frozenNo := true } i → 2 ≤ nc.toNat → nc.toNat ≤ 16 → dFinite amp = true →
    dLt dZero amp = true → dFinite hyst = true → dLe dZero hyst = true →
    (∀ v ∈ [dAdd (s.lrun k).uPrev amp, dSub (s.lrun k).uPrev amp], dLe (dblAt (s.lbank k (s.actBank k)) 72) v = true ∧ dLe
      v (dblAt (s.lbank k (s.actBank k)) 80) = true) → (s.lmode k = 1 ∨ s.lmode k = 2) → s.loop.tune = none →
    (∀ j < 256, s.lmode j ≠ 3) → Runs (.loopTuneStart i loop nc amp hyst) s
    (({ s with loop := { s.loop with tune := some { loop := k, nc := nc.toNat, d := amp, h := hyst } } } : State).done i
      eOk)) ∧
  (∀ (s : State) (i : Issue) (loop : W16), loop.toNat ≤ 255 → let k := loop.toNat;
    s.admits { op := 0x0406, plen := 2 } i → s.fld 0x30030 7 0 = k → Runs (.loopTuneResult i loop) s
    (s.complete i eOk (s.rd 0x30034) (s.rd 0x30038) (s.rd 0x3003C))) ∧
  (∀ (s : State) (i : Issue) (loop : W16), loop.toNat ≤ 255 → let k := loop.toNat;
    s.admits { op := 0x0407, plen := 2 } i → Runs (.loopStatus i loop) s
    (s.complete i eOk (s.rd (lReg k 8)) (s.rd (lReg k 0)) (s.rd (lReg k 4)))) ∧
  (∀ (s : State) (i : Issue) (op : W16), s.recovery = false → (s.persMismatch = false ∨ mismatchClass op.toNat = true) →
    Runs (.unknownOpcode i op) s (s.done i eOpcode))

/-- The commands of the classes CYC, MTR, TIME and CAL: each completes with its effect where its class admits it and the
state and operands are as named.
Answers a next state, in the effect that its clause gives: cycLoad, cycStart, cycStop, cycOnlineChange, cycForceSet,
cycForceClear, cycForceList, cycTaskStatus, cycVarRead, cycVarWrite, mtrChanConfig, mtrEnergyRead, mtrDeltaRead,
mtrCalStart, mtrPulseConfig, mtrHeatConfig, mtrHeatRead, mtrSaveNow, timeRead, timeSet, timeState, timePortCorr,
timePtpConfig, timeEventConfig, calRead, calWrite, calDstShift, calAlarmSet, calTrimMeasure, calTrimSet. -/
def Obligations.CycMtrTimeCalCommandsComplete : Prop :=
  (∀ (s : State) (i : Issue) (buf : Buf), let b := s.rdBuf buf;
    let p := progOf s.decKeys b (i.env.prog.getD { syms := [] }); s.admits { op := 0x0501, plen := 8 } i →
    s.bufOk i.host false buf = true → s.cycState ≠ 3 → progWhole s.decKeys b = true → i.env.prog.isSome = true →
    leAt (progSection s.decKeys b 0x50) 8 2 ≤ s.runtimeVer → cLength b ≤ 0xC0000 →
    progLayout s.decKeys b p (s.port.groups.map fun g => g.group) s.loopPwms = true → Runs (.cycLoad i buf) s
    ((({ s with cyc := { s.cyc with pend := some p } } : State).showProgs).complete i eOk p.ver 0 0)) ∧
  (∀ (s : State) (i : Issue), s.admits { op := 0x0502, plen := 1, frozenNo := true } i → ∀ p, s.cyc.act = some p →
    s.cyc.pend = none → (s.cycState = 1 ∨ s.cycState = 5) → Runs (.cycStart i 0) s
    (((s.prepare p true).run p).done i eOk)) ∧
  (∀ (s : State) (i : Issue), s.admits { op := 0x0503, plen := 0, async := true } i → s.cycState = 2 →
    let u := ((s.startAsync (.cycStop i) i).setCycState 4).takeWrites fun _ => true;
    let l := (u.cyc.act.map fun p => p.tasks).getD []; Runs (.cycStop i) s
    ((l.foldl (fun t d => if t.inCycle d.task then t else (t.setPhase d.task 6).parkTask d) u).stopCheck)) ∧
  (∀ (s : State) (i : Issue), ∀ old new, s.admits { op := 0x0504, plen := 0, frozenNo := true, async := true } i →
    s.cyc.act = some old → s.cyc.pend = some new → s.cycState = 2 → changeRefused old new = none →
    s.progVerified new = true → ∃ t o, Runs (.cycOnlineChange i) s t ∧ t.cycState = 3 ∧
    t.mb.outstanding = s.mb.outstanding ++ [o]) ∧
  (∀ (s : State) (i : Issue) (sym : W32) (ty : Byte) (v : W64) x, s.admits { op := 0x0505, plen := 13 } i →
    s.activeSym sym = some x → x.ty = ty.toNat → 1 ≤ ty.toNat → ty.toNat ≤ 12 → forceOk ty.toNat v = true →
    s.cyc.forces.length < 1024 → ∃ t, Runs (.cycForceSet i sym ty v) s t ∧
    kfind t.cyc.forces sym.toNat = some (ty.toNat, v) ∧ t.rd 0x40018 = w32 t.cyc.forces.length) ∧
  (∀ (s : State) (i : Issue) (sym : W32), s.admits { op := 0x0506, plen := 4 } i → sym ≠ 0xFFFFFFFF → ∃ t,
    Runs (.cycForceClear i sym) s t ∧ kfind t.cyc.forces sym.toNat = none) ∧
  (∀ (s : State) (i : Issue) (buf : Buf),
    let b := s.cyc.forces.flatMap fun f => leBytes 4 f.1 ++ [BitVec.ofNat 8 f.2.1, 0] ++ leBytes 2 (((s.activeSym (w32
      f.1)).map fun x => x.mask).getD 0) ++ le8 f.2.2; s.admits { op := 0x0507, plen := 8 } i →
    s.bufOk i.host true buf = true → b.length ≤ buf.len.toNat → Runs (.cycForceList i buf) s
    ((s.wrMem (s.winAddr buf.off) b).complete i eOk (w32 s.cyc.forces.length) 0 0)) ∧
  (∀ (s : State) (i : Issue) (t : Byte) p d, s.admits { op := 0x0508, plen := 1 } i → s.cyc.act = some p →
    p.task? t.toNat = some d → Runs (.cycTaskStatus i t) s
    (s.complete i eOk (w32 (10 * d.period)) (s.rd (tReg t.toNat 0x10C)) (w32 (kget 0 s.cyc.longest t.toNat)))) ∧
  (∀ (s : State) (i : Issue) (sym : W32) (buf : Buf) x, s.admits { op := 0x0509, plen := 12 } i →
    s.activeSym sym = some x → s.bufOk i.host true buf = true → x.len ≤ buf.len.toNat → Runs (.cycVarRead i sym buf) s
    ((s.wrMem (s.winAddr buf.off) (s.rdMem (symPlace x) x.len)).complete i eOk (w32 x.len) 0 0)) ∧
  (∀ (s : State) (i : Issue) (sym : W32) (buf : Buf) x, s.admits { op := 0x050A, plen := 12, async := true } i →
    s.activeSym sym = some x → s.bufOk i.host false buf = true → buf.len.toNat = x.len → s.cycState = 2 → ∃ t o,
    Runs (.cycVarWrite i sym buf) s t ∧ t.mb.outstanding = s.mb.outstanding ++ [o] ∧ o.iss = i) ∧
  (∀ (s : State) (i : Issue) (c : Byte) (g : Dbl) (o : Dbl) (d : W16), s.admits { op := 0x0601, plen := 19 } i →
    s.metroLock = false → c.toNat ≤ 15 → dMag g ≠ 0 → dFinite g = true → dFinite o = true → -2048 ≤ d.toInt →
    d.toInt ≤ 2048 → (c.toNat < 12 → dLe (fullRating (s.gainWith c.toNat g) (c.toNat / 6)) (dOfInt 21000) = true) →
    s.calOf c.toNat = false → ∃ t, Runs (.mtrChanConfig i c g o d) s t ∧ t.gainOf c.toNat = g ∧ t.offsetOf c.toNat = o) ∧
  (∀ (s : State) (i : Issue) (y : Byte) (p : Byte) (q : Byte), s.admits { op := 0x0602, plen := 3 } i →
    accOk y p q = true → Runs (.mtrEnergyRead i y p q) s
    (s.complete i eOk (s.rd (accReg y.toNat p.toNat q.toNat)) (s.rd (accReg y.toNat p.toNat q.toNat + 4)) (s.rd 0x50018))) ∧
  (∀ (s : State) (i : Issue) (y : Byte) (p : Byte) (q : Byte), s.admits { op := 0x0603, plen := 3 } i →
    accOk y p q = true → Runs (.mtrDeltaRead i y p q) s
    (s.complete i eOk (s.rd (accReg y.toNat p.toNat q.toNat)) (w32 (s.fld (accReg y.toNat p.toNat q.toNat + 4) 7 0)) 0)) ∧
  (∀ (s : State) (i : Issue) (c : Byte) (buf : Buf), s.admits { op := 0x0604, plen := 9, async := true } i →
    s.metroLock = false → s.bufOk i.host false buf = true → calBufOk c.toNat (s.rdBuf buf) = true → s.mtr.cal = none →
    ∃ t r, Runs (.mtrCalStart i c buf) s t ∧ t.mtr.cal = some r ∧ r.channel = c.toNat) ∧
  (∀ (s : State) (i : Issue) (k : Byte) (c : W32) (w : W16), s.admits { op := 0x0605, plen := 7 } i →
    s.metroLock = false → k.toNat ≤ 3 → 1000 ≤ c.toNat → 10 ≤ w.toNat → w.toNat ≤ 500 → ∃ t,
    Runs (.mtrPulseConfig i k c w) s t ∧ t.rd (poutReg k.toNat 0) = c ∧ t.fld (poutReg k.toNat 4) 15 0 = w.toNat) ∧
  (∀ (s : State) (i : Issue) (c : Byte) (buf : Buf), let b := sliceB (s.rdBuf buf) 0 32;
    s.admits { op := 0x0606, plen := 9 } i → s.metroLock = false → c.toNat ≤ 3 → 32 ≤ buf.len.toNat →
    s.bufOk i.host false buf = true → leAt b 0 2 ≤ 1 → s.heatOk b = true → ∃ t, Runs (.mtrHeatConfig i c buf) s t ∧
    (kget {} t.mtr.heat c.toNat).next = some b ∧ (kget {} t.mtr.heat c.toNat).cfg = (kget {} s.mtr.heat c.toNat).cfg) ∧
  (∀ (s : State) (i : Issue) (c : Byte) (buf : Buf),
    let b := (List.range 24).flatMap fun j => leBytes 4 (s.rd (heatReg c.toNat (4 * j))).toNat;
    s.admits { op := 0x0607, plen := 9 } i → c.toNat ≤ 3 → 96 ≤ buf.len.toNat → s.bufOk i.host true buf = true →
    Runs (.mtrHeatRead i c buf) s ((s.wrMem (s.winAddr buf.off) b).complete i eOk 96 0 0)) ∧
  (∀ (s : State) (i : Issue), s.admits { op := 0x0608, plen := 0, async := true } i → ∃ t o, Runs (.mtrSaveNow i) s t ∧
    t.bit 0x51700 1 = true ∧ t.mb.outstanding = s.mb.outstanding ++ [o]) ∧
  (∀ (s : State) (i : Issue), s.admits { op := 0x0701, plen := 0 } i → let u := s.timeEdges 2; Runs (.timeRead i) s
    (u.complete i eOk (lo32 u.time.ns) (hi32 u.time.ns) u.time.frac)) ∧
  (∀ (s : State) (i : Issue) (v : W64), s.admits { op := 0x0702, plen := 8 } i → s.timeState = 0 →
    s.time.pendStep = none → s.servoWins = false → ∃ t, Runs (.timeSet i v) s t ∧ t.time.ns = v ∧ t.time.frac = 0) ∧
  (∀ (s : State) (i : Issue), s.admits { op := 0x0703, plen := 0 } i → Runs (.timeState i) s
    (s.complete i eOk (w32 (s.fld 0x60004 7 0)) (s.rd 0x60024) (i32 (adjPpb (s.rd 0x60020).toInt)))) ∧
  (∀ (s : State) (i : Issue) (p : Byte) (x : W32) (y : W32) (z : W32), s.admits { op := 0x0704, plen := 13 } i →
    p.toNat ≤ 3 → x.msb = false → y.msb = false → Runs (.timePortCorr i p x y z) s
    ((((s.wr (tpReg p.toNat 0x100) x).wr (tpReg p.toNat 0x104) y).wr (tpReg p.toNat 0x108) z).done i eOk)) ∧
  (∀ (s : State) (i : Issue) (buf : Buf), s.admits { op := 0x0705, plen := 8 } i → s.bufOk i.host false buf = true →
    ptpStatus (s.rdBuf buf) = eOk → Runs (.timePtpConfig i buf) s ((s.setPtp (ptpOf (s.rdBuf buf))).done i eOk)) ∧
  (∀ (s : State) (i : Issue) (p : Byte) (m : Byte), s.admits { op := 0x0706, plen := 2 } i → p.toNat ≤ 3 → m.toNat ≤ 5 →
    ∃ t, Runs (.timeEventConfig i p m) s t ∧ t.fld (tpReg p.toNat 0x200) 2 0 = m.toNat) ∧
  (∀ (s : State) (i : Issue), s.admits { op := 0x0801, plen := 0 } i → s.isHead = false →
    let b := (s.groupBytes 0).map fun x => x.toNat; Runs (.calRead i) s
    ((s.freeShadow 0).complete i eOk (s.calW0 b) (calW1 b) 0)) ∧
  (∀ (s : State) (i : Issue) (v : W64) (c : Byte) n, s.admits { op := 0x0802, plen := 9 } i → let f := byteOf v;
    secsOf (f 0) (f 1) (f 2) (f 4) (f 5) (f 6) = some n → f 3 = 0 → f 7 ≤ 1 → c.toNat ≤ 1 → c = 1 → ∃ t,
    Runs (.calWrite i v c) s t ∧ t.cal.secs = n ∧ t.calValid = true ∧ t.bit aCalStatus 1 = decide (f 7 = 1)) ∧
  (∀ (s : State) (i : Issue) (d : Byte), (d = 1 ∨ d = 0xFF) → s.admits { op := 0x0803, plen := 1 } i →
    s.shiftRefused (d == 1) i.env.roll = false → let base := if i.env.roll then s.nextSec else s.cal.secs; ∃ t,
    Runs (.calDstShift i d) s t ∧ t.cal.secs = (if d = 1 then (base + 3600) % calSpan else base - 3600) ∧
    t.bit aCalStatus 1 = decide (d = 1)) ∧
  (∀ (s : State) (i : Issue) (k : Byte) (v : W64) (m : Byte), s.admits { op := 0x0804, plen := 10 } i → k.toNat ≤ 1 →
    byteOf v 7 ≤ 1 → m.getLsbD 7 = false → (∀ f < 7, m.getLsbD f = false → almInRange f (byteOf v f) = true) →
    (m.getLsbD 4 = false → m.getLsbD 5 = false → ofBcd (byteOf v 4) ≤ (monthDays 0).getD (ofBcd (byteOf v 5) - 1) 0) →
    ∃ t, Runs (.calAlarmSet i k v m) s t ∧ t.almField k.toNat 3 = byteOf v 3 % 8 ∧
    t.bit (calReg (0x88 + 16 * k.toNat)) 8 = decide (byteOf v 7 = 1)) ∧
  (∀ (s : State) (i : Issue) (y : Byte) (n : W16), s.admits { op := 0x0805, plen := 3, async := true } i → y.toNat ≤ 2 →
    10 ≤ n.toNat → s.calValid = true → s.cal.meas = none → ∃ t, Runs (.calTrimMeasure i y n) s t ∧
    t.cal.meas = some { id := s.mb.serial, source := y.toNat, seconds := n.toNat, lost := y.toNat != 2 &&
      s.loop.meterBad.contains (64 * y.toNat + 22) }) ∧
  (∀ (s : State) (i : Issue) (v : W16), s.admits { op := 0x0806, plen := 2 } i → -5000 ≤ v.toInt → v.toInt ≤ 5000 →
    Runs (.calTrimSet i v) s
    (((s.wr 0x70050 (w32 v.toNat)).postFirn 0x0805 (i32 (BitVec.ofNat 16 (s.fld 0x70050 15 0)).toInt) (i32 v.toInt) (i32
      s.cal.lastE)).done i eOk))

/-- The commands of the classes NET, PAIR, FAULT, LOG, IMG, KEY and PWR: each completes with its effect where its class
admits it and the state and operands are as named.
Answers a next state, in the effect that its clause gives: netPortConfig, netPortStatus, netAddrSet, netVlanSet,
netMacsecSa, netQueueConfig, netUartConfig, netFrameSend, pairConfig, pairStatus, pairMirrorSet, pairSwap, pairResync,
faultStatus, faultReadAll, faultClear, faultSafeSet, faultTest, logRead, logStatus, logFlush, logRateSet, logSeal, logWrite,
imgOpen, imgWrite, imgClose, imgActivate, imgStatus, imgAvalancheStart, keyDerive, keyInvalidate, keySlotInfo,
keyTamperStatus, keyTamperConfig, keyDebugUnlock, pwrDomainSet, pwrStatus, pwrThermalRead, pwrRepairStatus. -/
def Obligations.OtherCommandsComplete : Prop :=
  (∀ (s : State) (i : Issue) (p : Byte) (buf : Buf), s.admits { op := 0x0901, plen := 9 } i →
    s.bufOk i.host false buf = true → p.toNat ≤ 3 → portStatus p.toNat (s.rdBuf buf) = eOk →
    (p.toNat = 3 → s.paired = false) → s.bit aDomBusy (0x10 + p.toNat) = false → Runs (.netPortConfig i p buf) s
    ((s.setPortCfg p.toNat (portOf (s.rdBuf buf))).done i eOk)) ∧
  (∀ (s : State) (i : Issue) (p : Byte), s.admits { op := 0x0902, plen := 1 } i → p.toNat ≤ 3 →
    Runs (.netPortStatus i p) s
    (s.complete i eOk (s.rd (pReg p.toNat 0x104)) (s.rd (pReg p.toNat 0x108)) (s.rd (pReg p.toNat 0x110) + s.rd (pReg
      p.toNat 0x114) + s.rd (pReg p.toNat 0x124) + s.rd (pReg p.toNat 0x128)))) ∧
  (∀ (s : State) (i : Issue) (a : W16), s.admits { op := 0x0903, plen := 2 } i → 1 ≤ a.toNat → a.toNat ≤ 16382 →
    s.driftBusy = false → Runs (.netAddrSet i a) s
    (((s.wr 0x80008 (w32 a.toNat)).setConf fun c => { c with address := a }).done i eOk)) ∧
  (∀ (s : State) (i : Issue) (p : Byte) (buf : Buf), s.admits { op := 0x0904, plen := 9 } i → p.toNat ≤ 4 →
    s.bufOk i.host false buf = true → vlanBytesOk (s.rdBuf buf) = true →
    (s.vidsWith p.toNat (vlansOf (s.rdBuf buf))).length ≤ 64 → Runs (.netVlanSet i p buf) s
    (({ s with port := { s.port with vlans := kset s.port.vlans p.toNat (vlansOf (s.rdBuf buf)) } } : State).done i eOk)) ∧
  (∀ (s : State) (i : Issue) (p : Byte) (d : Byte) (an : Byte) (slot : Byte) (pn : W64),
    s.admits { op := 0x0905, plen := 12 } i → p.toNat ≤ 3 → d.toNat ≤ 1 → an.toNat ≤ 3 → slot.toNat ≤ 127 →
    s.slotValid slot.toNat = true → (s.slot slot.toNat).usage = 0x02 → (s.portCfg p.toNat).required = true → pn ≠ 0 →
    pn.toNat ≤ pnMax (s.portCfg p.toNat).xpn → ∃ t, Runs (.netMacsecSa i p d an slot pn) s t ∧
    t.port.sas = s.port.sas.filter (fun b => !(b.port == p.toNat && b.dir == d.toNat && (d.toNat == 0 || b.an ==
      an.toNat))) ++ [⟨p.toNat, d.toNat, an.toNat, slot.toNat, pn.toNat, false⟩]) ∧
  (∀ (s : State) (i : Issue) (p : Byte) (q : Byte) (buf : Buf), s.admits { op := 0x0906, plen := 10 } i → p.toNat ≤ 3 →
    q.toNat ≤ 7 → s.bufOk i.host false buf = true → gateOk (s.rdBuf buf) = true → let g := gateOf (s.rdBuf buf);
    Runs (.netQueueConfig i p q buf) s
    (({ s with port := { s.port with gatesNext := kset s.port.gatesNext (p.toNat * 8 + q.toNat) (gateStart g s.now, g) } }
      : State).done i eOk)) ∧
  (∀ (s : State) (i : Issue) (u : Byte) (buf : Buf) (c : UartCfg), s.admits { op := 0x0907, plen := 9 } i → u.toNat ≤ 3 →
    s.bufOk i.host false buf = true → i.env.uart = some c → uartOk c = true → c.timeout ≤ 2000 →
    Runs (.netUartConfig i u buf) s
    (({ s with port := { s.port with uarts := kset s.port.uarts u.toNat c } } : State).done i eOk)) ∧
  (∀ (s : State) (i : Issue) (p : Byte) (q : Byte) (l : W64) (buf : Buf), let b := s.rdBuf buf;
    s.admits { op := 0x0908, plen := 18, frozenNo := true, async := true } i → p.toNat ≤ 3 → q.toNat ≤ 7 → 14 ≤ b.length →
    s.bufOk i.host false buf = true → l.toNat ≤ s.now + 16000000000 →
    (isCmdFrame b = true → s.standby = false ∧ s.persMismatch = false) → (isField b = true → s.address ≠ 0) →
    s.linkUp p.toNat = true → s.pairBars p.toNat b = false → driftStops (s.portCfg p.toNat) p.toNat b = false →
    s.hasRoom p.toNat q.toNat b.length = true → ∃ t, Runs (.netFrameSend i p q l buf) s t ∧
    t.queue p.toNat q.toNat = s.queue p.toNat q.toNat ++ [{ bytes := b, launch := l.toNat, origin := .command s.mb.serial
      }]) ∧
  (∀ (s : State) (i : Issue) (buf : Buf) r, let b := s.rdBuf buf; s.admits { op := 0x0A01, plen := 8 } i →
    s.bufOk i.host false buf = true → leAt b 0 2 = 1 → pairCfgOk b = true → s.pairState ≠ 5 → s.pairState ≠ 6 →
    s.cfg = some r → ∃ t, Runs (.pairConfig i buf) s t ∧ t.cfg = some { r with pair := pairCfgOf b } ∧
    t.pair.cfg = PairCfg.inForce s.pair.cfg (pairCfgOf b)) ∧
  (∀ (s : State) (i : Issue), s.admits { op := 0x0A02, plen := 0 } i → Runs (.pairStatus i) s
    (s.complete i eOk (s.rd aPairState) (s.rd aClaim) (s.rd aPClaim))) ∧
  (∀ (s : State) (i : Issue) (k : Byte) (b : W32) (l : W32),
    let u := (s.wr (0x90100 + 8 * k.toNat) b).wr (0x90104 + 8 * k.toNat) l; s.admits { op := 0x0A03, plen := 9 } i →
    s.regionOk k.toNat b.toNat l.toNat = true → s.pairState ≠ 3 → s.pairState ≠ 4 → s.pairState ≠ 5 →
    u.regionTotal 0 64 ≤ 0x800000 → u.regionTotal 64 16 ≤ 0x400000 → ∃ t, Runs (.pairMirrorSet i k b l) s t ∧
    t.region k.toNat = (b.toNat, l.toNat) ∧ t.mb.last = some ⟨i.src, i.tag, eOk, 0, 0, 0⟩) ∧
  (∀ (s : State) (i : Issue), s.admits { op := 0x0A04, plen := 0, frozenNo := true, async := true } i →
    s.standby = false → s.pairState = 2 → s.pairLink = true → s.swapOk = true → ∃ t, Runs (.pairSwap i) s t ∧
    t.pairState = 6 ∧ t.bit aIl 0 = false) ∧
  (∀ (s : State) (i : Issue), s.admits { op := 0x0A05, plen := 0, async := true } i → s.pairState = 4 →
    s.pairLink = true → ∃ t, Runs (.pairResync i) s t ∧ t.pairState = 5 ∧ t.pair.rsFirst = true) ∧
  (∀ (s : State) (i : Issue), s.admits { op := 0x0B01, plen := 0 } i → Runs (.faultStatus i) s
    (s.complete i eOk (w32 (s.fld 0xA000C 7 0 + b2n (s.bit 0xA0008 2) * 2 ^ 31)) (w32 (b2n (s.bit 0xA0008 3) + s.fld
      0xA0008 15 8 * 256)) (w32 s.assertedList.length))) ∧
  (∀ (s : State) (i : Issue) (buf : Buf), s.admits { op := 0x0B02, plen := 8 } i → 72 ≤ buf.len.toNat →
    s.bufOk i.host true buf = true → Runs (.faultReadAll i buf) s
    ((s.wrMem (s.winAddr buf.off) s.faultRecord).complete i eOk 72 0 0)) ∧
  (∀ (s : State) (i : Issue), s.admits { op := 0x0B03, plen := 0 } i → s.frozen = true →
    s.assertedWith i.env.rising = [] → s.onTrial = false → ∃ t, Runs (.faultClear i) s t ∧ t.frozen = false ∧
    t.bit 0xA0008 2 = false) ∧
  (∀ (s : State) (i : Issue) (o : W16) (v : W64), s.admits { op := 0x0B04, plen := 10 } i → safeOk o.toNat v = true → ∃ t,
    Runs (.faultSafeSet i o v) s t ∧ (o.toNat < 24 → t.safeGpio o.toNat = v.toNat) ∧
    (0x100 ≤ o.toNat → o.toNat < 0x110 → t.safePwm (o.toNat - 0x100) = v) ∧
    (0x200 ≤ o.toNat → t.bit 0xA0108 (o.toNat - 0x200) = decide (v.toNat = 1))) ∧
  (∀ (s : State) (i : Issue) (n : Byte), s.admits { op := 0x0B05, plen := 1 } i → sourceDefined n.toNat = true →
    s.conf.testAllow = true → s.fld 0x90008 3 0 ≠ 2 → Runs (.faultTest i n) s
    (((s.faultTest n.toNat).done i eOk).latchedSince s i.env.boot)) ∧
  (∀ (s : State) (i : Issue) (f : W64) (n : W32) (c : W16) (buf : Buf), s.admits { op := 0x0C01, plen := 22 } i →
    1 ≤ n.toNat → n.toNat ≤ 4096 → 32 ≤ buf.len.toNat → s.bufOk i.host true buf = true →
    let q := max (s.seqOf f.toNat) (s.log.oldest.getD s.logNext);
    let l := s.selectRecords c.toNat q (s.logNext - q) (min n.toNat (buf.len.toNat / 32)); Runs (.logRead i f n c buf) s
    ((s.wrMem (s.winAddr buf.off) l.flatten).complete i eOk (w32 l.length) 0 0)) ∧
  (∀ (s : State) (i : Issue), s.admits { op := 0x0C02, plen := 0 } i → Runs (.logStatus i) s
    (s.complete i eOk (if s.log.written then w32 (s.logNext - 1) else 0) (w32 (s.log.oldest.getD 0)) (s.rd 0xB0020))) ∧
  (∀ (s : State) (i : Issue), s.admits { op := 0x0C03, plen := 0, async := true } i → s.bit 0xB0004 0 = true →
    s.log.flush = none → ∃ t, Runs (.logFlush i) s t ∧ t.log.flush = some s.logNext) ∧
  (∀ (s : State) (i : Issue) (c : W16) (r : W16) (b : W16), s.sound → s.admits { op := 0x0C04, plen := 6 } i →
    limitedCode c.toNat = true → r.toNat ≤ 1000 → 1 ≤ b.toNat → b.toNat ≤ 255 →
    (s.rateOf c.toNat ≠ none ∨ s.rateFree ≠ none) → ∃ t e, Runs (.logRateSet i c r b) s t ∧ e < 1023 ∧
    t.rd (0xB1000 + 8 * e) = w32 (0x80000000 + c.toNat)) ∧
  (∀ (s : State) (i : Issue) (k : Byte) (f : W64) (l : W64), s.admits { op := 0x0C05, plen := 17, async := true } i →
    k.toNat ≤ 127 → s.seqOf f.toNat ≤ s.seqOf l.toNat → s.seqOf l.toNat - s.seqOf f.toNat < 262143 →
    s.slotValid k.toNat = true → (s.slot k.toNat).usage = 0x03 → ∃ t, Runs (.logSeal i k f l) s t ∧
    t.log.seals = s.log.seals ++ [⟨s.mb.serial, k.toNat, s.seqOf f.toNat, s.seqOf l.toNat, false⟩]) ∧
  (∀ (s : State) (i : Issue) (c : W16) (x : W32) (y : W32) (z : W32), s.admits { op := 0x0C06, plen := 14 } i →
    0x0C80 ≤ c.toNat → c.toNat ≤ 0x0CFF → s.log.fifo = [] → s.log.waitWrites = [] → s.log.unset = false →
    s.log.lostPend = 0 → s.unflushed ≤ 4094 → ∃ t, Runs (.logWrite i c x y z) s t ∧ t.rd64 0xB0010 = w64 (s.logNext + 1) ∧
    t.log.fifo = []) ∧
  (∀ (s : State) (i : Issue) (k : Byte) (n : W32), s.admits { op := 0x0D01, plen := 5 } i → k.toNat ≤ 1 →
    n.toNat % 64 = 0 → 192 ≤ n.toNat → n.toNat ≤ 0x600000 → (k.toNat ≠ s.running ∨ s.recovery = true) →
    s.slotState k.toNat ≠ slTrial → s.boot.opened = none → s.receiving k.toNat = false → ∃ t, Runs (.imgOpen i k n) s t ∧
    t.slotState k.toNat = slWriting ∧ t.slotVersion k.toNat = 0) ∧
  (∀ (s : State) (i : Issue) (o : W32) (buf : Buf) (k : Nat) (n : Nat), s.admits { op := 0x0D02, plen := 12 } i →
    s.boot.opened = some (k, n) → o.toNat + buf.len.toNat ≤ n → buf.len.toNat ≤ 65536 → s.bufOk i.host false buf = true →
    let u := s.wrMem (slotBase k + o.toNat) (s.rdBuf buf); ∃ l, Runs (.imgWrite i o buf) s
    (({ u with boot := { u.boot with blocks := l } } : State).done i eOk)) ∧
  (∀ (s : State) (i : Issue), ∀ k n, s.admits { op := 0x0D03, plen := 0 } i → s.boot.opened = some (k, n) → k ≤ 1 →
    s.boot.blocks.length = nBlocks n → s.slotCheck k = none → cLength (s.slotBytes k) ≤ n → ∃ t, Runs (.imgClose i) s t ∧
    t.slotState k = slStaged ∧ t.attempts k = 0) ∧
  (∀ (s : State) (i : Issue), s.admits { op := 0x0D04, plen := 1, frozenNo := true, async := true } i →
    s.boot.activating = none → s.slotState s.running ≠ slTrial → Runs (.imgActivate i 0) s
    (((s.trialStaged).done i eOk).systemReset 3 i.env.boot)) ∧
  (∀ (s : State) (i : Issue), s.admits { op := 0x0D05, plen := 0 } i → Runs (.imgStatus i) s
    (s.complete i eOk (w32 (s.fld 0xC0004 8 0)) (s.rd 0xC0008) (s.slotVersion s.running))) ∧
  (∀ (s : State) (i : Issue) (p : Byte) (k : Byte), s.admits { op := 0x0D06, plen := 2, pers := some 1 } i → p.toNat ≤ 1 →
    k.toNat ≤ 1 → s.standby = false →
    (s.slotState k.toNat = slStaged ∨ s.slotState k.toNat = slTrial ∨ s.slotState k.toNat = slGood) →
    kfind s.boot.tx p.toNat = none → s.downAddr p.toNat ≠ 0 → ∃ t, Runs (.imgAvalancheStart i p k) s t ∧
    (∃ x, kfind t.boot.tx p.toNat = some x ∧ x.slot = k.toNat ∧ x.next = 0 ∧ x.announced = false ∧ x.suspended = false)) ∧
  (∀ (s : State) (i : Issue) (p : Byte) (n : Byte) (u : Byte) (l : Buf), let g := (s.deriveTarget n).getD 0;
    s.admits { op := 0x0E01, plen := 11 } i → s.bufOk i.host false l = true → p ≠ 0xFF →
    s.deriveStatus p n u (s.rdBuf l).length = eOk → s.validUp 9 p.toNat = true → i.env.icv = true → ∃ t,
    Runs (.keyDerive i p n u l) s t ∧ t.slotValid g = true ∧ (t.slot g).parent = p.toNat) ∧
  (∀ (s : State) (i : Issue) (n : Byte), s.admits { op := 0x0E02, plen := 1 } i →
    (n.toNat = 0 ∨ (4 ≤ n.toNat ∧ n.toNat ≤ 127)) → ∃ t, Runs (.keyInvalidate i n) s t ∧
    t.mb.last = some ⟨i.src, i.tag, eOk, w32 (s.validDescendants n.toNat), 0, 0⟩ ∧
    (t.slot n.toNat).gen = (bumpGen (s.slot n.toNat)).gen) ∧
  (∀ (s : State) (i : Issue) (n : Byte), s.admits { op := 0x0E03, plen := 1 } i → n.toNat ≤ 127 → let k := s.slot n.toNat;
    Runs (.keySlotInfo i n) s
    (s.complete i eOk (w32 (k.parent % 128 + b2n (s.slotValid n.toNat) * 128 + k.usage.toNat * 256 + k.depth % 16 * 65536
      + b2n k.bad * 2 ^ 20 + b2n k.fixed * 2 ^ 21)) (w32 k.gen) (if n.toNat = 0 then s.key.rootId else w32 k.pgen))) ∧
  (∀ (s : State) (i : Issue), s.admits { op := 0x0E04, plen := 0 } i → Runs (.keyTamperStatus i) s
    (s.complete i eOk (w32 s.key.latched.toNat) (w32 s.key.live.toNat) (w32 (b2n (s.slotValid 0) + b2n s.key.zeroized * 2
      + b2n s.key.debug * 4)))) ∧
  (∀ (s : State) (i : Issue) (n : Byte) (m : Byte), s.admits { op := 0x0E05, plen := 2 } i →
    s.tamperStatus n.toNat m.toNat = eOk → ∃ t, Runs (.keyTamperConfig i n m) s t ∧ t.tamperMode n.toNat = m.toNat ∧
    t.mb.last = some ⟨i.src, i.tag, eOk, 0, 0, 0⟩) ∧
  (∀ (s : State) (i : Issue) (buf : Buf), s.admits { op := 0x0E06, plen := 8 } i → buf.len.toNat = 88 →
    s.bufOk i.host false buf = true → s.key.debug = false → s.key.refused < 3 → s.noDebugKey = false →
    sliceB (s.rdBuf buf) 0 16 = s.key.challenge → s.responseOk (s.rdBuf buf) = true → ∃ t, Runs (.keyDebugUnlock i buf) s
    t ∧ t.key.debug = true ∧ t.key.scope = w32 (leAt (s.rdBuf buf) 16 4) ∧ t.key.masked = some (bumpGen (s.slot 0))) ∧
  (∀ (s : State) (i : Issue) (d : Byte) (o : Byte),
    s.admits { op := 0x0F01, plen := 2, frozenNo := true, async := true } i → domainCode d.toNat = true → o.toNat ≤ 1 →
    s.bit aDomBusy d.toNat = false → s.bit aDomOn d.toNat ≠ (o == 1) → s.domainRefused i.host d.toNat (o == 1) = false →
    ∃ t, Runs (.pwrDomainSet i d o) s t ∧ t.bit aDomReq d.toNat = (o == 1) ∧ t.bit aDomBusy d.toNat = true) ∧
  (∀ (s : State) (i : Issue), s.admits { op := 0x0F02, plen := 0 } i → Runs (.pwrStatus i) s
    (s.complete i eOk (s.rd aDomOn) (s.rd 0x90030) (i32 (s.hottest.fdiv 256)))) ∧
  (∀ (s : State) (i : Issue) (k : Byte), s.admits { op := 0x0F03, plen := 1 } i → k.toNat ≤ 15 →
    Runs (.pwrThermalRead i k) s (s.complete i eOk (s.rd (0xE0080 + 4 * k.toNat)) 0 0)) ∧
  (∀ (s : State) (i : Issue), s.admits { op := 0x0F04, plen := 0 } i → Runs (.pwrRepairStatus i) s
    (s.complete i eOk (s.rd 0xE0204) (s.rd 0xE0400) (s.rd 0xE0010)))

/-- What hosts, links, resets' straps, debuggers and register accesses do: each completes with its effect under the
conditions named.
Answers a next state, in the effect that its clause gives: doorbellWrite, queueEnable, queueDisable, immediateGo,
commandFetch, mbErrRead, mbEventClear, pcieLinkReset, bar0BadAccess, bar2ErrorAccess, unsupportedRequest, writeEnable,
writeDisable, readStatus, readId, fastRead, pageProgram, enterOctalSdr, exitOctal, spiReset, spiIgnoredCommand, pairHiWrite,
pairLoRead, accessViol, fabricAtLoad, fabricAtCommit, dbgAccess, rcRead, registerWrite, bar2Write. -/
def Obligations.HostAndRegisterAccessesComplete : Prop :=
  (∀ (s : State) (h : HostId) (p : Byte) (v : W32), p.toNat ≤ 7 → s.hostOn h = true → let k := p.toNat;
    let tail := fldOf v 15 0; let head := fldOf v 31 16;
    let mine := s.qpActive k = true ∧ s.fld (qpReg k 0x1C) 13 12 = ownerCode h;
    let inRange := head < s.cqLen k ∧ inQueueOrder (s.cqLen k) (s.rd (qpReg k 0x14)).toNat head (s.rd (qpReg k
      0x18)).toNat = true; mine → tail < s.sqLen k → inRange → Runs (.doorbellWrite h p v) s
    ((s.wr (qpReg k 0x10) (w32 tail)).wr (qpReg k 0x14) (w32 head))) ∧
  (∀ (s : State) (h : HostId) (p : Byte) (v : W32), p.toNat ≤ 7 → s.hostOn h = true → let k := p.toNat;
    let u := s.wr (qpReg k 0x1C) ((s.rd (qpReg k 0x1C) &&& 0xFFFFF0E6) ||| (v &&& 0xF19));
    s.bit (qpReg k 0x1C) 0 = false → v.getLsbD 0 = true → u.recovery = false → u.qpOk h k = true → ∃ t,
    Runs (.queueEnable h p v) s t ∧ t.qpActive k = true ∧ t.fld (qpReg k 0x1C) 13 12 = ownerCode h) ∧
  (∀ (s : State) (h : HostId) (p : Byte) (v : W32), p.toNat ≤ 7 → s.hostOn h = true → let k := p.toNat;
    s.bit (qpReg k 0x1C) 0 = true → v.getLsbD 0 = false → s.pairBusy k = false → ∃ t, Runs (.queueDisable h p v) s t ∧
    t.qpActive k = false ∧ t.bit (qpReg k 0x1C) 2 = false) ∧
  (∀ (s : State) (h : HostId), s.hostOn h = true → s.bit 0x10048 2 = false → ∃ t, Runs (.immediateGo h) s t ∧
    t.bit 0x10048 2 = true ∧ t.bit 0x10048 1 = false) ∧
  (∀ (s : State) (env : CmdEnv) (k : Fin 8), s.serving = true → s.chip.draining = none → s.logWrites = [] →
    s.mb.waiting = [] → s.pick = some k.val → s.sramOk (hostMaster (s.ownerOf k.val)) false (s.entryAt k.val) 64 = true →
    Runs (.commandFetch env) s
    (((s.served k.val).wr (qpReg k.val 0xC) (w32 (((s.rd (qpReg k.val 0xC)).toNat + 1) % s.sqLen k.val))).startCmd
      (s.entryCmd (.qp k) (s.ownerOf k.val) (s.rdMem (s.entryAt k.val) 64) 56 env))) ∧
  (∀ (s : State) (h : HostId), s.hostOn h = true → ∃ t, Runs (.mbErrRead ⟨h, 0⟩) s t ∧ t.rd 0x1001C = 0 ∧
    t.bus.data = leBytes 4 (s.rd 0x1001C).toNat) ∧
  (∀ (s : State) (h : HostId), s.hostOn h = true → ∀ (v : W32) (r : W16), ∃ t, Runs (.mbEventClear h v r) s t ∧
    (∀ b < 16, r.getLsbD b = false → t.bit 0x10014 b = (s.bit 0x10014 b && !v.getLsbD b)) ∧
    (∀ b < 16, r.getLsbD b = true → t.bit 0x10014 b = true)) ∧
  (∀ (s : State) (c : LinkReset), ∃ t, Runs (.pcieLinkReset c) s t ∧ t.rd 0x10014 = 0 ∧ t.rd 0x10018 = 0) ∧
  (∀ (s : State) (w : Bool) (o : Nat) (n : Nat), s.hostOn .hostp = true → Runs (.bar0BadAccess w o n) s
    { s with bus := { data := [], ur := true } }) ∧
  (∀ (s : State) (h : HostId) (o : W32) (n : Nat), s.hostOn h = true → ∃ t, Runs (.bar2ErrorAccess h false o n) s t ∧
    t.bus.data = List.replicate n 0 ∧ t.rd 0x10044 = o) ∧
  (∀ (s : State), s.hostOn .hostp = true → Runs .unsupportedRequest s { s with bus := { data := [], ur := true } }) ∧
  (∀ (s : State), s.spiOn = true → Runs .writeEnable s { s with spi := { s.spi with wel := true } }) ∧
  (∀ (s : State), s.spiOn = true → Runs .writeDisable s { s with spi := { s.spi with wel := false } }) ∧
  (∀ (s : State), s.spiOn = true → Runs .readStatus s
    { s with bus := { data := [BitVec.ofNat 8 (2 * b2n s.spi.wel)], ur := false } }) ∧
  (∀ (s : State), s.spiOn = true → Runs .readId s
    { s with bus := { data := leBytes 4 (s.rd 0x10000).toNat, ur := false } }) ∧
  (∀ (s : State), s.spiOn = true → ∀ (a : W32) (n : Nat), 0x01000000 ≤ a.toNat → a.toNat + n ≤ 0x02000000 →
    let o := a.toNat - 0x01000000; (∀ j < n, s.spiTakes false (o + j) = true) → Runs (.fastRead a n) s
    { s with bus := { data := s.rdMem (s.window + o) n, ur := false } }) ∧
  (∀ (s : State), s.spiOn = true → ∀ (a : W32) (d : Bytes), 0x01000000 ≤ a.toNat → a.toNat + d.length ≤ 0x02000000 →
    1 ≤ d.length → d.length ≤ 256 → s.spi.wel = true → let o := a.toNat - 0x01000000; ∃ t, Runs (.pageProgram a d) s t ∧
    t.spi.wel = false ∧ (∀ j < d.length, s.spiTakes true (o + j) = true → t.byteAt (s.window + o + j) = d.getD j 0)) ∧
  (∀ (s : State), s.spiOn = true → Runs .enterOctalSdr s { s with spi := { s.spi with octal := true } }) ∧
  (∀ (s : State), s.spiOn = true → Runs .exitOctal s { s with spi := { s.spi with octal := false } }) ∧
  (∀ (s : State), s.spiOn = true → ∃ t, Runs .spiReset s t ∧ t.spi = { octal := false, wel := false }) ∧
  (∀ (s : State) (c : Byte), Runs (.spiIgnoredCommand c) s s) ∧
  (∀ (s : State) (m : Master) (address : Nat) (v : W32) (r : RegRow), let a := address / 4 * 4; 4 ≤ a →
    isPairLo (a - 4) = true → s.regDenied m a true = none → regRow a = some r → r.opens m = true →
    (a / 0x40 = 0x60000 / 0x40 → s.servoWriter m = true) →
    let u := s.wr64 (a - 4) (join64 ((kfind s.halves.lows (halfKey (a - 4) (masterId m))).getD (s.rd (a - 4))) v);
    Runs (.pairHiWrite m address v) s (if a / 0x10000 = 0xA then u.safeChanged (0x100 + (a - 4 - 0xA0200) / 8) else u)) ∧
  (∀ (s : State) (m : Master) (address : Nat), let a := address / 4 * 4; isReadLo a = true → actsOnRead a = false →
    s.regDenied m a false = none → kfind s.halves.shadows (halfKey a (masterId m)) = none → ∃ t,
    Runs (.pairLoRead m address) s t ∧ t.bus.data = leBytes 4 (s.view m a).toNat ∧
    kfind t.halves.shadows (halfKey (a + 4) (masterId m)) = some (s.view m (a + 4))) ∧
  (∀ (s : State) (m : Master) (kind : Byte) (address : Nat), kind.toNat % 4 ≤ 2 →
    s.admits24 m (kind.toNat % 4) (address % 2 ^ 40) = false → ∃ t, Runs (.accessViol m kind address) s t ∧
    t.rd 0x30 = s.rd 0x30 + 1) ∧
  (∀ (s : State),
    let e : AccEntry := ⟨s.fld 0x10 5 0, s.fld 0x10 11 8, s.fld 0x10 19 16, (s.rd 0x14).toNat, (s.rd 0x18).toNat,
      BitVec.ofNat 8 (s.fld 0x1C 7 0)⟩; let old := s.accEntry e.target e.master e.region; ∃ t,
    Runs (.fabricAtLoad .firn) s t ∧ t.rd 0x14 = w32 old.start ∧ t.rd 0x18 = w32 old.stop) ∧
  (∀ (s : State),
    let e : AccEntry := ⟨s.fld 0x10 5 0, s.fld 0x10 11 8, s.fld 0x10 19 16, (s.rd 0x14).toNat, (s.rd 0x18).toNat,
      BitVec.ofNat 8 (s.fld 0x1C 7 0)⟩; let old := s.accEntry e.target e.master e.region; old.rights.getLsbD 7 = false →
    s.entryShape e = true → s.rightsPathed e = true → notWX e = true → writersKept e = true → ∃ t,
    Runs (.fabricAtCommit .firn) s t ∧ t.accEntry e.target e.master e.region = e ∧ t.bit 0x20 2 = false) ∧
  (∀ (s : State) (core : Master) (address : Nat) (d : Bytes), let a := address % 2 ^ 40; s.inScope core = true →
    ¬ (0x40000000 ≤ a ∧ a < 0x41000000) → s.memAdmits core 0 a 4 = true → Runs (.dbgAccess core address false d) s
    (s.jtagScan 0x12 (s.rdMem a 4))) ∧
  (∀ (s : State) (m : Master) (address : Nat) (rising : W32) (r : RegRow), let a := address / 4 * 4;
    actsOnRead a = false → s.regDenied m a false = none → regRow a = some r → r.rc ≠ 0 →
    kfind s.halves.shadows (halfKey a (masterId m)) = none → ∃ t, Runs (.rcRead m address rising) s t ∧
    t.bus.data = leBytes 4 (s.view m a).toNat ∧ t.bus.ur = false) ∧
  (∀ (s : State) (m : Master) (address : Nat) (v : W32) (r : RegRow), let a := address / 4 * 4;
    ((a / 0x10000 = 2 ∧ a ≠ 0x20044) ∨ (a / 0x10000 = 0xB ∧ a ≠ 0xB004C)) → isPairLo a = false →
    isPairLo (a - 4) = false → s.regDenied m a true = none → regRow a = some r → r.opens m = true → r.banked = false →
    Runs (.registerWrite m address ⟨v, 0⟩) s
    (s.wr a (((s.rd a &&& ~~~(w32 r.rw)) ||| (v &&& w32 r.rw)) &&& ~~~(v &&& w32 r.w1c)))) ∧
  (∀ (s : State) (h : HostId) (o : W32) (d : Bytes), s.hostOn h = true → o.toNat + d.length ≤ 0x1000000 →
    s.sramOk (hostMaster h) true (s.window + o.toNat) d.length = true →
    s.cleanRun true (s.window + o.toNat) d.length = true → Runs (.bar2Write h o d) s
    ((s.breach (hostMaster h) (s.window + o.toNat) d.length).wrMem (s.window + o.toNat) d))

/-- Restarts, activations, Avalanche frames, rotation, power, clocks, memories, keys and tamper: each event completes with
its effect under the conditions named.
Answers a next state, in the effect that its clause gives: powerOnReset, systemReset, bootGood, bootTimeout,
firnRestartUnplanned, firnWdog, firnLockstep, pllSwitch, thermalSample, thermSkew, avsAdjust, avAnnounce, avFrag, avAck,
avAbort, avResend, avAnnounceRepeat, activateAt, rotationInstant, rotationNow, bistDone, rotate, rotateAbandon, roleLost,
scrubPass, sramUe, mramRemap, domainSwitch, ready, porstNLow. -/
def Obligations.BootPowerAndGuardEventsComplete : Prop :=
  (∀ (s : State) (straps : Straps) (env : BootEnv), straps.pers.toNat ≤ 1 → straps.bootsel = 1 → ∃ t,
    Runs (.powerOnReset straps env) s t ∧ t.chip.straps = straps ∧ t.chip.resetOut = true) ∧
  (∀ (s : State) (env : BootEnv) (c : Byte), 2 ≤ c.toNat → c.toNat ≤ 5 → s.chip.straps.pers.toNat ≤ 1 →
    s.chip.straps.bootsel = 1 → ∃ t, Runs (.systemReset c env) s t ∧ t.recovery = true ∧ t.serving = true) ∧
  (∀ (s : State) (at_ : Nat), let u := s.reach at_; u.recovery = false → u.boot.goodDone = false → u.rolesCurrent = true →
    u.cfg.isSome = true → u.chip.firnStart + 60000000000 ≤ u.now → ∃ t, Runs (.bootGood at_) s t ∧
    t.slotState u.running = slGood ∧ t.attempts u.running = 0) ∧
  (∀ (s : State) (env : BootEnv), s.onTrial = true → Runs (.bootTimeout env) s
    ((s.reach (s.chip.firnStart + 120000000000)).failedBoot 11 env)) ∧
  (∀ (s : State) (env : BootEnv) (at_ : Nat), (s.reach at_).onTrial = false → (s.reach at_).mb.outstanding = [] →
    (s.reach at_).mb.waiting = [] → s.chip.restarts = [] → ∃ t, Runs (.firnRestartUnplanned at_ env) s t ∧
    t.bit 0x10010 0 = false ∧ t.bit 0x10010 1 = true) ∧
  (∀ (s : State) (env : BootEnv) (at_ : Nat), Runs (.firnWdog at_ env) s (((s.reach at_).raise 1).unplannedRestart env)) ∧
  (∀ (s : State) (env : BootEnv), (s.raise 0).onTrial = true → Runs (.firnLockstep env) s ((s.raise 0).failedBoot 10 env)) ∧
  (∀ (s : State) (k : Byte), k.toNat ≤ 1 → ∃ t, Runs (.pllSwitch k) s t ∧ t.bit 0xE0010 k.toNat = false ∧
    t.bit 0xE0010 (8 + k.toNat) = true) ∧
  (∀ (s : State) (x : Readings), ∃ t, Runs (.thermalSample x) s t ∧
    (∀ k v, k < 16 → x.temps[k]? = some v → t.therm k = v.toInt)) ∧
  (∀ (s : State) (h : Byte) (c : Byte) (d : Nat), h.toNat < 9 → 100 ≤ s.skewRun h.toNat c.toNat →
    (d : Int) = s.therm h.toNat - s.therm c.toNat → ∃ t, Runs (.thermSkew h c d) s t ∧ t.bit aThermSkew h.toNat = true) ∧
  (∀ (s : State) (x : AvsStep), s.bit 0xE0030 0 = true → let cur := s.fld 0xE0034 9 0; ∃ t, Runs (.avsAdjust x) s t ∧
    t.rd 0xE0038 = w32 (x.meas % 1024) ∧
    (x.ack = true → max cur x.meas - min cur x.meas ≤ 25 → t.pwr.vout = some (s.fld 0xE0030 7 1, t.fld 0xE0034 9 0))) ∧
  (∀ (s : State) (h : FrameHeader), (s.reach h.at_).carried h → (h.port ≠ 3 ∨ (s.reach h.at_).paired = false) →
    s.avStopped = false → ∀ (b : AnnounceBody), (s.reach h.at_).accepts h true = .ok → let u := s.heard h true;
    u.upOk h = true → u.slotValid 2 = true →
    cmac256 u.avlKey (annBody b.image b.length.toNat b.flags b.version b.svn b.activateAt) = b.cmac →
    cAllows b.flags u.isHead = true → (u.rd 0xC0010).toNat ≤ b.svn.toNat → 1 ≤ b.length.toNat →
    b.length.toNat ≤ 0x600000 → u.boot.opened = none → u.boot.rx = none → ∃ t r, Runs (.avAnnounce h b) s t ∧
    t.boot.rx = some r ∧ r.image = b.image) ∧
  (∀ (s : State) (h : FrameHeader), (s.reach h.at_).carried h → (h.port ≠ 3 ∨ (s.reach h.at_).paired = false) →
    s.avStopped = false → ∀ (b : FragBody) r, (s.reach h.at_).accepts h false = .ok → (s.heard h false).boot.rx = some r →
    r.image = b.image → r.sender = h.src → (s.heard h false).receiving r.slot = true → b.block.toNat = r.block →
    b.block.toNat < nBlocks r.length → r.frags = [] → b.frag ≠ 3 → ∃ t, Runs (.avFrag h b) s t ∧
    t.boot.rx = some { r with frags := [(b.frag.toNat, b.data)] }) ∧
  (∀ (s : State) (h : FrameHeader), (s.reach h.at_).carried h → (h.port ≠ 3 ∨ (s.reach h.at_).paired = false) →
    s.avStopped = false → ∀ (b : AvAckBody) x, (s.reach h.at_).accepts h false = .ok →
    kfind (s.heard h false).boot.tx h.port = some x → x.image = b.image → (s.heard h false).downAddr h.port = h.src →
    (b.state = 1 ∨ b.state = 2) → ∃ t, Runs (.avAck h b) s t ∧ kfind t.boot.tx h.port = none) ∧
  (∀ (s : State) (h : FrameHeader), (s.reach h.at_).carried h → (h.port ≠ 3 ∨ (s.reach h.at_).paired = false) →
    s.avStopped = false → ∀ (img : W32) (c : Byte) r, (s.reach h.at_).accepts h true = .ok →
    (s.heard h true).boot.rx = some r → r.image = img → r.sender = h.src → (s.heard h true).receiving r.slot = true → ∃ t,
    Runs (.avAbort h img c) s t ∧ t.boot.rx = none ∧ t.rd 0xC0024 = 0) ∧
  (∀ (s : State) (h : FrameHeader), (s.reach h.at_).carried h → (h.port ≠ 3 ∨ (s.reach h.at_).paired = false) →
    s.avStopped = false → ∀ (p : Byte) x, kfind s.boot.tx p.toNat = some x → x.suspended = false → x.resends ≥ 20 → ∃ t,
    Runs (.avResend p) s t ∧ kfind t.boot.tx p.toNat = some { x with suspended := true, since := t.now } ∧
    t.now = (s.reach (x.since + 500000000)).now) ∧
  (∀ (s : State) (h : FrameHeader), (s.reach h.at_).carried h → (h.port ≠ 3 ∨ (s.reach h.at_).paired = false) →
    s.avStopped = false → ∀ (p : Byte) x, kfind s.boot.tx p.toNat = some x → x.suspended = true →
    let u := s.reach (x.since + 30000000000); Runs (.avAnnounceRepeat p) s
    ((u.sendAnnounce p.toNat x).setTx p.toNat { x with since := u.now })) ∧
  (∀ (s : State) (at_ : Nat) (env : BootEnv) img slot w, (s.reach at_).boot.actAt = some (img, slot, w) →
    (s.reach at_).isHead = false → (s.reach at_).recovery = false → (s.reach at_).conf.avActivate = true →
    w.toNat ≤ (s.reach at_).now →
    let u := ({ s.reach at_ with boot := { (s.reach at_).boot with actAt := none } } : State).bootWrite;
    (s.reach at_).activateSkip slot = none → u.firnVerdict = eOk →
    let v := ((u.takeFirn eOk).postActivated 1).plannedRestart env; Runs (.activateAt at_ env) s
    (if v.hasRsv then ([2, 3, 4, 5].foldl State.postActivated v).startRoles 2 (List.range 8) else v)) ∧
  (∀ (s : State) (at_ : Nat) (f : LaneList), let u := s.reach at_; u.rotating = true → (u.rd64 aRotNext).toNat ≤ at_ →
    ∃ t, Runs (.rotationInstant at_ f) s t ∧ t.rd64 aRotNext = w64 (at_ + (u.rd aRotInterval).toNat * 1000000000)) ∧
  (∀ (s : State) (f : LaneList), s.hasRsv = true → let v := s.testSpares f.lanes; v.frozen = false → v.rotPhase = 0 →
    s.boot.activating = none → s.pwr.counted = [] → s.pwr.pos < 8 → ∃ t, Runs (.rotationNow .firn f) s t ∧
    t.rotPhase = 1 ∧ t.rotRole = s.pwr.pos) ∧
  (∀ (s : State), s.rotPhase = 1 → Runs (.bistDone true) s
    (s.setFld aRotState 2 0 (if s.componentOk (roleComponent s.rotRole) then 4 else 2))) ∧
  (∀ (s : State) (d : Nat), s.rotPhase = 4 → d ≤ 256 → s.frozen = false → s.cutWindow s.rotRole = true → s.rotRole < 8 →
    ∃ t, Runs (.rotate d true) s t ∧ t.roleTile s.rotRole = s.rotDst ∧ t.rsvTile = s.rotSrc) ∧
  (∀ (s : State), 1 ≤ s.rotPhase → s.rotPhase ≤ 4 → s.boot.activating = none → ∃ t, Runs .rotateAbandon s t ∧
    t.rotPhase = 0 ∧ t.bit aRotCtrl 2 = true) ∧
  (∀ (s : State) (tile : Byte) (env : BootEnv) k, s.tileRole tile.toNat = some k →
    ¬ (1 ≤ s.rotPhase ∧ s.rotPhase ≤ 5 ∧ s.rotRole = k) →
    let u := ((if (s.raise 4).hasRsv then (s.raise 4).coldRole k else (s.raise 4).stopRole k)).retireTile tile.toNat 2;
    Runs (.roleLost tile env) s (if u.onTrial then u.failedBoot 10 env else u)) ∧
  (∀ (s : State) a, a < 0x02000000 → (s.pwr.ceWords.any fun v => sramRow v == sramRow (a / 8 * 8)) = false → ∃ t,
    Runs (.scrubPass { ce := [a], ue := [] }) s t ∧ t.pwr.ceWords = s.pwr.ceWords ++ [a / 8 * 8] ∧
    t.rd 0xE0208 = s.rd 0xE0208 + 1) ∧
  (∀ (s : State) (a : Nat), a < 0x02000000 → s.mb.waiting = [] → s.mtr.cal = none → (∀ p < 4, s.portFrames p = []) → ∃ t,
    Runs (.sramUe a) s t ∧ t.poisoned a = true ∧ t.latchedBy s 16) ∧
  (∀ (s : State) (a : Nat), a < 0x2000 → s.pwr.remap.length < 255 → ∃ t, Runs (.mramRemap a) s t ∧
    t.pwr.remap = s.pwr.remap ++ [a] ∧ t.rd 0xE0400 = w32 (s.pwr.remap.length + 1)) ∧
  (∀ (s : State) (d : Byte) (f : LaneList) x, (s.pwr.switching.find? fun x => x.code == d.toNat) = some x →
    domainCode d.toNat = true → ∃ t, Runs (.domainSwitch d f) s t ∧ t.bit aDomBusy d.toNat = false ∧
    t.pwr.switching = s.pwr.switching.filter (fun e => e != x)) ∧
  (∀ (s : State), s.bit 0x10010 1 = true → s.chip.draining = none → ∃ t, Runs .ready s t ∧ t.bit 0x10010 0 = true ∧
    t.bit 0x10010 1 = false) ∧
  (∀ (s : State), ∃ t, Runs .porstNLow s t ∧ t.chip.running = false ∧ t.chip.resetOut = false)

/-- Events of the solver array, of drift rounds, of the loop engine and of cycle programs: each completes with its effect
under the conditions named.
Answers a next state, in the effect that its clause gives: batchTileSubmit, problemDispatch, problemEnd,
laneEccUncorrectable, deadlineWithoutLane, roundStartInstant, roundStart, price, bidQueue, bid, bidClose, planCommitInstant,
planCommit, planHoldExpiry, planApply, planArm, loopTick, tuneProposed, loopSetmode, loopSwap, tuneAbort, loopDdataAccess,
taskRelease, latchComplete, taskEnd, commitComplete, overrun, retBudget, retentiveDrain, switchInstant, publishLaunch,
publish, checkInstant, command, commandAck, commandHoldExpiry, valueGroupLaunch, batchWaitTimeout. -/
def Obligations.EngineEventsComplete : Prop :=
  (∀ (s : State) (m : Master) (desc : Nat) (n : Nat), s.sramOk m false desc 16 = true →
    (∀ j < n, s.poisoned (desc + j) = false) → n = 16 + 4 * leAt (s.rdMem desc 16) 0 4 → s.sramOk m false desc n = true →
    let h := s.rdMem desc 16; 1 ≤ leAt h 0 4 → leAt h 0 4 ≤ 1024 → leAt h 8 1 ≤ 3 → leAt h 9 1 ≤ 1 → leAt h 10 6 = 0 →
    (leAt h 8 1 = 3 → m = .seq) → w32 (leAt h 4 4) &&& ~~~(s.rd 0x20004) = 0 → s.solv.batches.length < 64 → ∀ (v : W32),
    s.regDenied m 0x20044 true = none → (m = .cyc0 ∨ m = .cyc1 ∨ m = .cyc2 ∨ m = .cyc3 ∨ m = .seq) →
    desc = (s.rd (bankKey 0x20040 (masterId m))).toNat → v.getLsbD 0 = true →
    s.bit (bankKey 0x20044 (masterId m)) 1 = false → ∃ t, Runs (.batchTileSubmit m v) s t ∧
    t.solv.nextId = (if s.solv.nextId = 0xFFFFFFFF then 1 else s.solv.nextId + 1) ∧
    t.rd (bankKey 0x20048 (masterId m)) = w32 s.solv.nextId) ∧
  (∀ (s : State) (at_ : Nat) lg w, (s.reach at_).solvStopped = false → (s.reach at_).nextDispatch = some (lg, w) →
    let u := (s.reach at_).takeWaiting w; u.accessFault w.batch.master w.off = 0 → ∃ t r, Runs (.problemDispatch at_) s
    t ∧ kfind t.solv.runs lg = some r ∧ r.batch = w.batch.id) ∧
  (∀ (s : State) (lane : Byte) (spread : Nat) (n : Nat) r, kfind s.solv.runs lane.toNat = some r →
    s.persMismatch = false → s.broken r.batch r.index = false → let e := r.run (min 5000 spread);
    let tEnd := r.timeAt (solvNs (min 5000 spread) e.cyc); Runs (.problemEnd lane ⟨spread, n⟩) s
    ((((s.reach tEnd).freeLane lane.toNat r).writeEnd r.batch r.index (probOf r.record) r.off r.own e r.redisp r.phys
      lane.toNat r.tStart tEnd).countCorrected r.phys n)) ∧
  (∀ (s : State) (lane : Byte) (n : Nat), lane.toNat ≤ 33 → s.laneRetired lane.toNat = false →
    s.lanePowered lane.toNat = true → s.laneInService lane.toNat = true →
    kfind s.solv.runs (s.laneLogical lane.toNat) = none → Runs (.laneEccUncorrectable ⟨lane, n⟩) s
    ((s.retireLane lane.toNat 1).countLanes [(lane.toNat, n)])) ∧
  (∀ (s : State) (at_ : Nat) w, (s.reach at_).solvStopped = false → (s.reach at_).timeState ≠ 0 →
    (s.reach at_).orphan = some w → let u := (s.reach at_).takeWaiting w; u.accessFault w.batch.master w.off = 0 →
    Runs (.deadlineWithoutLane at_) s
    (u.writeEnd w.batch.id w.index (probOf (u.laneIn w.off 0 0).rec_) w.off (u.laneIn w.off 0 0).own (laneRun (u.laneIn
      w.off 0 0) (fun _ => true) fun _ => false) w.front 0xFF 0xFF (s.reach at_).now (s.reach at_).now)) ∧
  (∀ (s : State) (at_ : Nat), let u := s.reach at_; ∀ k r, u.roundOf at_ = some (k, r) → u.isHead = true →
    (∃ k0, u.drift.hd.started = some k0 ∧ k0 ≤ k) → u.standby = false →
    let v := if u.drift.hd.period ≠ k ∨ u.drift.hd.ran = false then u.beginPeriod k r else u; v.drift.hd.final = 0 → ∃ t,
    Runs (.roundStartInstant at_) s t ∧ t.drift.hd.period = k ∧ t.drift.hd.round = r) ∧
  (∀ (s : State) (h : FrameHeader) (b : RoundStartBody), (s.reach h.at_).carried h →
    (s.reach h.at_).accepts h true = .ok → (h.port ≠ 3 ∨ (s.reach h.at_).paired = false) →
    (s.heard h true).driftStopped = false → (s.heard h true).isHead = false → ∃ t q, Runs (.roundStart h b) s t ∧
    t.drift.st.info = some q ∧ q.period = b.period.toNat) ∧
  (∀ (s : State) (h : FrameHeader) (v : PriceBody) q n b, (s.reach h.at_).carried h →
    (s.reach h.at_).accepts h true = .ok → (h.port ≠ 3 ∨ (s.reach h.at_).paired = false) →
    let u := (s.heard h true).keepResult; u.curRound = some q → u.drift.st.tmpl = some (n, b) → u.driftStopped = false →
    u.isHead = false → q.stop = false → v.period.toNat = q.period → v.round.toNat = q.round → v.branch.toNat = tBranch b →
    v.prices.length = tK b → (∀ w, u.drift.st.work = some w → ¬(w.info.period = q.period ∧ w.info.round = q.round)) →
    u.solv.batches.length < 64 → u.memAdmits .seq 0 (tBase b) (u.probAt (tBase b)).recLen = true →
    u.memAdmits .seq 1 (tWork b) (u.probAt (tBase b)).recLen = true → ∃ t, Runs (.price h v) s t ∧
    t.drift.st.work = some { claim := h.claim, crc := v.crc, batch := u.solv.nextId, info := q, tmpl := (n, b), out :=
      none }) ∧
  (∀ (s : State) (at_ : Nat) q w o, let u := (s.reach at_).keepResult; u.curRound = some q → u.driftStopped = false →
    u.isHead = false → q.stop = false → u.drift.st.work = some w → w.info.period = q.period → w.info.round = q.round →
    w.out = some o → o.status ≠ 0x0108 → o.flags.getLsbD 0 = true → u.schedMatches q = true → at_ < u.bidAt q →
    u.drift.st.ended ≠ some (q.period, q.round) → ∃ t, Runs (.bidQueue at_) s t ∧
    t.drift.st.ended = some (q.period, q.round) ∧
    (q.period, q.round, bidBody false w o u.drift.st.place.1) ∈ t.drift.st.bids) ∧
  (∀ (s : State) (h : FrameHeader) (v : BidBody), (s.reach h.at_).carried h → (s.reach h.at_).accepts h false = .ok →
    (h.port ≠ 3 ∨ (s.reach h.at_).paired = false) → (s.reach h.at_).driftStopped = false → (s.reach h.at_).isHead = true →
    let w := s.reach h.at_; w.bidFails h v = 0 → Runs (.bid h v) s
    (w.setHeadStation h.src.toNat { w.headStation h.src.toNat with bids := (w.drift.hd.round, v.draws) :: (w.headStation
      h.src.toNat).bids })) ∧
  (∀ (s : State) (at_ : Nat), let u := s.reach at_; let d := u.drift.hd; let b := d.net.getD []; u.driftStopped = false →
    u.isHead = true → d.started ≠ none → d.ran = true → d.closed ≠ d.round →
    u.roundAt d.period d.round + (leAt b 8 4 + leAt b 16 4) * 1000 ≤ at_ → ((netStations b).map fun x => x.addr).Nodup →
    ∃ t, Runs (.bidClose at_) s t ∧ t.drift.hd.closed = d.round ∧ (t.drift.hd.final = 0 ∨ t.drift.hd.final = d.round)) ∧
  (∀ (s : State) (at_ : Nat), let u := s.reach at_; let d := u.drift.hd; u.driftStopped = false → u.isHead = true →
    d.ran = true → d.final ≠ 0 → at_ = u.commitAt d.period → u.standby = false → ∃ t, Runs (.planCommitInstant at_) s t ∧
    t.drift.hd.ran = false ∧ t.drift.hd.final = 0) ∧
  (∀ (s : State) (h : FrameHeader) (v : PlanBody) n b k x, (s.reach h.at_).carried h →
    (s.reach h.at_).accepts h true = .ok → (h.port ≠ 3 ∨ (s.reach h.at_).paired = false) →
    let u := (s.heard h true).keepResult; let pos := u.drift.st.place.1; let code := (v.src.getD (pos - 1) 0x1F).toNat;
    u.drift.st.tmpl = some (n, b) → u.periodAt u.now = some k → u.driftStopped = false → u.isHead = false →
    v.period.toNat = k % 2 ^ 32 → v.chain.toNat = tChain b → 1 ≤ pos → pos ≤ v.npos.toNat → 1 ≤ code → code ≤ 16 →
    u.drift.st.historyOf = v.period.toNat → (u.drift.st.history.find? fun e => e.1 == code) = some x → ∃ t,
    Runs (.planCommit h v) s t ∧ t.drift.st.lastPlan = some k ∧ t.drift.st.expired = false) ∧
  (∀ (s : State) (at_ : Nat) j, let u := s.reach at_; u.drift.st.lastPlan = some j → u.isHead = false →
    u.drift.st.expired = false → u.periodStart (j + 1 + u.drift.hold) ≤ at_ → ∃ t, Runs (.planHoldExpiry at_) s t ∧
    t.drift.st.expired = true ∧ t.drift.st.applied = none) ∧
  (∀ (s : State) (at_ : Nat) l eff, (s.reach at_).ticks at_ = true → s.loop.plan = some (l, eff) → l.length = 64 →
    eff ≤ at_ → ∃ t, Runs (.planApply at_) s t ∧ t.loop.plan = none ∧ t.bit 0x30058 1 = false) ∧
  (∀ (s : State) (m : Master), s.regDenied m 0x30058 true = none → (m = .seq ∨ m = .firn) → ∃ t l, Runs (.planArm m) s t ∧
    t.loop.plan = some (l, (s.rd64 0x30050).toNat) ∧ l.length = 64) ∧
  (∀ (s : State) (at_ : Nat), let u := s.reach at_; at_ % 10000 = 0 → u.bit 0x30004 0 = true → u.persMismatch = false →
    let v := u.applyPlan at_; let due := v.dueLoops (at_ / 10000); Runs (.loopTick at_) s
    (due.foldl (fun t k => t.evalLoop k at_) ((v.count 0x30008 1).showLoad due.length))) ∧
  (∀ (s : State) (t : Tune), s.loop.proposal = some t → t.loop ≤ 255 →
    let q := proposal t (cFlag (s.lcfg t.loop) 2) (cPeriod (s.lcfg t.loop)); (q.1 :: q.2).all dFinite = true → ∃ u,
    Runs .tuneProposed s u ∧ u.loop.proposal = none ∧ u.rd64 0x30048 = q.1) ∧
  (∀ (s : State) (m : Master) (loop : Byte), let k := loop.toNat; ∀ (mode : Byte) (b : Bool),
    s.regDenied m (lReg k 0xC) true = none → loopWriter m = true → mode.toNat % 8 ≤ 2 → s.frozen = false →
    (mode.toNat % 8 = 0 ∨ s.loopLive k = true) → Runs (.loopSetmode m loop mode b) s
    (s.setReq k (some (mode.toNat % 8, b, none)))) ∧
  (∀ (s : State) (m : Master) (loop : Byte), let k := loop.toNat; s.regDenied m (lReg k 0xC) true = none →
    loopWriter m = true → s.swapRefusal k = 0 → Runs (.loopSwap m loop) s (s.setBit (lReg k 8) 5 true)) ∧
  (∀ (s : State) (m : Master) (loop : Byte), let k := loop.toNat; ∀ (t : Tune), s.regDenied m (lReg k 0xC) true = none →
    loopWriter m = true → s.tuneOf k = some t → Runs (.tuneAbort m loop) s
    (if t.prev.isNone then s.endTune t 5 else { s with loop := { s.loop with tune := some { t with abort := true } } })) ∧
  (∀ (s : State) (v : W32), s.regDenied .firn 0x30024 false = none → ∃ t, Runs (.loopDdataAccess .firn false v) s t ∧
    t.bus.data = sliceB (s.partBytes (s.fld 0x30020 7 0) (s.fld 0x30020 9 8)) (4 * s.fld 0x30020 14 10) 4) ∧
  (∀ (s : State) (task : Byte) (at_ : Nat) p d, let u := s.reach at_; u.cycState = 2 → u.cyc.act = some p →
    p.task? task.toNat = some d → u.persMismatch = false → u.overdue at_ = [] → releasedAt d at_ = true →
    u.cyc.first ≤ at_ → u.inCycle task.toNat = false → ∃ t, Runs (.taskRelease task at_) s t ∧
    kget 0 t.cyc.rel task.toNat = at_ ∧ t.rd (tReg task.toNat 0x108) = w32 at_) ∧
  (∀ (s : State) (at_ : Nat) r rest p d, s.cyc.reqs = r :: rest → r.isCommit = false → s.progOfTask r.task = some p →
    s.defOfTask r.task = some d → s.persMismatch = false → s.overdue at_ = [] → let v := (s.reach at_).doLatch p d;
    (v.dirtyOf d).length ≤ 1024 → Runs (.latchComplete at_) s ((v.setPhase r.task 3).popReq.showCur)) ∧
  (∀ (s : State) (m : Master) (task : Byte) (st : Stores) d, 2 ≤ masterId m → masterId m ≤ 5 →
    s.curTask (masterId m - 2) = some d → d.task = task.toNat → s.persMismatch = false →
    let u := st.writes.foldl (fun t w => t.logicStore m w) s; u.regDenied m 0x40020 true = none →
    (u.dirtyOf d).length ≤ 1024 → Runs (.taskEnd m task st) s ((u.request d.task true).showCur)) ∧
  (∀ (s : State) (at_ : Nat) r rest p d, s.cyc.reqs = r :: rest → r.isCommit = true →
    (∀ x ∈ s.cyc.drains, x.task ≠ r.task) → s.progOfTask r.task = some p → s.defOfTask r.task = some d →
    s.persMismatch = false → s.overdue at_ = [] →
    (((s.reach at_).applyForces p r.task [1, 2, 3]).dirtyOf d).length ≤ 1024 → ∃ t, Runs (.commitComplete at_) s t ∧
    t.cyc.reqs = rest ∧ t.cyc.drains.map (fun x => x.task) = s.cyc.drains.map (fun x => x.task) ++ [d.task]) ∧
  (∀ (s : State) (task : Byte) (at_ : Nat) d, s.persMismatch = false → d ∈ s.overdue at_ → d.task = task.toNat →
    let u := s.reach at_; Runs (.overrun task at_) s (u.takeOverruns at_)) ∧
  (∀ (s : State) (task : Byte), s.tphase task.toNat = 3 → Runs (.retBudget task) s (s.overBudget task.toNat 1025)) ∧
  (∀ (s : State) x rest, s.cyc.drains = x :: rest → s.bit (markReg x.task) 31 = true → s.pwr.pfw = false →
    Runs .retentiveDrain s (s.closeDrain.openDrain)) ∧
  (∀ (s : State) (at_ : Nat), (s.reach at_).cycState = 3 → (s.reach at_).switchAt ≤ at_ → Runs (.switchInstant at_) s
    ((s.reach at_).passSwitch)) ∧
  (∀ (s : State) (g : Byte) (at_ : Nat) p r, s.cyc.act = some p →
    (p.publications.find? fun r => r.group == g.toNat) = some r → tickOf at_ r.phase r.interval = true → ∃ t,
    Runs (.publishLaunch g at_) s t ∧ kget 0 t.cyc.pubSeq g.toNat = (kget 0 s.cyc.pubSeq g.toNat + 1) % 2 ^ 32) ∧
  (∀ (s : State) (h : FrameHeader) (b : ValuesBody), (s.reach h.at_).carried h → (s.reach h.at_).accepts h false = .ok →
    (h.port ≠ 3 ∨ (s.reach h.at_).paired = false) → let u := s.heard h false;
    let l := u.numbered.filter fun p => p.2.ty == 3 && p.2.peer == h.src.toNat && p.2.group == b.group.toNat && p.2.count
      == b.values.length; ∃ t, Runs (.publish h b) s t ∧ (∀ p ∈ l, (t.subRun p.2).miss = 0 ∧ (t.subRun p.2).got = true)) ∧
  (∀ (s : State) (at_ : Nat) n r, let u := s.reach at_;
    (u.numbered.filter fun p => p.2.ty == 3 && tickOf at_ p.2.phase p.2.interval) = [(n, r)] → (u.subRun r).got = true →
    Runs (.checkInstant at_) s (u.setSub r { u.subRun r with got := false })) ∧
  (∀ (s : State) (h : FrameHeader) (b : ValuesBody), (s.reach h.at_).carried h → (s.reach h.at_).accepts h true = .ok →
    (h.port ≠ 3 ∨ (s.reach h.at_).paired = false) → let u := s.heard h true;
    let mine := (u.numbered.map fun p => p.2).filter fun r => r.ty == 4 && r.peer == h.src.toNat && r.group ==
      b.group.toNat; let fit := mine.filter fun r => r.count == b.values.length; ∃ t, Runs (.command h b) s t ∧
    (∀ r ∈ fit, (t.subRun r).holding = true ∧ (t.subRun r).fallback = false ∧ (t.subRun r).seq = b.seq.toNat ∧ (t.subRun
      r).since = u.now)) ∧
  (∀ (s : State) (h : FrameHeader) (b : AckBody) p r, (s.reach h.at_).carried h → (s.reach h.at_).accepts h false = .ok →
    (h.port ≠ 3 ∨ (s.reach h.at_).paired = false) → let u := s.heard h false; u.cyc.act = some p →
    (p.remotes.find? fun r => r.ty == 2 && r.group == b.group.toNat && r.peer == h.src.toNat) = some r → ∃ t,
    Runs (.commandAck h b) s t ∧ (t.group b.group.toNat).ackSeq = b.seq.toNat ∧
    (t.group b.group.toNat).rej = (b.result == 1)) ∧
  (∀ (s : State) (at_ : Nat) n r, let u := s.reach at_;
    (u.numbered.filter fun p => p.2.ty == 4 && (u.subRun p.2).holding && decide ((u.subRun p.2).since + u.drift.hold *
      u.districtNs ≤ at_)) = [(n, r)] → ∃ t, Runs (.commandHoldExpiry at_) s t ∧ (t.subRun r).holding = false ∧
    (t.subRun r).fallback = true) ∧
  (∀ (s : State) (g : Byte) (at_ : Nat) v, (s.port.groups.find? fun v => v.group == g.toNat) = some v →
    tickOf at_ v.phase v.interval = true → ∃ t, Runs (.valueGroupLaunch g at_) s t ∧
    kget 0 t.port.launches v.group = (kget 0 s.port.launches v.group + 1) % 2 ^ 32) ∧
  (∀ (s : State) (n : W32) o b, s.firstWait n.toNat = some o → s.batch n.toNat = some b → Runs (.batchWaitTimeout n) s
    ((s.reach (waitEnd o)).finish o eTimeout (w32 b.done) (w32 b.carried) 0))

/-- Events of metering, of the time base and of the calendar: each completes with its effect under the conditions named.
Answers a next state, in the effect that its clause gives: intervalCommit, saveWriteComplete, meterValuePost, chFault,
chRecover, pulseEmitterTick, pulseInputEdge, calculatorStep, heatCommit, saveRequest, calibrationWindowEnd,
powerFailWarning, servoUpdate, servoStep, stepCancel, stepTaken, adjWrite, timeNowCapture, lockLost, holdover, ppsInEdge,
ppsInLoss, ppsOutPulse, tevtCapture, tevtCompare, tevtArm, tevtFifoRead, calendarRollover, calCommit, calCapture, dstFwd,
dstBack, calGroupRead, shadowRelease, trimWindowClose, oscstop, vbatMeasure. -/
def Obligations.MeterTimeAndCalendarEventsComplete : Prop :=
  (∀ (s : State) (at_ : Nat) (x : Samples), let u := s.reach at_; u.intervalDue at_ = true → samplesOk x.phases = true →
    ∃ t, Runs (.intervalCommit at_ x) s t ∧ t.rd 0x5000C = u.rd 0x5000C + 1 ∧
    t.rd64 0x50010 = (if u.timeState = 0 then 0 else u.time.ns)) ∧
  (∀ (s : State) q k b, s.mtr.save = some (q, k, b) → ∃ t, Runs .saveWriteComplete s t ∧ t.mtr.save = none ∧
    t.rd 0x50018 = w32 q) ∧
  (∀ (s : State) (w : MeterWindow), samplesOk w.phases = true → ∃ t, Runs (.meterValuePost w) s t ∧
    t.mtr.posts = min 800 (s.mtr.posts + 1) ∧
    (∀ k < 8, t.rd64 (0x50800 + 8 * (132 + k)) = dOfInt ((kget 0 s.mtr.rate k : Nat) : Int) ∧ kget 0 t.loop.meter (132 +
      k) = dOfInt ((kget 0 s.mtr.rate k : Nat) : Int) ∧ t.loop.meterBad.contains (132 + k) = false)) ∧
  (∀ (s : State) (c : Byte) (cause : Byte), c.toNat ≤ 15 → (cause = 1 ∨ cause = 2) → s.chFaulted c.toNat = false → ∃ t,
    Runs (.chFault c cause) s t ∧ t.chFaulted c.toNat = true ∧ t.bit (chReg c.toNat) cause.toNat = true) ∧
  (∀ (s : State) (c : Byte), c.toNat ≤ 15 → s.chFaulted c.toNat = true → ∃ t, Runs (.chRecover c) s t ∧
    t.chFaulted c.toNat = false ∧ t.bit 0x50008 c.toNat = false) ∧
  (∀ (s : State) (at_ : Nat), let u := s.reach at_; u.outputsHeld = false → u.outputsDriven = true → ∃ t,
    Runs (.pulseEmitterTick at_) s t ∧
    (∀ k < 4, let p := kget {} u.mtr.pulse k; let n := u.fld (poutReg k 8) 15 0; p.stop ≤ at_ → p.next ≤ at_ → n ≠ 0 →
      t.fld (poutReg k 8) 15 0 = n - 1 ∧ (kget {} t.mtr.pulse k).stop = at_ + p.width * 1000000 ∧ (kget {} t.mtr.pulse
      k).next = at_ + 2 * p.width * 1000000)) ∧
  (∀ (s : State) (p : Byte), p.toNat ≤ 7 → Runs (.pulseInputEdge p) s
    (s.wr64 (0x51100 + 8 * p.toNat) (w64 ((s.rd64 (0x51100 + 8 * p.toNat)).toNat + 1)))) ∧
  (∀ (s : State) (c : Byte) (at_ : Nat), c.toNat ≤ 3 → s.pwr.lost.getLsbD 6 = false → Runs (.calculatorStep c at_) s
    ((s.reach at_).heatStep c.toNat)) ∧
  (∀ (s : State) (c : Byte), c.toNat ≤ 3 → s.regDenied .mtr (0x513F0 + 0x100 * c.toNat) true = none → ∃ t,
    Runs (.heatCommit .mtr c) s t ∧ (∀ j < 24, t.rd (heatReg c.toNat (4 * j)) = s.rd (heatReg c.toNat (0x80 + 4 * j)))) ∧
  (∀ (s : State) (m : Master), s.regDenied m 0x51700 true = none → Runs (.saveRequest m) s
    (if m = .firn then s.setBit 0x51700 1 true else s)) ∧
  (∀ (s : State) (x : CalMeasure) r, s.mtr.cal = some r → r.left = some 0 → r.channel ≤ 15 → ∃ t,
    Runs (.calibrationWindowEnd x) s t ∧ t.mtr.cal = none ∧ t.bit (chReg r.channel) 3 = false) ∧
  (∀ (s : State), s.bit aFeed 0 = false → s.bit aFeed 1 = false → (∀ x ∈ s.cyc.drains, x.task ≤ 15) → ∃ t,
    Runs .powerFailWarning s t ∧ t.pwr.pfw = true ∧ t.bit aFeed 3 = true) ∧
  (∀ (s : State) (m : Master), s.regDenied m 0x60028 true = none → s.servoWriter m = true → let u := s.timeEdges 3;
    u.timeState = 1 → u.time.ptp.refsrc ≠ 0 → (u.rd 0x60024).toInt.natAbs ≤ (u.rd 0x60040).toNat → ∃ t,
    Runs (.servoUpdate m) s t ∧ t.time.lastUpd = some (u.now : Int)) ∧
  (∀ (s : State) (m : Master), s.regDenied m 0x60028 true = none → s.servoWriter m = true → let u := s.timeEdges 3;
    u.timeState = 0 → u.time.pendStep = none → u.now < (s.rd64 0x60030).toNat → ∃ t, Runs (.servoStep m) s t ∧
    t.time = { u.time with pendStep := some (s.rd64 0x60030, s.rd64 0x60038) } ∧ t.bit 0x60004 5 = true) ∧
  (∀ (s : State) (m : Master), s.regDenied m 0x60028 true = none → s.servoWriter m = true → ∃ t, Runs (.stepCancel m) s
    t ∧ t.time = { s.time with pendStep := none } ∧ t.bit 0x60004 5 = false) ∧
  (∀ (s : State) at_ v, s.time.pendStep = some (at_, v) → ∃ t, Runs .stepTaken s t ∧ t.time.ns = v ∧ t.time.frac = 0) ∧
  (∀ (s : State) (m : Master) (v : W32), s.regDenied m 0x60020 true = none → s.servoWriter m = true → ∃ t,
    Runs (.adjWrite m v) s t ∧ t.rd 0x60020 = i32 (clampAdj v.toInt)) ∧
  (∀ (s : State) (m : Master), s.regDenied m 0x60010 false = none → let u := s.timeEdges 2; ∃ t,
    Runs (.timeNowCapture m) s t ∧ t.bus.data = leBytes 4 (lo32 u.time.ns).toNat ∧
    kfind t.halves.shadows (halfKey 0x60014 (masterId m)) = none) ∧
  (∀ (s : State), s.timeState = 2 → s.time.ptp.refsrc ≠ 0 → ∃ t, Runs .lockLost s t ∧ t.timeState = 1 ∧
    t.bit 0x60004 3 = false) ∧
  (∀ (s : State), s.timeState = 2 → s.time.ptp.refsrc ≠ 0 → ∃ t, Runs .holdover s t ∧ t.timeState = 2 ∧
    t.bit 0x60004 3 = true) ∧
  (∀ (s : State) (at_ : Nat), let u := s.reach at_; ∃ t, Runs (.ppsInEdge at_) s t ∧ t.rd64 0x60070 = u.time.ns - 12 ∧
    t.rd 0x60078 = u.time.frac) ∧
  (∀ (s : State), ∃ t, Runs .ppsInLoss s t ∧ t.bit 0x60004 7 = true) ∧
  (∀ (s : State) (at_ : Nat), let u := s.reach at_; let mode := u.fld 0x60060 1 0;
    let rises := u.firstEdgeOf at_ = true ∧ ((at_ : Int) - (u.rd 0x60068).toInt) % 1000000000 = 0 ∧ (mode = 1 ∨ (mode = 2
      ∧ u.timeState = 2)); rises → ∃ t, Runs (.ppsOutPulse at_) s t ∧
    t.time.ppsOut = some (((u.timeEdges 2).now : Int) + (u.rd 0x60064).toNat * 1000)) ∧
  (∀ (s : State) (p : Byte) (r : Bool) (at_ : Nat), p.toNat < 4 → let u := s.reach at_;
    let mode := u.fld (tpReg p.toNat 0x200) 2 0; let takes := mode = 3 ∨ (mode = 1 ∧ r = true) ∨ (mode = 2 ∧ r = false);
    takes → (kget [] u.time.fifo p.toNat).length < 16 → ∃ t, Runs (.tevtCapture p r at_) s t ∧
    kget [] t.time.fifo p.toNat = kget [] u.time.fifo p.toNat ++ [u.time.ns - 12]) ∧
  (∀ (s : State) (p : Byte) (at_ : Nat), p.toNat < 4 → let u := s.reach (s.compareAt p.toNat at_);
    u.compareDue p.toNat at_ = true → ∃ t, Runs (.tevtCompare p at_) s t ∧
    kfind t.time.evOut p.toNat = some (((u.timeEdges 2).now : Int) + (u.rd (tpReg p.toNat 0x20C)).toNat)) ∧
  (∀ (s : State) (m : Master) (p : Byte) (v : W32), p.toNat < 4 → s.regDenied m (tpReg p.toNat 0x208) true = none →
    eventWriter m = true → ∃ t, Runs (.tevtArm m p v) s t ∧ t.rd (tpReg p.toNat 0x208) = v ∧
    t.time.armed.getLsbD p.toNat = true) ∧
  (∀ (s : State) (m : Master) (p : Byte) v rest, p.toNat < 4 → s.regDenied m (0x60214 + 0x20 * p.toNat) false = none →
    kget [] s.time.fifo p.toNat = v :: rest → ∃ t, Runs (.tevtFifoRead m p) s t ∧ t.bus.data = leBytes 4 (lo32 v).toNat ∧
    kget [] t.time.fifo p.toNat = rest) ∧
  (∀ (s : State), ∃ t, Runs .calendarRollover s t ∧
    t.cal.secs = (if s.cal.secs + 1 = calSpan then 0 else s.cal.secs + 1) ∧ t.cal.began = (s.countOut.now : Int)) ∧
  (∀ (s : State) (m : Master) (r : Bool) n, s.regDenied m 0x70004 true = none → calWriter m = true →
    s.calStaged = some n → ∃ t, Runs (.calCommit m r) s t ∧ t.cal.secs = n ∧ t.calValid = true) ∧
  (∀ (s : State) (m : Master), s.regDenied m 0x70004 true = none → calWriter m = true → s.isHead = true → ∃ t,
    Runs (.calCapture m false) s t ∧ t.bit aCalStatus 12 = true ∧ t.rd64 0x70060 = w64 ((s.timeEdges 3).now - 12)) ∧
  (∀ (s : State) (m : Master), s.regDenied m 0x70004 true = none → calWriter m = true →
    s.shiftRefused true false = false → ∃ t, Runs (.dstFwd m false) s t ∧ t.cal.secs = (s.cal.secs + 3600) % calSpan ∧
    t.bit aCalStatus 1 = true) ∧
  (∀ (s : State) (m : Master), s.regDenied m 0x70004 true = none → calWriter m = true →
    s.shiftRefused false false = false → ∃ t, Runs (.dstBack m false) s t ∧ t.cal.secs = s.cal.secs - 3600 ∧
    t.bit aCalStatus 1 = false) ∧
  (∀ (s : State) (m : Master) (f : Byte), f.toNat ≤ 6 → s.regDenied m (0x70010 + 4 * f.toNat) false = none →
    let b := s.groupBytes (masterId m); ∃ t, Runs (.calGroupRead m f) s t ∧ t.bus.data = [b.getD f.toNat 0, 0, 0, 0]) ∧
  (∀ (s : State) (m : Master), Runs (.shadowRelease m) s (s.freeShadow (masterId m))) ∧
  (∀ (s : State) r, s.cal.meas = some r → r.left = some 0 → r.lost = false →
    let n : Int := if r.source = 2 then (r.endNs : Int) - r.ns else (((r.endZc + 2 ^ 32 - r.zc) % 2 ^ 32 : Nat) : Int);
    0 < n → ∃ t e, Runs .trimWindowClose s t ∧ t.cal.meas = none ∧ t.cal.lastE = e) ∧
  (∀ (s : State), ∃ t, Runs .oscstop s t ∧ t.calValid = false ∧ t.bit aCalStatus 5 = true) ∧
  (∀ (s : State) (l : Bool), Runs (.vbatMeasure l) s
    (if s.bit 0x90030 0 || s.bit 0x90030 1 then s.setBit aCalStatus 7 l else s))

/-- Events of the ports, of the UARTs and of the redundant pair: each completes with its effect under the conditions named.
Answers a next state, in the effect that its clause gives: feedLost, feedOk, frameLaunch, cutThrough, frameReceive,
txTailWrite, linkUp, linkDown, uartGo, uartResponse, heartbeatLaunch, heartbeat, heartbeatCheck, pairIlChange,
startWaitExpiry, ilFault, alive, aliveExpiry, mirrorPoint, mirrorPointRequest, mirrorData, mirrorEnd, mirrorTable, swapDue,
swapOffer, swapAccept, swapTimeout, resyncReq, resyncEnd, resyncTimeout, demoted, addressTableAgeOut. -/
def Obligations.PortAndPairEventsComplete : Prop :=
  (∀ (s : State) (f : Byte), f.toNat ≤ 1 → s.bit aFeed f.toNat = true → ∃ t, Runs (.feedLost f) s t ∧
    t.bit aFeed f.toNat = false ∧ t.bit aFeed (4 + f.toNat) = true) ∧
  (∀ (s : State) (f : Byte), f.toNat ≤ 1 → ∃ t, Runs (.feedOk f) s t ∧ t.bit aFeed f.toNat = true ∧ t.bit aFeed 3 = false) ∧
  (∀ (s : State) (p : Byte) (b : Nat) (iv : Nat) (st : Nat) (fr : Nat), let t0 := s.internalOf p.toNat b;
    let v := (s.reach t0).applyGates; let u := (List.range 8).foldl (fun x q => x.dropLate p.toNat q b 64) v; ∀ q f,
    p.toNat ≤ 2 → v.linkUp p.toNat = true → v.boundaryIs p.toNat b iv st fr = true → u.idleAt p.toNat b = true →
    u.nextFrame p.toNat t0 b = some (q, f) → f.origin = .own → f.oneStep = false → f.residence = none →
    f.bytes.length ≤ 1518 → (u.portCfg p.toNat).required = false → u.driftWaiting p.toNat = [] → ∃ t,
    Runs (.frameLaunch p b iv st fr) s t ∧ t.rd (pReg p.toNat 0x10C) = u.rd (pReg p.toNat 0x10C) + 1 ∧
    kfind t.port.lastTx p.toNat = some f.bytes) ∧
  (∀ (s : State) (p : Byte) (f : RxFrame), let u := s.reach f.at_; u.cutsThrough p.toNat f = true →
    u.linkUp (1 - p.toNat) = true → u.abortCause p.toNat f = 0 → u.tcOn = false →
    (u.portCfg (1 - p.toNat)).required = false → f.bytes.length ≤ 1518 → ∃ t, Runs (.cutThrough p f) s t ∧
    t.rd (pReg (1 - p.toNat) 0x10C) = u.rd (pReg (1 - p.toNat) 0x10C) + 1 ∧
    kfind t.port.lastTx (1 - p.toNat) = some f.bytes) ∧
  (∀ (s : State) (p : Byte) (f : RxFrame), let u := s.reach f.at_; p.toNat ≤ 3 → u.switching = true →
    u.abortCause p.toNat f = 0 → u.pairBars p.toNat f.bytes = false → (∀ q, q ≤ 3 → (u.portCfg q).defQ ≤ 7) → ∃ t,
    Runs (.frameReceive p f) s t ∧ t.rd (pReg p.toNat 0x108) = u.rd (pReg p.toNat 0x108) + 1) ∧
  (∀ (s : State) (m : Master) (v : W32), s.regDenied m 0x8001C true = none → netWriter m = true →
    let u := s.setFld 0x8001C 7 0 v.toNat; s.port.txIdx ≠ v.toNat % 256 → let t := u.txDescriptor s.port.txIdx;
    (t.port.txIdx + 1) % 256 = t.fld 0x8001C 7 0 → Runs (.txTailWrite m v) s
    { t with port := { t.port with txIdx := (t.port.txIdx + 1) % 256 } }) ∧
  (∀ (s : State) (p : Byte) (v : Byte), p.toNat ≤ 2 → s.subOn (0x10 + p.toNat) = true →
    s.bit aDomBusy (0x10 + p.toNat) = false → s.speedOk p.toNat v.toNat = true → ∃ t, Runs (.linkUp p v) s t ∧
    t.linkUp p.toNat = true ∧ t.fld (pReg p.toNat 0x104) 3 1 = v.toNat % 8) ∧
  (∀ (s : State) (p : Byte), p.toNat ≤ 3 → s.linkUp p.toNat = true → ∃ t, Runs (.linkDown p) s t ∧
    t.linkUp p.toNat = false ∧ t.bit (pReg p.toNat 0x104) 5 = true) ∧
  (∀ (s : State) (m : Master) (k : Byte), k.toNat ≤ 3 → s.regDenied m (0x80600 + 0x20 * k.toNat) true = none →
    uartWriter m = true → ∃ t, Runs (.uartGo m k) s t ∧ t.bit (0x80600 + 0x20 * k.toNat) 1 = true ∧
    t.bit (0x80600 + 0x20 * k.toNat) 2 = false) ∧
  (∀ (s : State) (k : Byte) (r : Byte) (d : Bytes) (st : Nat) x, kfind s.port.utx k.toNat = some x → x.launch ≤ st →
    let e : Byte := if r = 0 && !(s.uartCfg k.toNat).generic && !mbusOk d then 2 else r; x.command = none → ∃ t,
    Runs (.uartResponse k r d st) s t ∧ t.bit (0x80600 + 0x20 * k.toNat) 2 = true ∧
    t.fld (0x80600 + 0x20 * k.toNat) 5 4 = e.toNat % 4 ∧
    t.rd (0x8060C + 0x20 * k.toNat) = w32 (if e = 0 then (d.take x.room).length else 0)) ∧
  (∀ (s : State) (at_ : Nat), let u := s.reach at_; at_ % 1000000 = 0 → u.pair.alive = true → u.pair.pfail = false →
    u.paired = true → u.address ≠ 0 → u.linkUp 3 = true → u.hasRoom 3 7 54 = true → ∃ t f, Runs (.heartbeatLaunch at_) s
    t ∧ t.queue 3 7 = u.queue 3 7 ++ [f] ∧ f.launch = at_) ∧
  (∀ (s : State) (h : FrameHeader) (b : HeartbeatBody), (s.reach h.at_).carried h →
    (s.reach h.at_).accepts h false = .ok → let u := s.reach h.at_; u.hbValid h b = true → ∃ t, Runs (.heartbeat h b) s
    t ∧ t.rd aPClaim = h.claim ∧ t.pair.rxSeq = some b.hbseq) ∧
  (∀ (s : State) (at_ : Nat), let u := s.reach at_; let n := u.fld aHbMiss 2 0 + 1; u.paired = true →
    at_ % 1000000 = 500000 → u.pair.seen = false → ∃ t, Runs (.heartbeatCheck at_) s t ∧ t.fld aHbMiss 2 0 = min 7 n ∧
    t.fld aHbMiss 31 16 = min 0xFFFF (u.fld aHbMiss 31 16 + 1)) ∧
  (∀ (s : State) (l : Bool), ∃ t, Runs (.pairIlChange l) s t ∧ t.bit aIl 1 = l) ∧
  (∀ (s : State) (e : Nat), let w := s.pair.cfg.startWait * (if s.pair.cfg.primary then 1 else 2); s.pairState = 1 →
    s.ilIn = false → w ≤ e → s.topEpoch < 0xFFFFFF → ∃ t, Runs (.startWaitExpiry e) s t ∧ t.pairState = 2 ∧
    t.rd aEpoch = w32 (s.topEpoch + 1)) ∧
  (∀ (s : State), Runs .ilFault s
    (if s.bit aIl 0 && s.ilIn && !s.pairLink then (s.reachAfter (max s.pair.ilSince (max s.pair.activeSince
      s.pair.linkSince)) 10000000).setBit aPairState 12 true else s)) ∧
  (∀ (s : State), s.regDenied .firn aPairCtrl true = none → s.pairState ≠ 4 → Runs (.alive .firn) s
    { s with pair := { s.pair with alive := true, aliveAt := s.now } }) ∧
  (∀ (s : State), s.pair.alive = true → ∃ t, Runs .aliveExpiry s t ∧ t.pair.alive = false) ∧
  (∀ (s : State) (at_ : Nat), let u := (s.reach at_).wr aMbytes 0; let n := 64 * u.pair.dirty.length;
    (s.reach at_).mirrorInstant at_ = true → u.pairState = 2 → u.pair.mirrorOff = false → n ≤ 0x200000 → ∃ t,
    Runs (.mirrorPoint at_) s t ∧ t.rd aMseq = u.rd aMseq + 1 ∧ t.pair.dirty = []) ∧
  (∀ (s : State) (m : Master), let n := 64 * s.pair.dirty.length; (m = .seq ∨ m = .firn) →
    s.regDenied m 0x90034 true = none → s.pairState = 2 → s.pair.mirrorOff = false → n ≤ 0x200000 →
    (s.rd aMbytes).toNat + n ≤ 0x800000 → ∃ t, Runs (.mirrorPointRequest m) s t ∧ t.rd aMseq = s.rd aMseq + 1 ∧
    t.pair.dirty = []) ∧
  (∀ (s : State) (h : FrameHeader), (s.reach h.at_).carried h → (s.reach h.at_).accepts h false = .ok →
    let u := s.reach h.at_; ∀ (b : MirrorDataBody), u.fromPartner h = true → (u.pairState = 3 ∨ u.pairState = 5) → ∃ l,
    Runs (.mirrorData h b) s { u with pair := { u.pair with staged := some (b.mseq, b.flags, l ++ b.lines) } }) ∧
  (∀ (s : State) (h : FrameHeader), (s.reach h.at_).carried h → (s.reach h.at_).accepts h false = .ok →
    let u := s.reach h.at_; ∀ (e : MirrorEndBody) f l, u.fromPartner h = true → u.pairState = 3 → u.pair.rsFirst = false →
    u.pair.staged = some (e.mseq, f, l) → e.mseq = u.rd aMseq + 1 → l.length = e.lines.toNat → ∃ t,
    Runs (.mirrorEnd h e) s t ∧ t.rd aMseq = e.mseq ∧ t.pair.staged = none) ∧
  (∀ (s : State) (h : FrameHeader), (s.reach h.at_).carried h → (s.reach h.at_).accepts h false = .ok →
    let u := s.reach h.at_; ∀ (r : Regions), u.fromPartner h = true →
    (u.pairState = 3 ∨ u.pairState = 4 ∨ u.pairState = 5) → ∃ t, Runs (.mirrorTable h r) s t ∧
    (∀ k (p : W32 × W32), k < 80 → r.entries[k]? = some p → t.region k = (p.1.toNat, p.2.toNat))) ∧
  (∀ (s : State) (at_ : Nat), let u := s.reach at_;
    let past := (u.now : Int) - (u.pair.activeSince + (u.pair.cfg.swapH * 3600000000000 : Nat));
    let due := u.pairState = 2 ∧ u.pair.cfg.swapH ≠ 0 ∧ u.swapInstant at_ = true ∧ 0 ≤ past; due → u.swapOk = true → ∃ t,
    Runs (.swapDue at_) s t ∧ t.pairState = 6 ∧ t.pair.swapCmd = none) ∧
  (∀ (s : State) (h : FrameHeader), (s.reach h.at_).carried h → (s.reach h.at_).accepts h false = .ok →
    let u := s.reach h.at_; ∀ (m : W32) (c : W32), u.fromPartner h = true → u.pairState = 3 → ∃ t,
    Runs (.swapOffer h m c) s t ∧ t.pair.oldClaim = c) ∧
  (∀ (s : State) (h : FrameHeader), (s.reach h.at_).carried h → (s.reach h.at_).accepts h false = .ok →
    let u := s.reach h.at_; ∀ (c : W32), u.fromPartner h = true → u.pairState = 6 → (u.rd aClaim).toNat < c.toNat → ∃ t,
    Runs (.swapAccept h c) s t ∧ t.pairState = 3 ∧ t.bit aPairState 8 = true) ∧
  (∀ (s : State), s.pairState = 6 → s.pair.pState = 3 → s.ilIn = false → ∃ t, Runs .swapTimeout s t ∧ t.pairState = 2 ∧
    t.bit aIl 0 = true) ∧
  (∀ (s : State) (h : FrameHeader), (s.reach h.at_).carried h → (s.reach h.at_).accepts h false = .ok →
    let u := s.reach h.at_; ∀ (e : W32), u.fromPartner h = true → u.pairState = 2 → ∃ t, Runs (.resyncReq h e) s t ∧
    t.pair.mirrorOff = false ∧ t.pair.dirty = []) ∧
  (∀ (s : State) (h : FrameHeader), (s.reach h.at_).carried h → (s.reach h.at_).accepts h false = .ok →
    let u := s.reach h.at_; ∀ (m : W32), u.fromPartner h = true → u.pairState = 5 → u.rd aMseq = m →
    u.pair.rsFirst = false → Runs (.resyncEnd h m) s { u with pair := { u.pair with rsEnd := some m } }) ∧
  (∀ (s : State), s.pairState = 5 → ∃ t, Runs .resyncTimeout s t ∧ t.unsynced) ∧
  (∀ (s : State) (b : Bool), b = (s.pairState == 2 && s.ilIn && decide ((s.rd aPClaim).toNat > (s.rd aClaim).toNat)) →
    b = true → ∃ t, Runs .demoted s t ∧ t.unsynced) ∧
  (∀ (s : State) (at_ : Nat), let u := s.reach at_; Runs (.addressTableAgeOut at_) s
    { u with port := { u.port with addr := u.port.addr.filter fun e => decide (u.now < e.seen + 300000000000) } })

/-- Fault sources, tamper and key checks, and the log engine: each event completes with its effect under the conditions
named.
Answers a next state, in the effect that its clause gives: faultCondition, faultUserWrite, faultCtrlClear, faultTestreqGo,
faultInput, logPost, logIntakeEntry, rateRefill, flushStart, flushComplete, tamper, keyBad, dbgChal, dbgResp, bypass,
idcode, samplePreload, extest, tapReset, sealTag, sourceReleased, pwmPeriodStart. -/
def Obligations.FaultAndLogEventsComplete : Prop :=
  (∀ (s : State) (c : Sources), let m : Sources := 0x3#192 <<< 33;
    let u := { s with fault := { s.fault with live := (s.fault.live &&& ~~~m) ||| (c &&& m) } };
    Runs (.faultCondition c) s ((u.latch (u.assertedWith c)).latchedSince s {})) ∧
  (∀ (s : State) (m : Master) (k : Byte) (v : W32), k.toNat ≤ 1 → s.regDenied m (0xA0080 + 4 * k.toNat) true = none →
    userWriter m = true → ∃ t, Runs (.faultUserWrite m k v) s t ∧ t.rd (0xA0080 + 4 * k.toNat) = v) ∧
  (∀ (s : State) (r : Sources), s.frozen = true → s.assertedWith r = [] → s.onTrial = false → ∃ t,
    Runs (.faultCtrlClear .firn r) s t ∧ t.frozen = false) ∧
  (∀ (s : State) (n : Byte), n.toNat < 192 → s.onTrial = false → ∃ t, Runs (.faultTestreqGo .firn n) s t ∧
    t.fld 0xA00A0 7 0 = n.toNat ∧ t.bit 0xA0008 4 = true) ∧
  (∀ (s : State) (g : Byte) (l : Bool), g.toNat < 24 → ∃ t, Runs (.faultInput g l) s t ∧ t.bit 0xF0018 g.toNat = l) ∧
  (∀ (s : State) (m : Master) (c : W16), poster m = true → s.regDenied m 0xB004C true = none → s.log.fifo.length < 64 →
    ∃ t p, Runs (.logPost m c) s t ∧ t.log.fifo = s.log.fifo ++ [p] ∧ p.code = c) ∧
  (∀ (s : State) (p : Posting) r, s.log.unset = false → s.log.lostPend = 0 → s.unflushed ≤ 4094 → s.log.fifo = p :: r →
    exempt p.code.toNat = true → p.waiter = none → s.log.waitWrites = [] →
    (∀ j < 32, s.populated (s.ringAddr s.logNext + j) = true ∧ s.poisoned (s.ringAddr s.logNext + j) = false) → ∃ t,
    Runs .logIntakeEntry s t ∧ t.log.fifo = r ∧ t.rd64 0xB0010 = w64 (s.logNext + 1)) ∧
  (∀ (s : State) (at_ : Nat), at_ % 1000000 = 0 → let u := s.reach at_; let n := at_ / 1000000 + 1 - u.log.msNext;
    at_ ≤ u.now → u.log.msNext ≤ at_ / 1000000 → ∃ t, Runs (.rateRefill at_) s t ∧ t.log.msNext = at_ / 1000000 + 1 ∧
    t.log.msSince = (if u.bit 0xB0004 0 || u.flushBegun then u.log.msSince + n else 0)) ∧
  (∀ (s : State), s.flushDue = true → s.bit 0xB0004 0 = true → s.log.flush = none → ∃ t, Runs .flushStart s t ∧
    t.log.flush = some s.logNext ∧ t.log.firstFlush = (s.log.firstFlush && !s.faultPosted)) ∧
  (∀ (s : State) e, s.log.flush = some e → s.bit 0xB0008 22 = false → ∃ t, Runs .flushComplete s t ∧
    t.log.tail = max s.log.tail e ∧ t.rd 0xB0028 = s.rd 0xB0028 + 1) ∧
  (∀ (s : State) (n : Byte) (x : TamperPin), let l := x.live; n.toNat < 8 → s.detects n.toNat x.levels = true → ∃ t,
    Runs (.tamper n x) s t ∧ t.key.live = l ∧ t.key.latched = s.key.latched ||| (1#8 <<< n.toNat)) ∧
  (∀ (s : State) (n : Byte), n.toNat < 128 → ∃ t, Runs (.keyBad n) s t ∧ (t.slot n.toNat).bad = true ∧
    t.slotValid n.toNat = false) ∧
  (∀ (s : State), Runs .dbgChal s { s with jtag := { ir := 0x10, dr := s.key.challenge } }) ∧
  (∀ (s : State) (d : Bytes) (v : Bytes), s.key.debug = false → s.key.refused < 3 → s.noDebugKey = false →
    sliceB (d ++ v) 0 16 = s.key.challenge → s.responseOk (d ++ v) = true → ∃ t, Runs (.dbgResp d v) s t ∧
    t.key.debug = true ∧ t.key.scope = w32 (leAt (d ++ v) 16 4)) ∧
  (∀ (s : State), Runs .bypass s { s with jtag := { ir := 0x1F, dr := [0] } }) ∧
  (∀ (s : State), Runs .idcode s { s with jtag := { ir := 0x01, dr := leBytes 4 idcode.toNat } }) ∧
  (∀ (s : State), ∃ t, Runs .samplePreload s t ∧ t.jtag.ir = 0x02) ∧
  (∀ (s : State) (c : Byte), (c = 0x00 ∨ c = 0x04 ∨ c = 0x05) →
    (s.chip.straps.testEn = true ∨ (s.key.debug = true ∧ s.key.scope.getLsbD 2 = true)) → Runs (.extest c) s
    { s with jtag := { ir := BitVec.ofNat 5 c.toNat, dr := [] } }) ∧
  (∀ (s : State), Runs .tapReset s { s with jtag := { ir := 0x01, dr := [] } }) ∧
  (∀ (s : State) q, (s.log.seals.find? fun q => q.hashing) = some q → s.log.unset = false → s.unflushed ≤ 4094 → ∃ t,
    Runs .sealTag s t ∧ t.rd64 0xB0010 = w64 (s.logNext + 2) ∧ t.log.seals = s.log.seals.filter fun r => r != q) ∧
  (∀ (s : State) (n : Byte), 32 ≤ n.toNat → n.toNat ≤ 34 → ∃ t, Runs (.sourceReleased n) s t ∧ t.srcLevel n.toNat = false) ∧
  (∀ (s : State) (k : Byte), k.toNat < 16 → s.bit 0xA0004 0 = true → let p := s.fld (0xF0100 + 8 * k.toNat) 23 0;
    let d := if s.pwmSafe k.toNat then s.safePwm k.toNat else kget 0 s.io.duty k.toNat; ∃ t, Runs (.pwmPeriodStart k) s
    t ∧ t.rd (0xF0104 + 8 * k.toNat) = w32 (pwmHigh d p) ∧ kget 250000 t.io.period k.toNat = p)


/-! ### Statements of several parts -/

/-- No step stops the block: every command answers a next state, and with no command waiting the block idles (DESIGN CHOICE, log 1). -/
def Obligations.EveryStepCompletes : Prop := Sys2Proof.Claims.EmptyQueueIdles ∧ Sys2Proof.Claims.EveryCommandCompletes

/-- The gate of host commands: which status it answers, and that a refused command only completes.
Answers a next state, in the effect that its clause gives: sysNop, sysWindowSet, sysRotate, sysConfigWrite, solvBatchSubmit,
solvLaneRetire, driftNetConfig, driftSlotSet, pwrDomainSet, pwrThermalRead. -/
def Obligations.TheGateRefuses : Prop := Sys2Proof.Claims.RefusedCommandsOnlyComplete ∧ Sys2Proof.Claims.GateStatusFollowsTheRules

/-- Completions of queue pairs and of the immediate mailbox, what they change, and the message of an event that rises. -/
def Obligations.CompletionsArePosted : Prop := Sys2Proof.Claims.CompletionFrame ∧ Sys2Proof.Claims.EventsRaiseOneMessage ∧ Sys2Proof.Claims.CompletionGoesToTheQueue ∧ Sys2Proof.Claims.ImmediateCompletion

/-- The SYS class commands but for restarts, and a new configuration record.
Answers a next state, in the effect that its clause gives: sysNop, sysInfo, sysWindowSet, sysAccessGet, sysAccessSet,
sysEventRoute, sysRoleMap, sysRotate, sysConfigRead, sysConfigWrite, unknownOpcode. -/
def Obligations.SystemCommandsTakeEffect : Prop := Sys2Proof.Claims.SystemQueriesAnswer ∧ Sys2Proof.Claims.SystemSettingsTakeEffect ∧ Sys2Proof.Claims.NewRecordTakesEffect

/-- The immediate mailbox, MB_ERR and MB_EVENT, and what the host links do.
Answers a next state, in the effect that its clause gives: immediateGo, mbErrRead, mbEventClear, pcieLinkReset,
bar0BadAccess, bar2ErrorAccess, unsupportedRequest, writeEnable, writeDisable, readStatus, readId, enterOctalSdr, exitOctal,
spiReset, spiIgnoredCommand, bar2Write. -/
def Obligations.HostLinksAndMailboxRespond : Prop := Sys2Proof.Claims.MailboxRegistersRespond ∧ Sys2Proof.Claims.HostLinksAct

/-- Resets and the start they make.
Answers a next state, in the effect that its clause gives: powerOnReset, systemReset, porstNLow. -/
def Obligations.TheChipStarts : Prop := Sys2Proof.Claims.ResetsStartTheChip ∧ Sys2Proof.Claims.NormalStartReachesReady

/-- Queue pairs: their start and end, and the turn in which Firn fetches their entries.
Answers a next state, in the effect that its clause gives: queueEnable, queueDisable, commandFetch. -/
def Obligations.QueuePairsAreServed : Prop := Sys2Proof.Claims.QueuePairsStartAndEnd ∧ Sys2Proof.Claims.FirnFetchesInTurn

/-- Writes by the fields' access types, and the access tables' LOAD and COMMIT.
Answers a next state, in the effect that its clause gives: fabricAtLoad, fabricAtCommit, registerWrite. -/
def Obligations.RegistersAndTablesAreWritten : Prop := Sys2Proof.Claims.RegisterWritesFollowAccessTypes ∧ Sys2Proof.Claims.AccessTablesAreWrittenWhole

/-- Field frames at the gate, and Avalanche transfers.
Answers a next state, in the effect that its clause gives: price, heartbeat, avAnnounce, avFrag, avAck, avAbort, avResend,
avAnnounceRepeat. -/
def Obligations.FieldFramesAndTransfers : Prop := Sys2Proof.Claims.FieldFramesPassTheGate ∧ Sys2Proof.Claims.AvalancheTransfers

/-- What a HEAD does in a period: its rounds from start to plan.
Answers a next state, in the effect that its clause gives: driftStart, driftStop, roundStartInstant, bid, bidClose,
planCommitInstant. -/
def Obligations.HeadStartsAndRunsRounds : Prop := Sys2Proof.Claims.DriftRoundsStartAndStop ∧ Sys2Proof.Claims.HeadRunsItsRounds

/-- TIME commands, and the events that the time base stamps.
Answers a next state, in the effect that its clause gives: timeRead, timeState, timePortCorr, timePtpConfig,
timeEventConfig, timeNowCapture, ppsInEdge, ppsInLoss, ppsOutPulse, tevtCapture, tevtCompare, tevtArm, tevtFifoRead. -/
def Obligations.TimeIsReadAndStamped : Prop := Sys2Proof.Claims.TimeCommandsAnswer ∧ Sys2Proof.Claims.TimeEventsAreStamped

/-- Accesses that the tables refuse are discarded and recorded; reads of RC registers and of register pairs.
Answers a next state, in the effect that its clause gives: pairHiWrite, pairLoRead, accessViol, rcRead, registerWrite. -/
def Obligations.RefusalsAndReadsHaveTheirEffects : Prop := Sys2Proof.Claims.RefusedWritesAreDiscarded ∧ Sys2Proof.Claims.ViolationsAreRecorded ∧ Sys2Proof.Claims.ReadsClearRcFields ∧ Sys2Proof.Claims.RegisterPairsMoveAsOne

/-- Accesses of debuggers and of the SPI host link.
Answers a next state, in the effect that its clause gives: fastRead, pageProgram, dbgAccess. -/
def Obligations.DebugAndSpiReachMemory : Prop := Sys2Proof.Claims.DebuggersActAsTheirCore ∧ Sys2Proof.Claims.SpiReachesTheWindow

/-- The SOLV class commands beside the submission of a batch.
Answers a next state, in the effect that its clause gives: solvBatchStatus, solvBatchWait, solvBatchCancel, solvLaneStatus,
solvParamSet, batchWaitTimeout. -/
def Obligations.SolverCommandsTakeEffect : Prop := Sys2Proof.Claims.SolverCommandsAnswer ∧ Sys2Proof.Claims.CancelEmptiesABatch

/-- The DRIFT class commands that store settings and that read.
Answers a next state, in the effect that its clause gives: driftNetConfig, driftPeriodSet, driftTemplateSet, driftSlotSet,
driftFallbackSet, driftPricesRead, driftPlanRead, driftBidRead. -/
def Obligations.DriftCommandsTakeEffect : Prop := Sys2Proof.Claims.DriftSettingsAreStored ∧ Sys2Proof.Claims.DriftReadsAnswer

/-- What a STATION does in a period: its rounds and its plans.
Answers a next state, in the effect that its clause gives: roundStart, price, bidQueue, planCommit, planHoldExpiry. -/
def Obligations.StationsBidAndStage : Prop := Sys2Proof.Claims.StationBidsInRounds ∧ Sys2Proof.Claims.StationStagesPlans

/-- Requests through the loop registers, and what a tune proposes.
Answers a next state, in the effect that its clause gives: tuneProposed, loopSetmode, loopSwap, tuneAbort, loopDdataAccess. -/
def Obligations.LoopRequestsAndProposals : Prop := Sys2Proof.Claims.LoopRegistersMakeRequests ∧ Sys2Proof.Claims.TuneProposalsGoToTheInactiveBank

/-- The ticks of the loop engine: the plan table, the due loops, and the limits of their outputs.
Answers a next state, in the effect that its clause gives: planApply, planArm, loopTick. -/
def Obligations.TicksApplyPlansAndEvaluate : Prop := Sys2Proof.Claims.LoopOutputsKeepTheirLimits ∧ Sys2Proof.Claims.PlansAreAppliedWhole ∧ Sys2Proof.Claims.TicksEvaluateDueLoops

/-- Stops and changes of a cycle program, forces and variables.
Answers a next state, in the effect that its clause gives: cycStop, cycOnlineChange, cycForceSet, cycForceClear,
cycForceList, cycTaskStatus, cycVarRead, cycVarWrite. -/
def Obligations.ProgramsStopAndAnswer : Prop := Sys2Proof.Claims.ProgramsStopAndChange ∧ Sys2Proof.Claims.ForcesAndVariablesAreReached

/-- Interval commits and the saves they take.
Answers a next state, in the effect that its clause gives: intervalCommit, saveWriteComplete, powerFailWarning. -/
def Obligations.IntervalsAndSaves : Prop := Sys2Proof.Claims.IntervalsAreCommitted ∧ Sys2Proof.Claims.SavesAreWritten

/-- The MTR class commands that configure, calibrate and read.
Answers a next state, in the effect that its clause gives: mtrChanConfig, mtrEnergyRead, mtrDeltaRead, mtrCalStart,
mtrPulseConfig, mtrHeatConfig, mtrHeatRead, mtrSaveNow, saveRequest, calibrationWindowEnd. -/
def Obligations.MeteringIsConfiguredAndRead : Prop := Sys2Proof.Claims.MeteringIsConfigured ∧ Sys2Proof.Claims.MeterReadingsAnswer

/-- Instants, the one step of the time base, and the servo's updates.
Answers a next state, in the effect that its clause gives: timeSet, servoUpdate, servoStep, stepCancel, stepTaken, adjWrite,
lockLost, holdover. -/
def Obligations.TimeIsSteppedAndSteered : Prop := Sys2Proof.Claims.InstantsAreReached ∧ Sys2Proof.Claims.TheTimeBaseStepsOnce ∧ Sys2Proof.Claims.ServoMovesTheTimeBase

/-- The NET class commands that configure, links, ages and UARTs.
Answers a next state, in the effect that its clause gives: netPortConfig, netPortStatus, netAddrSet, netVlanSet,
netMacsecSa, netQueueConfig, netUartConfig, linkUp, linkDown, uartGo, uartResponse, addressTableAgeOut. -/
def Obligations.TheNetworkIsConfigured : Prop := Sys2Proof.Claims.NetworkIsConfigured ∧ Sys2Proof.Claims.LinksAndUartsRespond

/-- Frames on their way: handed over, launched, received, cut through.
Answers a next state, in the effect that its clause gives: netFrameSend, frameLaunch, cutThrough, frameReceive, txTailWrite. -/
def Obligations.FramesAreSentAndReceived : Prop := Sys2Proof.Claims.FramesAreHandedOver ∧ Sys2Proof.Claims.FramesPassTheSwitch

/-- What decides which unit of a pair is active.
Answers a next state, in the effect that its clause gives: feedLost, feedOk, heartbeatLaunch, heartbeat, heartbeatCheck,
pairIlChange, startWaitExpiry, ilFault, alive, aliveExpiry, demoted. -/
def Obligations.ThePairDecidesItsVoice : Prop := Sys2Proof.Claims.HeartbeatsDecideTheVoice ∧ Sys2Proof.Claims.LinesAndWaitsDecide

/-- The PAIR class commands, the mirror, swaps and resyncs.
Answers a next state, in the effect that its clause gives: pairConfig, pairStatus, pairMirrorSet, pairSwap, pairResync,
mirrorPoint, mirrorPointRequest, mirrorData, mirrorEnd, mirrorTable, swapDue, swapOffer, swapAccept, swapTimeout, resyncReq,
resyncEnd, resyncTimeout. -/
def Obligations.ThePairMirrorsAndSwaps : Prop := Sys2Proof.Claims.PairCommandsTakeEffect ∧ Sys2Proof.Claims.TheMirrorFollows ∧ Sys2Proof.Claims.SwapsAndResyncsEnd

/-- The CAL class commands and the calendar's own events.
Answers a next state, in the effect that its clause gives: calRead, calWrite, calDstShift, calAlarmSet, calTrimMeasure,
calTrimSet, calendarRollover, calCommit, calCapture, dstFwd, dstBack, calGroupRead, shadowRelease, trimWindowClose, oscstop,
vbatMeasure. -/
def Obligations.TheCalendarIsKept : Prop := Sys2Proof.Claims.CalendarCommandsTakeEffect ∧ Sys2Proof.Claims.TheCalendarAdvances

/-- The LOG class commands and the log engine.
Answers a next state, in the effect that its clause gives: logRead, logStatus, logFlush, logRateSet, logSeal, logWrite,
logPost, logIntakeEntry, rateRefill, flushStart, flushComplete, sealTag. -/
def Obligations.TheLogIsKept : Prop := Sys2Proof.Claims.LogCommandsTakeEffect ∧ Sys2Proof.Claims.TheLogKeepsItsRecords

/-- The KEY class commands, tamper, debug and the JTAG port.
Answers a next state, in the effect that its clause gives: keyDerive, keyInvalidate, keySlotInfo, keyTamperStatus,
keyTamperConfig, keyDebugUnlock, tamper, keyBad, dbgChal, dbgResp, bypass, idcode, samplePreload, extest, tapReset. -/
def Obligations.KeysAreGuarded : Prop := Sys2Proof.Claims.KeyCommandsTakeEffect ∧ Sys2Proof.Claims.TheGuardActs

/-- The PWR class commands, clocks, heat and the repair of memories.
Answers a next state, in the effect that its clause gives: pwrDomainSet, pwrStatus, pwrThermalRead, pwrRepairStatus,
pllSwitch, thermalSample, thermSkew, avsAdjust, scrubPass, sramUe, mramRemap, domainSwitch. -/
def Obligations.PowerAndMemoriesAreKept : Prop := Sys2Proof.Claims.PowerIsSwitched ∧ Sys2Proof.Claims.ClocksAndHeatAreHandled ∧ Sys2Proof.Claims.MemoriesAreRepaired
end

