-- ==== Sys2Proof/Laws/Maps.lean ====
section
/-! SUPPORT. Sparse maps: what a read after a write gives, and that every update keeps the canonical form. -/

namespace Sys2Proof.Machine

variable {α : Type}

@[simp] theorem kget_kset_self (d : α) (m : KMap α) (k : Nat) (v : α) : kget d (kset m k v) k = v := by
  induction m with
  | nil => simp [kset, kget]
  | cons p t ih =>
    obtain ⟨j, w⟩ := p
    unfold kset
    split
    · rename_i h
      simp [kget, ih, Nat.ne_of_lt h]
    · split <;> simp [kget]

theorem kget_kset_ne (d : α) (m : KMap α) {j k : Nat} (v : α) (h : j ≠ k) : kget d (kset m k v) j = kget d m j := by
  induction m with
  | nil => simp [kset, kget, Ne.symm h]
  | cons p t ih =>
    obtain ⟨i, w⟩ := p
    unfold kset
    split
    · simp [kget, ih]
    · split
      · rename_i e
        subst e
        simp [kget, Ne.symm h]
      · simp [kget, Ne.symm h]

@[simp] theorem kget_kdel_self (d : α) (m : KMap α) (k : Nat) : kget d (kdel m k) k = d := by
  induction m with
  | nil => rfl
  | cons p t ih =>
    obtain ⟨j, w⟩ := p
    unfold kdel at ih ⊢
    by_cases e : j = k
    · simp only [List.filter, e, ne_eq, not_true_eq_false, decide_false]
      exact ih
    · simp only [List.filter, ne_eq, e, not_false_eq_true, decide_true, kget, if_false]
      exact ih

theorem kget_kdel_ne (d : α) (m : KMap α) {j k : Nat} (h : j ≠ k) : kget d (kdel m k) j = kget d m j := by
  induction m with
  | nil => rfl
  | cons p t ih =>
    obtain ⟨i, w⟩ := p
    unfold kdel at ih ⊢
    by_cases e : i = k
    · subst e
      simp only [List.filter, ne_eq, not_true_eq_false, decide_false, kget, Ne.symm h, if_false]
      exact ih
    · simp only [List.filter, ne_eq, e, not_false_eq_true, decide_true, kget]
      rw [ih]

variable [DecidableEq α]

/-- A read of a sparse map after a write. -/
theorem kget_kput (d : α) (m : KMap α) (j k : Nat) (v : α) : kget d (kput d m k v) j = if j = k then v else kget d m j := by
  unfold kput
  split
  · rename_i e
    split
    · rename_i h
      rw [h, kget_kdel_self, e]
    · rename_i h
      exact kget_kdel_ne d m h
  · split
    · rename_i h
      rw [h, kget_kset_self]
    · rename_i h
      exact kget_kset_ne d m v h

/-- A read of a sparse map after a write of another key, each with its own default. -/
theorem kget_kput_ne (c d : α) (m : KMap α) {j k : Nat} (v : α) (h : j ≠ k) : kget c (kput d m k v) j = kget c m j := by
  unfold kput
  split
  · exact kget_kdel_ne c m h
  · exact kget_kset_ne c m v h

/-! ### The canonical form -/

omit [DecidableEq α] in
/-- Every key of a sorted map lies above the key in front. -/
theorem sortedKeys_cons {j : Nat} {w : α} {t : KMap α} :
    sortedKeys ((j, w) :: t) = true ↔ (∀ p ∈ t, j < p.1) ∧ sortedKeys t = true := by
  induction t generalizing j w with
  | nil => simp [sortedKeys]
  | cons p t ih =>
    obtain ⟨k, v⟩ := p
    simp only [sortedKeys, Bool.and_eq_true, decide_eq_true_eq, List.mem_cons, forall_eq_or_imp]
    constructor
    · rintro ⟨h, hs⟩
      refine ⟨⟨h, fun q hq => ?_⟩, hs⟩
      have := (ih.mp hs).1 q hq
      omega
    · rintro ⟨⟨h, _⟩, hs⟩
      exact ⟨h, hs⟩

omit [DecidableEq α] in
/-- A filter keeps a map sorted. -/
theorem sortedKeys_filter (f : Nat × α → Bool) (m : KMap α) (h : sortedKeys m = true) : sortedKeys (m.filter f) = true := by
  induction m with
  | nil => rfl
  | cons p t ih =>
    obtain ⟨j, w⟩ := p
    rw [sortedKeys_cons] at h
    rw [List.filter_cons]
    split
    · rw [sortedKeys_cons]
      exact ⟨fun q hq => h.1 q ((List.mem_filter.mp hq).1), ih h.2⟩
    · exact ih h.2

omit [DecidableEq α] in
/-- The entries of a map after an entry is set. -/
theorem mem_kset {m : KMap α} {k : Nat} {v : α} {p : Nat × α} (h : p ∈ kset m k v) : p = (k, v) ∨ p ∈ m := by
  induction m with
  | nil =>
    rw [kset, List.mem_singleton] at h
    exact .inl h
  | cons q t ih =>
    obtain ⟨j, w⟩ := q
    unfold kset at h
    split at h
    · rcases List.mem_cons.mp h with e | e
      · exact .inr (e ▸ List.mem_cons_self)
      · exact (ih e).imp id (List.mem_cons_of_mem _)
    · split at h
      · rcases List.mem_cons.mp h with e | e
        · exact .inl e
        · exact .inr (List.mem_cons_of_mem _ e)
      · exact List.mem_cons.mp h

omit [DecidableEq α] in
/-- Setting an entry keeps a map sorted. -/
theorem sortedKeys_kset (m : KMap α) (k : Nat) (v : α) (h : sortedKeys m = true) : sortedKeys (kset m k v) = true := by
  induction m with
  | nil => rfl
  | cons p t ih =>
    obtain ⟨j, w⟩ := p
    have hs := sortedKeys_cons.mp h
    unfold kset
    split
    · rename_i hjk
      rw [sortedKeys_cons]
      refine ⟨fun q hq => ?_, ih hs.2⟩
      rcases mem_kset hq with e | e
      · rw [e]; exact hjk
      · exact hs.1 q e
    · split
      · rename_i e
        rw [sortedKeys_cons]
        exact ⟨fun q hq => e ▸ hs.1 q hq, hs.2⟩
      · rename_i h1 h2
        rw [sortedKeys_cons]
        refine ⟨fun q hq => ?_, h⟩
        rcases List.mem_cons.mp hq with e | e
        · rw [e]; dsimp only; omega
        · have := hs.1 q e
          omega

/-- A filter keeps the canonical form. -/
theorem canonical_filter (d : Nat → α) (f : Nat × α → Bool) (m : KMap α) (h : canonical d m = true) :
    canonical d (m.filter f) = true := by
  unfold canonical at h ⊢
  rw [Bool.and_eq_true] at h ⊢
  refine ⟨sortedKeys_filter f m h.1, ?_⟩
  rw [List.all_eq_true] at h ⊢
  exact fun p hp => h.2 p ((List.mem_filter.mp hp).1)

/-- A write keeps the canonical form. -/
theorem canonical_kput (d : Nat → α) (m : KMap α) (k : Nat) (v : α) (h : canonical d m = true) :
    canonical d (kput (d k) m k v) = true := by
  unfold kput
  split
  · exact canonical_filter d _ m h
  · rename_i hv
    unfold canonical at h ⊢
    rw [Bool.and_eq_true] at h ⊢
    refine ⟨sortedKeys_kset m k v h.1, ?_⟩
    rw [List.all_eq_true] at h ⊢
    intro p hp
    rcases mem_kset hp with e | e
    · rw [e]; exact decide_eq_true hv
    · exact h.2 p e

end Sys2Proof.Machine
end

