-- ==== Sys2Proof/Laws/State.lean ====
section
/-! SUPPORT. What each shared operation leaves alone. A plain update has one lemma for each field; a composite operation
has one frame lemma that names the fields it may change, and from it one lemma for each other field. -/

namespace Sys2Proof.Machine


/-! ### Registers -/

/-- What it may change. -/
theorem State.wr_frame (s : State) (a : Nat) (v : W32) : ∃ vregs, s.wr a v = { s with regs := vregs } := by
  exact ⟨_, rfl⟩
@[simp] theorem State.wr_mem (s : State) (a : Nat) (v : W32) : (s.wr a v).mem = s.mem := by obtain ⟨_, h⟩ := s.wr_frame a v; rw [h]
@[simp] theorem State.wr_poison (s : State) (a : Nat) (v : W32) : (s.wr a v).poison = s.poison := by obtain ⟨_, h⟩ := s.wr_frame a v; rw [h]
@[simp] theorem State.wr_bus (s : State) (a : Nat) (v : W32) : (s.wr a v).bus = s.bus := by obtain ⟨_, h⟩ := s.wr_frame a v; rw [h]
@[simp] theorem State.wr_fresh (s : State) (a : Nat) (v : W32) : (s.wr a v).fresh = s.fresh := by obtain ⟨_, h⟩ := s.wr_frame a v; rw [h]
@[simp] theorem State.wr_chip (s : State) (a : Nat) (v : W32) : (s.wr a v).chip = s.chip := by obtain ⟨_, h⟩ := s.wr_frame a v; rw [h]
@[simp] theorem State.wr_cfg (s : State) (a : Nat) (v : W32) : (s.wr a v).cfg = s.cfg := by obtain ⟨_, h⟩ := s.wr_frame a v; rw [h]
@[simp] theorem State.wr_cfgBytes (s : State) (a : Nat) (v : W32) : (s.wr a v).cfgBytes = s.cfgBytes := by obtain ⟨_, h⟩ := s.wr_frame a v; rw [h]
@[simp] theorem State.wr_mb (s : State) (a : Nat) (v : W32) : (s.wr a v).mb = s.mb := by obtain ⟨_, h⟩ := s.wr_frame a v; rw [h]
@[simp] theorem State.wr_spi (s : State) (a : Nat) (v : W32) : (s.wr a v).spi = s.spi := by obtain ⟨_, h⟩ := s.wr_frame a v; rw [h]
@[simp] theorem State.wr_acc (s : State) (a : Nat) (v : W32) : (s.wr a v).acc = s.acc := by obtain ⟨_, h⟩ := s.wr_frame a v; rw [h]
@[simp] theorem State.wr_fault (s : State) (a : Nat) (v : W32) : (s.wr a v).fault = s.fault := by obtain ⟨_, h⟩ := s.wr_frame a v; rw [h]
@[simp] theorem State.wr_log (s : State) (a : Nat) (v : W32) : (s.wr a v).log = s.log := by obtain ⟨_, h⟩ := s.wr_frame a v; rw [h]
@[simp] theorem State.wr_boot (s : State) (a : Nat) (v : W32) : (s.wr a v).boot = s.boot := by obtain ⟨_, h⟩ := s.wr_frame a v; rw [h]
@[simp] theorem State.wr_key (s : State) (a : Nat) (v : W32) : (s.wr a v).key = s.key := by obtain ⟨_, h⟩ := s.wr_frame a v; rw [h]
@[simp] theorem State.wr_jtag (s : State) (a : Nat) (v : W32) : (s.wr a v).jtag = s.jtag := by obtain ⟨_, h⟩ := s.wr_frame a v; rw [h]
@[simp] theorem State.wr_pwr (s : State) (a : Nat) (v : W32) : (s.wr a v).pwr = s.pwr := by obtain ⟨_, h⟩ := s.wr_frame a v; rw [h]
@[simp] theorem State.wr_time (s : State) (a : Nat) (v : W32) : (s.wr a v).time = s.time := by obtain ⟨_, h⟩ := s.wr_frame a v; rw [h]
@[simp] theorem State.wr_pair (s : State) (a : Nat) (v : W32) : (s.wr a v).pair = s.pair := by obtain ⟨_, h⟩ := s.wr_frame a v; rw [h]
@[simp] theorem State.wr_port (s : State) (a : Nat) (v : W32) : (s.wr a v).port = s.port := by obtain ⟨_, h⟩ := s.wr_frame a v; rw [h]
@[simp] theorem State.wr_cyc (s : State) (a : Nat) (v : W32) : (s.wr a v).cyc = s.cyc := by obtain ⟨_, h⟩ := s.wr_frame a v; rw [h]
@[simp] theorem State.wr_solv (s : State) (a : Nat) (v : W32) : (s.wr a v).solv = s.solv := by obtain ⟨_, h⟩ := s.wr_frame a v; rw [h]
@[simp] theorem State.wr_io (s : State) (a : Nat) (v : W32) : (s.wr a v).io = s.io := by obtain ⟨_, h⟩ := s.wr_frame a v; rw [h]
@[simp] theorem State.wr_loop (s : State) (a : Nat) (v : W32) : (s.wr a v).loop = s.loop := by obtain ⟨_, h⟩ := s.wr_frame a v; rw [h]
@[simp] theorem State.wr_drift (s : State) (a : Nat) (v : W32) : (s.wr a v).drift = s.drift := by obtain ⟨_, h⟩ := s.wr_frame a v; rw [h]
@[simp] theorem State.wr_mtr (s : State) (a : Nat) (v : W32) : (s.wr a v).mtr = s.mtr := by obtain ⟨_, h⟩ := s.wr_frame a v; rw [h]
@[simp] theorem State.wr_cal (s : State) (a : Nat) (v : W32) : (s.wr a v).cal = s.cal := by obtain ⟨_, h⟩ := s.wr_frame a v; rw [h]
@[simp] theorem State.wr_halves (s : State) (a : Nat) (v : W32) : (s.wr a v).halves = s.halves := by obtain ⟨_, h⟩ := s.wr_frame a v; rw [h]
@[simp] theorem State.wr_pending (s : State) (a : Nat) (v : W32) : (s.wr a v).pending = s.pending := by obtain ⟨_, h⟩ := s.wr_frame a v; rw [h]

/-- What it may change. -/
theorem State.setFld_frame (s : State) (a hi lo x : Nat) : ∃ vregs, s.setFld a hi lo x = { s with regs := vregs } := by
  exact s.wr_frame _ _
@[simp] theorem State.setFld_mem (s : State) (a hi lo x : Nat) : (s.setFld a hi lo x).mem = s.mem := by obtain ⟨_, h⟩ := s.setFld_frame a hi lo x; rw [h]
@[simp] theorem State.setFld_poison (s : State) (a hi lo x : Nat) : (s.setFld a hi lo x).poison = s.poison := by obtain ⟨_, h⟩ := s.setFld_frame a hi lo x; rw [h]
@[simp] theorem State.setFld_bus (s : State) (a hi lo x : Nat) : (s.setFld a hi lo x).bus = s.bus := by obtain ⟨_, h⟩ := s.setFld_frame a hi lo x; rw [h]
@[simp] theorem State.setFld_fresh (s : State) (a hi lo x : Nat) : (s.setFld a hi lo x).fresh = s.fresh := by obtain ⟨_, h⟩ := s.setFld_frame a hi lo x; rw [h]
@[simp] theorem State.setFld_chip (s : State) (a hi lo x : Nat) : (s.setFld a hi lo x).chip = s.chip := by obtain ⟨_, h⟩ := s.setFld_frame a hi lo x; rw [h]
@[simp] theorem State.setFld_cfg (s : State) (a hi lo x : Nat) : (s.setFld a hi lo x).cfg = s.cfg := by obtain ⟨_, h⟩ := s.setFld_frame a hi lo x; rw [h]
@[simp] theorem State.setFld_cfgBytes (s : State) (a hi lo x : Nat) : (s.setFld a hi lo x).cfgBytes = s.cfgBytes := by obtain ⟨_, h⟩ := s.setFld_frame a hi lo x; rw [h]
@[simp] theorem State.setFld_mb (s : State) (a hi lo x : Nat) : (s.setFld a hi lo x).mb = s.mb := by obtain ⟨_, h⟩ := s.setFld_frame a hi lo x; rw [h]
@[simp] theorem State.setFld_spi (s : State) (a hi lo x : Nat) : (s.setFld a hi lo x).spi = s.spi := by obtain ⟨_, h⟩ := s.setFld_frame a hi lo x; rw [h]
@[simp] theorem State.setFld_acc (s : State) (a hi lo x : Nat) : (s.setFld a hi lo x).acc = s.acc := by obtain ⟨_, h⟩ := s.setFld_frame a hi lo x; rw [h]
@[simp] theorem State.setFld_fault (s : State) (a hi lo x : Nat) : (s.setFld a hi lo x).fault = s.fault := by obtain ⟨_, h⟩ := s.setFld_frame a hi lo x; rw [h]
@[simp] theorem State.setFld_log (s : State) (a hi lo x : Nat) : (s.setFld a hi lo x).log = s.log := by obtain ⟨_, h⟩ := s.setFld_frame a hi lo x; rw [h]
@[simp] theorem State.setFld_boot (s : State) (a hi lo x : Nat) : (s.setFld a hi lo x).boot = s.boot := by obtain ⟨_, h⟩ := s.setFld_frame a hi lo x; rw [h]
@[simp] theorem State.setFld_key (s : State) (a hi lo x : Nat) : (s.setFld a hi lo x).key = s.key := by obtain ⟨_, h⟩ := s.setFld_frame a hi lo x; rw [h]
@[simp] theorem State.setFld_jtag (s : State) (a hi lo x : Nat) : (s.setFld a hi lo x).jtag = s.jtag := by obtain ⟨_, h⟩ := s.setFld_frame a hi lo x; rw [h]
@[simp] theorem State.setFld_pwr (s : State) (a hi lo x : Nat) : (s.setFld a hi lo x).pwr = s.pwr := by obtain ⟨_, h⟩ := s.setFld_frame a hi lo x; rw [h]
@[simp] theorem State.setFld_time (s : State) (a hi lo x : Nat) : (s.setFld a hi lo x).time = s.time := by obtain ⟨_, h⟩ := s.setFld_frame a hi lo x; rw [h]
@[simp] theorem State.setFld_pair (s : State) (a hi lo x : Nat) : (s.setFld a hi lo x).pair = s.pair := by obtain ⟨_, h⟩ := s.setFld_frame a hi lo x; rw [h]
@[simp] theorem State.setFld_port (s : State) (a hi lo x : Nat) : (s.setFld a hi lo x).port = s.port := by obtain ⟨_, h⟩ := s.setFld_frame a hi lo x; rw [h]
@[simp] theorem State.setFld_cyc (s : State) (a hi lo x : Nat) : (s.setFld a hi lo x).cyc = s.cyc := by obtain ⟨_, h⟩ := s.setFld_frame a hi lo x; rw [h]
@[simp] theorem State.setFld_solv (s : State) (a hi lo x : Nat) : (s.setFld a hi lo x).solv = s.solv := by obtain ⟨_, h⟩ := s.setFld_frame a hi lo x; rw [h]
@[simp] theorem State.setFld_io (s : State) (a hi lo x : Nat) : (s.setFld a hi lo x).io = s.io := by obtain ⟨_, h⟩ := s.setFld_frame a hi lo x; rw [h]
@[simp] theorem State.setFld_loop (s : State) (a hi lo x : Nat) : (s.setFld a hi lo x).loop = s.loop := by obtain ⟨_, h⟩ := s.setFld_frame a hi lo x; rw [h]
@[simp] theorem State.setFld_drift (s : State) (a hi lo x : Nat) : (s.setFld a hi lo x).drift = s.drift := by obtain ⟨_, h⟩ := s.setFld_frame a hi lo x; rw [h]
@[simp] theorem State.setFld_mtr (s : State) (a hi lo x : Nat) : (s.setFld a hi lo x).mtr = s.mtr := by obtain ⟨_, h⟩ := s.setFld_frame a hi lo x; rw [h]
@[simp] theorem State.setFld_cal (s : State) (a hi lo x : Nat) : (s.setFld a hi lo x).cal = s.cal := by obtain ⟨_, h⟩ := s.setFld_frame a hi lo x; rw [h]
@[simp] theorem State.setFld_halves (s : State) (a hi lo x : Nat) : (s.setFld a hi lo x).halves = s.halves := by obtain ⟨_, h⟩ := s.setFld_frame a hi lo x; rw [h]
@[simp] theorem State.setFld_pending (s : State) (a hi lo x : Nat) : (s.setFld a hi lo x).pending = s.pending := by obtain ⟨_, h⟩ := s.setFld_frame a hi lo x; rw [h]

/-- What it may change. -/
theorem State.setBit_frame (s : State) (a i : Nat) (b : Bool) : ∃ vregs, s.setBit a i b = { s with regs := vregs } := by
  exact s.wr_frame _ _
@[simp] theorem State.setBit_mem (s : State) (a i : Nat) (b : Bool) : (s.setBit a i b).mem = s.mem := by obtain ⟨_, h⟩ := s.setBit_frame a i b; rw [h]
@[simp] theorem State.setBit_poison (s : State) (a i : Nat) (b : Bool) : (s.setBit a i b).poison = s.poison := by obtain ⟨_, h⟩ := s.setBit_frame a i b; rw [h]
@[simp] theorem State.setBit_bus (s : State) (a i : Nat) (b : Bool) : (s.setBit a i b).bus = s.bus := by obtain ⟨_, h⟩ := s.setBit_frame a i b; rw [h]
@[simp] theorem State.setBit_fresh (s : State) (a i : Nat) (b : Bool) : (s.setBit a i b).fresh = s.fresh := by obtain ⟨_, h⟩ := s.setBit_frame a i b; rw [h]
@[simp] theorem State.setBit_chip (s : State) (a i : Nat) (b : Bool) : (s.setBit a i b).chip = s.chip := by obtain ⟨_, h⟩ := s.setBit_frame a i b; rw [h]
@[simp] theorem State.setBit_cfg (s : State) (a i : Nat) (b : Bool) : (s.setBit a i b).cfg = s.cfg := by obtain ⟨_, h⟩ := s.setBit_frame a i b; rw [h]
@[simp] theorem State.setBit_cfgBytes (s : State) (a i : Nat) (b : Bool) : (s.setBit a i b).cfgBytes = s.cfgBytes := by obtain ⟨_, h⟩ := s.setBit_frame a i b; rw [h]
@[simp] theorem State.setBit_mb (s : State) (a i : Nat) (b : Bool) : (s.setBit a i b).mb = s.mb := by obtain ⟨_, h⟩ := s.setBit_frame a i b; rw [h]
@[simp] theorem State.setBit_spi (s : State) (a i : Nat) (b : Bool) : (s.setBit a i b).spi = s.spi := by obtain ⟨_, h⟩ := s.setBit_frame a i b; rw [h]
@[simp] theorem State.setBit_acc (s : State) (a i : Nat) (b : Bool) : (s.setBit a i b).acc = s.acc := by obtain ⟨_, h⟩ := s.setBit_frame a i b; rw [h]
@[simp] theorem State.setBit_fault (s : State) (a i : Nat) (b : Bool) : (s.setBit a i b).fault = s.fault := by obtain ⟨_, h⟩ := s.setBit_frame a i b; rw [h]
@[simp] theorem State.setBit_log (s : State) (a i : Nat) (b : Bool) : (s.setBit a i b).log = s.log := by obtain ⟨_, h⟩ := s.setBit_frame a i b; rw [h]
@[simp] theorem State.setBit_boot (s : State) (a i : Nat) (b : Bool) : (s.setBit a i b).boot = s.boot := by obtain ⟨_, h⟩ := s.setBit_frame a i b; rw [h]
@[simp] theorem State.setBit_key (s : State) (a i : Nat) (b : Bool) : (s.setBit a i b).key = s.key := by obtain ⟨_, h⟩ := s.setBit_frame a i b; rw [h]
@[simp] theorem State.setBit_jtag (s : State) (a i : Nat) (b : Bool) : (s.setBit a i b).jtag = s.jtag := by obtain ⟨_, h⟩ := s.setBit_frame a i b; rw [h]
@[simp] theorem State.setBit_pwr (s : State) (a i : Nat) (b : Bool) : (s.setBit a i b).pwr = s.pwr := by obtain ⟨_, h⟩ := s.setBit_frame a i b; rw [h]
@[simp] theorem State.setBit_time (s : State) (a i : Nat) (b : Bool) : (s.setBit a i b).time = s.time := by obtain ⟨_, h⟩ := s.setBit_frame a i b; rw [h]
@[simp] theorem State.setBit_pair (s : State) (a i : Nat) (b : Bool) : (s.setBit a i b).pair = s.pair := by obtain ⟨_, h⟩ := s.setBit_frame a i b; rw [h]
@[simp] theorem State.setBit_port (s : State) (a i : Nat) (b : Bool) : (s.setBit a i b).port = s.port := by obtain ⟨_, h⟩ := s.setBit_frame a i b; rw [h]
@[simp] theorem State.setBit_cyc (s : State) (a i : Nat) (b : Bool) : (s.setBit a i b).cyc = s.cyc := by obtain ⟨_, h⟩ := s.setBit_frame a i b; rw [h]
@[simp] theorem State.setBit_solv (s : State) (a i : Nat) (b : Bool) : (s.setBit a i b).solv = s.solv := by obtain ⟨_, h⟩ := s.setBit_frame a i b; rw [h]
@[simp] theorem State.setBit_io (s : State) (a i : Nat) (b : Bool) : (s.setBit a i b).io = s.io := by obtain ⟨_, h⟩ := s.setBit_frame a i b; rw [h]
@[simp] theorem State.setBit_loop (s : State) (a i : Nat) (b : Bool) : (s.setBit a i b).loop = s.loop := by obtain ⟨_, h⟩ := s.setBit_frame a i b; rw [h]
@[simp] theorem State.setBit_drift (s : State) (a i : Nat) (b : Bool) : (s.setBit a i b).drift = s.drift := by obtain ⟨_, h⟩ := s.setBit_frame a i b; rw [h]
@[simp] theorem State.setBit_mtr (s : State) (a i : Nat) (b : Bool) : (s.setBit a i b).mtr = s.mtr := by obtain ⟨_, h⟩ := s.setBit_frame a i b; rw [h]
@[simp] theorem State.setBit_cal (s : State) (a i : Nat) (b : Bool) : (s.setBit a i b).cal = s.cal := by obtain ⟨_, h⟩ := s.setBit_frame a i b; rw [h]
@[simp] theorem State.setBit_halves (s : State) (a i : Nat) (b : Bool) : (s.setBit a i b).halves = s.halves := by obtain ⟨_, h⟩ := s.setBit_frame a i b; rw [h]
@[simp] theorem State.setBit_pending (s : State) (a i : Nat) (b : Bool) : (s.setBit a i b).pending = s.pending := by obtain ⟨_, h⟩ := s.setBit_frame a i b; rw [h]

/-- What it may change. -/
theorem State.wr64_frame (s : State) (a : Nat) (v : W64) : ∃ vregs, s.wr64 a v = { s with regs := vregs } := by
  obtain ⟨r, h⟩ := s.wr_frame a (lo32 v)
  unfold State.wr64; rw [h]
  exact State.wr_frame { s with regs := r } _ _
@[simp] theorem State.wr64_mem (s : State) (a : Nat) (v : W64) : (s.wr64 a v).mem = s.mem := by obtain ⟨_, h⟩ := s.wr64_frame a v; rw [h]
@[simp] theorem State.wr64_poison (s : State) (a : Nat) (v : W64) : (s.wr64 a v).poison = s.poison := by obtain ⟨_, h⟩ := s.wr64_frame a v; rw [h]
@[simp] theorem State.wr64_bus (s : State) (a : Nat) (v : W64) : (s.wr64 a v).bus = s.bus := by obtain ⟨_, h⟩ := s.wr64_frame a v; rw [h]
@[simp] theorem State.wr64_fresh (s : State) (a : Nat) (v : W64) : (s.wr64 a v).fresh = s.fresh := by obtain ⟨_, h⟩ := s.wr64_frame a v; rw [h]
@[simp] theorem State.wr64_chip (s : State) (a : Nat) (v : W64) : (s.wr64 a v).chip = s.chip := by obtain ⟨_, h⟩ := s.wr64_frame a v; rw [h]
@[simp] theorem State.wr64_cfg (s : State) (a : Nat) (v : W64) : (s.wr64 a v).cfg = s.cfg := by obtain ⟨_, h⟩ := s.wr64_frame a v; rw [h]
@[simp] theorem State.wr64_cfgBytes (s : State) (a : Nat) (v : W64) : (s.wr64 a v).cfgBytes = s.cfgBytes := by obtain ⟨_, h⟩ := s.wr64_frame a v; rw [h]
@[simp] theorem State.wr64_mb (s : State) (a : Nat) (v : W64) : (s.wr64 a v).mb = s.mb := by obtain ⟨_, h⟩ := s.wr64_frame a v; rw [h]
@[simp] theorem State.wr64_spi (s : State) (a : Nat) (v : W64) : (s.wr64 a v).spi = s.spi := by obtain ⟨_, h⟩ := s.wr64_frame a v; rw [h]
@[simp] theorem State.wr64_acc (s : State) (a : Nat) (v : W64) : (s.wr64 a v).acc = s.acc := by obtain ⟨_, h⟩ := s.wr64_frame a v; rw [h]
@[simp] theorem State.wr64_fault (s : State) (a : Nat) (v : W64) : (s.wr64 a v).fault = s.fault := by obtain ⟨_, h⟩ := s.wr64_frame a v; rw [h]
@[simp] theorem State.wr64_log (s : State) (a : Nat) (v : W64) : (s.wr64 a v).log = s.log := by obtain ⟨_, h⟩ := s.wr64_frame a v; rw [h]
@[simp] theorem State.wr64_boot (s : State) (a : Nat) (v : W64) : (s.wr64 a v).boot = s.boot := by obtain ⟨_, h⟩ := s.wr64_frame a v; rw [h]
@[simp] theorem State.wr64_key (s : State) (a : Nat) (v : W64) : (s.wr64 a v).key = s.key := by obtain ⟨_, h⟩ := s.wr64_frame a v; rw [h]
@[simp] theorem State.wr64_jtag (s : State) (a : Nat) (v : W64) : (s.wr64 a v).jtag = s.jtag := by obtain ⟨_, h⟩ := s.wr64_frame a v; rw [h]
@[simp] theorem State.wr64_pwr (s : State) (a : Nat) (v : W64) : (s.wr64 a v).pwr = s.pwr := by obtain ⟨_, h⟩ := s.wr64_frame a v; rw [h]
@[simp] theorem State.wr64_time (s : State) (a : Nat) (v : W64) : (s.wr64 a v).time = s.time := by obtain ⟨_, h⟩ := s.wr64_frame a v; rw [h]
@[simp] theorem State.wr64_pair (s : State) (a : Nat) (v : W64) : (s.wr64 a v).pair = s.pair := by obtain ⟨_, h⟩ := s.wr64_frame a v; rw [h]
@[simp] theorem State.wr64_port (s : State) (a : Nat) (v : W64) : (s.wr64 a v).port = s.port := by obtain ⟨_, h⟩ := s.wr64_frame a v; rw [h]
@[simp] theorem State.wr64_cyc (s : State) (a : Nat) (v : W64) : (s.wr64 a v).cyc = s.cyc := by obtain ⟨_, h⟩ := s.wr64_frame a v; rw [h]
@[simp] theorem State.wr64_solv (s : State) (a : Nat) (v : W64) : (s.wr64 a v).solv = s.solv := by obtain ⟨_, h⟩ := s.wr64_frame a v; rw [h]
@[simp] theorem State.wr64_io (s : State) (a : Nat) (v : W64) : (s.wr64 a v).io = s.io := by obtain ⟨_, h⟩ := s.wr64_frame a v; rw [h]
@[simp] theorem State.wr64_loop (s : State) (a : Nat) (v : W64) : (s.wr64 a v).loop = s.loop := by obtain ⟨_, h⟩ := s.wr64_frame a v; rw [h]
@[simp] theorem State.wr64_drift (s : State) (a : Nat) (v : W64) : (s.wr64 a v).drift = s.drift := by obtain ⟨_, h⟩ := s.wr64_frame a v; rw [h]
@[simp] theorem State.wr64_mtr (s : State) (a : Nat) (v : W64) : (s.wr64 a v).mtr = s.mtr := by obtain ⟨_, h⟩ := s.wr64_frame a v; rw [h]
@[simp] theorem State.wr64_cal (s : State) (a : Nat) (v : W64) : (s.wr64 a v).cal = s.cal := by obtain ⟨_, h⟩ := s.wr64_frame a v; rw [h]
@[simp] theorem State.wr64_halves (s : State) (a : Nat) (v : W64) : (s.wr64 a v).halves = s.halves := by obtain ⟨_, h⟩ := s.wr64_frame a v; rw [h]
@[simp] theorem State.wr64_pending (s : State) (a : Nat) (v : W64) : (s.wr64 a v).pending = s.pending := by obtain ⟨_, h⟩ := s.wr64_frame a v; rw [h]

/-- What it may change. -/
theorem State.count_frame (s : State) (a n : Nat) : ∃ vregs, s.count a n = { s with regs := vregs } := by
  exact s.wr_frame _ _
@[simp] theorem State.count_mem (s : State) (a n : Nat) : (s.count a n).mem = s.mem := by obtain ⟨_, h⟩ := s.count_frame a n; rw [h]
@[simp] theorem State.count_poison (s : State) (a n : Nat) : (s.count a n).poison = s.poison := by obtain ⟨_, h⟩ := s.count_frame a n; rw [h]
@[simp] theorem State.count_bus (s : State) (a n : Nat) : (s.count a n).bus = s.bus := by obtain ⟨_, h⟩ := s.count_frame a n; rw [h]
@[simp] theorem State.count_fresh (s : State) (a n : Nat) : (s.count a n).fresh = s.fresh := by obtain ⟨_, h⟩ := s.count_frame a n; rw [h]
@[simp] theorem State.count_chip (s : State) (a n : Nat) : (s.count a n).chip = s.chip := by obtain ⟨_, h⟩ := s.count_frame a n; rw [h]
@[simp] theorem State.count_cfg (s : State) (a n : Nat) : (s.count a n).cfg = s.cfg := by obtain ⟨_, h⟩ := s.count_frame a n; rw [h]
@[simp] theorem State.count_cfgBytes (s : State) (a n : Nat) : (s.count a n).cfgBytes = s.cfgBytes := by obtain ⟨_, h⟩ := s.count_frame a n; rw [h]
@[simp] theorem State.count_mb (s : State) (a n : Nat) : (s.count a n).mb = s.mb := by obtain ⟨_, h⟩ := s.count_frame a n; rw [h]
@[simp] theorem State.count_spi (s : State) (a n : Nat) : (s.count a n).spi = s.spi := by obtain ⟨_, h⟩ := s.count_frame a n; rw [h]
@[simp] theorem State.count_acc (s : State) (a n : Nat) : (s.count a n).acc = s.acc := by obtain ⟨_, h⟩ := s.count_frame a n; rw [h]
@[simp] theorem State.count_fault (s : State) (a n : Nat) : (s.count a n).fault = s.fault := by obtain ⟨_, h⟩ := s.count_frame a n; rw [h]
@[simp] theorem State.count_log (s : State) (a n : Nat) : (s.count a n).log = s.log := by obtain ⟨_, h⟩ := s.count_frame a n; rw [h]
@[simp] theorem State.count_boot (s : State) (a n : Nat) : (s.count a n).boot = s.boot := by obtain ⟨_, h⟩ := s.count_frame a n; rw [h]
@[simp] theorem State.count_key (s : State) (a n : Nat) : (s.count a n).key = s.key := by obtain ⟨_, h⟩ := s.count_frame a n; rw [h]
@[simp] theorem State.count_jtag (s : State) (a n : Nat) : (s.count a n).jtag = s.jtag := by obtain ⟨_, h⟩ := s.count_frame a n; rw [h]
@[simp] theorem State.count_pwr (s : State) (a n : Nat) : (s.count a n).pwr = s.pwr := by obtain ⟨_, h⟩ := s.count_frame a n; rw [h]
@[simp] theorem State.count_time (s : State) (a n : Nat) : (s.count a n).time = s.time := by obtain ⟨_, h⟩ := s.count_frame a n; rw [h]
@[simp] theorem State.count_pair (s : State) (a n : Nat) : (s.count a n).pair = s.pair := by obtain ⟨_, h⟩ := s.count_frame a n; rw [h]
@[simp] theorem State.count_port (s : State) (a n : Nat) : (s.count a n).port = s.port := by obtain ⟨_, h⟩ := s.count_frame a n; rw [h]
@[simp] theorem State.count_cyc (s : State) (a n : Nat) : (s.count a n).cyc = s.cyc := by obtain ⟨_, h⟩ := s.count_frame a n; rw [h]
@[simp] theorem State.count_solv (s : State) (a n : Nat) : (s.count a n).solv = s.solv := by obtain ⟨_, h⟩ := s.count_frame a n; rw [h]
@[simp] theorem State.count_io (s : State) (a n : Nat) : (s.count a n).io = s.io := by obtain ⟨_, h⟩ := s.count_frame a n; rw [h]
@[simp] theorem State.count_loop (s : State) (a n : Nat) : (s.count a n).loop = s.loop := by obtain ⟨_, h⟩ := s.count_frame a n; rw [h]
@[simp] theorem State.count_drift (s : State) (a n : Nat) : (s.count a n).drift = s.drift := by obtain ⟨_, h⟩ := s.count_frame a n; rw [h]
@[simp] theorem State.count_mtr (s : State) (a n : Nat) : (s.count a n).mtr = s.mtr := by obtain ⟨_, h⟩ := s.count_frame a n; rw [h]
@[simp] theorem State.count_cal (s : State) (a n : Nat) : (s.count a n).cal = s.cal := by obtain ⟨_, h⟩ := s.count_frame a n; rw [h]
@[simp] theorem State.count_halves (s : State) (a n : Nat) : (s.count a n).halves = s.halves := by obtain ⟨_, h⟩ := s.count_frame a n; rw [h]
@[simp] theorem State.count_pending (s : State) (a n : Nat) : (s.count a n).pending = s.pending := by obtain ⟨_, h⟩ := s.count_frame a n; rw [h]

/-- What it may change. -/
theorem State.setErr_frame (s : State) (k : Nat) (b : Bool) : ∃ vregs, s.setErr k b = { s with regs := vregs } := by
  obtain ⟨r, h⟩ := s.setBit_frame (qpReg k 0x1C) 2 b
  unfold State.setErr; rw [h]
  exact State.setBit_frame { s with regs := r } _ _ _
@[simp] theorem State.setErr_mem (s : State) (k : Nat) (b : Bool) : (s.setErr k b).mem = s.mem := by obtain ⟨_, h⟩ := s.setErr_frame k b; rw [h]
@[simp] theorem State.setErr_poison (s : State) (k : Nat) (b : Bool) : (s.setErr k b).poison = s.poison := by obtain ⟨_, h⟩ := s.setErr_frame k b; rw [h]
@[simp] theorem State.setErr_bus (s : State) (k : Nat) (b : Bool) : (s.setErr k b).bus = s.bus := by obtain ⟨_, h⟩ := s.setErr_frame k b; rw [h]
@[simp] theorem State.setErr_fresh (s : State) (k : Nat) (b : Bool) : (s.setErr k b).fresh = s.fresh := by obtain ⟨_, h⟩ := s.setErr_frame k b; rw [h]
@[simp] theorem State.setErr_chip (s : State) (k : Nat) (b : Bool) : (s.setErr k b).chip = s.chip := by obtain ⟨_, h⟩ := s.setErr_frame k b; rw [h]
@[simp] theorem State.setErr_cfg (s : State) (k : Nat) (b : Bool) : (s.setErr k b).cfg = s.cfg := by obtain ⟨_, h⟩ := s.setErr_frame k b; rw [h]
@[simp] theorem State.setErr_cfgBytes (s : State) (k : Nat) (b : Bool) : (s.setErr k b).cfgBytes = s.cfgBytes := by obtain ⟨_, h⟩ := s.setErr_frame k b; rw [h]
@[simp] theorem State.setErr_mb (s : State) (k : Nat) (b : Bool) : (s.setErr k b).mb = s.mb := by obtain ⟨_, h⟩ := s.setErr_frame k b; rw [h]
@[simp] theorem State.setErr_spi (s : State) (k : Nat) (b : Bool) : (s.setErr k b).spi = s.spi := by obtain ⟨_, h⟩ := s.setErr_frame k b; rw [h]
@[simp] theorem State.setErr_acc (s : State) (k : Nat) (b : Bool) : (s.setErr k b).acc = s.acc := by obtain ⟨_, h⟩ := s.setErr_frame k b; rw [h]
@[simp] theorem State.setErr_fault (s : State) (k : Nat) (b : Bool) : (s.setErr k b).fault = s.fault := by obtain ⟨_, h⟩ := s.setErr_frame k b; rw [h]
@[simp] theorem State.setErr_log (s : State) (k : Nat) (b : Bool) : (s.setErr k b).log = s.log := by obtain ⟨_, h⟩ := s.setErr_frame k b; rw [h]
@[simp] theorem State.setErr_boot (s : State) (k : Nat) (b : Bool) : (s.setErr k b).boot = s.boot := by obtain ⟨_, h⟩ := s.setErr_frame k b; rw [h]
@[simp] theorem State.setErr_key (s : State) (k : Nat) (b : Bool) : (s.setErr k b).key = s.key := by obtain ⟨_, h⟩ := s.setErr_frame k b; rw [h]
@[simp] theorem State.setErr_jtag (s : State) (k : Nat) (b : Bool) : (s.setErr k b).jtag = s.jtag := by obtain ⟨_, h⟩ := s.setErr_frame k b; rw [h]
@[simp] theorem State.setErr_pwr (s : State) (k : Nat) (b : Bool) : (s.setErr k b).pwr = s.pwr := by obtain ⟨_, h⟩ := s.setErr_frame k b; rw [h]
@[simp] theorem State.setErr_time (s : State) (k : Nat) (b : Bool) : (s.setErr k b).time = s.time := by obtain ⟨_, h⟩ := s.setErr_frame k b; rw [h]
@[simp] theorem State.setErr_pair (s : State) (k : Nat) (b : Bool) : (s.setErr k b).pair = s.pair := by obtain ⟨_, h⟩ := s.setErr_frame k b; rw [h]
@[simp] theorem State.setErr_port (s : State) (k : Nat) (b : Bool) : (s.setErr k b).port = s.port := by obtain ⟨_, h⟩ := s.setErr_frame k b; rw [h]
@[simp] theorem State.setErr_cyc (s : State) (k : Nat) (b : Bool) : (s.setErr k b).cyc = s.cyc := by obtain ⟨_, h⟩ := s.setErr_frame k b; rw [h]
@[simp] theorem State.setErr_solv (s : State) (k : Nat) (b : Bool) : (s.setErr k b).solv = s.solv := by obtain ⟨_, h⟩ := s.setErr_frame k b; rw [h]
@[simp] theorem State.setErr_io (s : State) (k : Nat) (b : Bool) : (s.setErr k b).io = s.io := by obtain ⟨_, h⟩ := s.setErr_frame k b; rw [h]
@[simp] theorem State.setErr_loop (s : State) (k : Nat) (b : Bool) : (s.setErr k b).loop = s.loop := by obtain ⟨_, h⟩ := s.setErr_frame k b; rw [h]
@[simp] theorem State.setErr_drift (s : State) (k : Nat) (b : Bool) : (s.setErr k b).drift = s.drift := by obtain ⟨_, h⟩ := s.setErr_frame k b; rw [h]
@[simp] theorem State.setErr_mtr (s : State) (k : Nat) (b : Bool) : (s.setErr k b).mtr = s.mtr := by obtain ⟨_, h⟩ := s.setErr_frame k b; rw [h]
@[simp] theorem State.setErr_cal (s : State) (k : Nat) (b : Bool) : (s.setErr k b).cal = s.cal := by obtain ⟨_, h⟩ := s.setErr_frame k b; rw [h]
@[simp] theorem State.setErr_halves (s : State) (k : Nat) (b : Bool) : (s.setErr k b).halves = s.halves := by obtain ⟨_, h⟩ := s.setErr_frame k b; rw [h]
@[simp] theorem State.setErr_pending (s : State) (k : Nat) (b : Bool) : (s.setErr k b).pending = s.pending := by obtain ⟨_, h⟩ := s.setErr_frame k b; rw [h]

/-- What it may change. -/
theorem State.wrAll_frame (s : State) (l : List (Nat × W32)) : ∃ vregs, s.wrAll l = { s with regs := vregs } := by
  induction l generalizing s with
  | nil => exact ⟨s.regs, rfl⟩
  | cons p t ih => exact ih (s.wr p.1 p.2)
@[simp] theorem State.wrAll_mem (s : State) (l : List (Nat × W32)) : (s.wrAll l).mem = s.mem := by obtain ⟨_, h⟩ := s.wrAll_frame l; rw [h]
@[simp] theorem State.wrAll_poison (s : State) (l : List (Nat × W32)) : (s.wrAll l).poison = s.poison := by obtain ⟨_, h⟩ := s.wrAll_frame l; rw [h]
@[simp] theorem State.wrAll_bus (s : State) (l : List (Nat × W32)) : (s.wrAll l).bus = s.bus := by obtain ⟨_, h⟩ := s.wrAll_frame l; rw [h]
@[simp] theorem State.wrAll_fresh (s : State) (l : List (Nat × W32)) : (s.wrAll l).fresh = s.fresh := by obtain ⟨_, h⟩ := s.wrAll_frame l; rw [h]
@[simp] theorem State.wrAll_chip (s : State) (l : List (Nat × W32)) : (s.wrAll l).chip = s.chip := by obtain ⟨_, h⟩ := s.wrAll_frame l; rw [h]
@[simp] theorem State.wrAll_cfg (s : State) (l : List (Nat × W32)) : (s.wrAll l).cfg = s.cfg := by obtain ⟨_, h⟩ := s.wrAll_frame l; rw [h]
@[simp] theorem State.wrAll_cfgBytes (s : State) (l : List (Nat × W32)) : (s.wrAll l).cfgBytes = s.cfgBytes := by obtain ⟨_, h⟩ := s.wrAll_frame l; rw [h]
@[simp] theorem State.wrAll_mb (s : State) (l : List (Nat × W32)) : (s.wrAll l).mb = s.mb := by obtain ⟨_, h⟩ := s.wrAll_frame l; rw [h]
@[simp] theorem State.wrAll_spi (s : State) (l : List (Nat × W32)) : (s.wrAll l).spi = s.spi := by obtain ⟨_, h⟩ := s.wrAll_frame l; rw [h]
@[simp] theorem State.wrAll_acc (s : State) (l : List (Nat × W32)) : (s.wrAll l).acc = s.acc := by obtain ⟨_, h⟩ := s.wrAll_frame l; rw [h]
@[simp] theorem State.wrAll_fault (s : State) (l : List (Nat × W32)) : (s.wrAll l).fault = s.fault := by obtain ⟨_, h⟩ := s.wrAll_frame l; rw [h]
@[simp] theorem State.wrAll_log (s : State) (l : List (Nat × W32)) : (s.wrAll l).log = s.log := by obtain ⟨_, h⟩ := s.wrAll_frame l; rw [h]
@[simp] theorem State.wrAll_boot (s : State) (l : List (Nat × W32)) : (s.wrAll l).boot = s.boot := by obtain ⟨_, h⟩ := s.wrAll_frame l; rw [h]
@[simp] theorem State.wrAll_key (s : State) (l : List (Nat × W32)) : (s.wrAll l).key = s.key := by obtain ⟨_, h⟩ := s.wrAll_frame l; rw [h]
@[simp] theorem State.wrAll_jtag (s : State) (l : List (Nat × W32)) : (s.wrAll l).jtag = s.jtag := by obtain ⟨_, h⟩ := s.wrAll_frame l; rw [h]
@[simp] theorem State.wrAll_pwr (s : State) (l : List (Nat × W32)) : (s.wrAll l).pwr = s.pwr := by obtain ⟨_, h⟩ := s.wrAll_frame l; rw [h]
@[simp] theorem State.wrAll_time (s : State) (l : List (Nat × W32)) : (s.wrAll l).time = s.time := by obtain ⟨_, h⟩ := s.wrAll_frame l; rw [h]
@[simp] theorem State.wrAll_pair (s : State) (l : List (Nat × W32)) : (s.wrAll l).pair = s.pair := by obtain ⟨_, h⟩ := s.wrAll_frame l; rw [h]
@[simp] theorem State.wrAll_port (s : State) (l : List (Nat × W32)) : (s.wrAll l).port = s.port := by obtain ⟨_, h⟩ := s.wrAll_frame l; rw [h]
@[simp] theorem State.wrAll_cyc (s : State) (l : List (Nat × W32)) : (s.wrAll l).cyc = s.cyc := by obtain ⟨_, h⟩ := s.wrAll_frame l; rw [h]
@[simp] theorem State.wrAll_solv (s : State) (l : List (Nat × W32)) : (s.wrAll l).solv = s.solv := by obtain ⟨_, h⟩ := s.wrAll_frame l; rw [h]
@[simp] theorem State.wrAll_io (s : State) (l : List (Nat × W32)) : (s.wrAll l).io = s.io := by obtain ⟨_, h⟩ := s.wrAll_frame l; rw [h]
@[simp] theorem State.wrAll_loop (s : State) (l : List (Nat × W32)) : (s.wrAll l).loop = s.loop := by obtain ⟨_, h⟩ := s.wrAll_frame l; rw [h]
@[simp] theorem State.wrAll_drift (s : State) (l : List (Nat × W32)) : (s.wrAll l).drift = s.drift := by obtain ⟨_, h⟩ := s.wrAll_frame l; rw [h]
@[simp] theorem State.wrAll_mtr (s : State) (l : List (Nat × W32)) : (s.wrAll l).mtr = s.mtr := by obtain ⟨_, h⟩ := s.wrAll_frame l; rw [h]
@[simp] theorem State.wrAll_cal (s : State) (l : List (Nat × W32)) : (s.wrAll l).cal = s.cal := by obtain ⟨_, h⟩ := s.wrAll_frame l; rw [h]
@[simp] theorem State.wrAll_halves (s : State) (l : List (Nat × W32)) : (s.wrAll l).halves = s.halves := by obtain ⟨_, h⟩ := s.wrAll_frame l; rw [h]
@[simp] theorem State.wrAll_pending (s : State) (l : List (Nat × W32)) : (s.wrAll l).pending = s.pending := by obtain ⟨_, h⟩ := s.wrAll_frame l; rw [h]


/-! ### Memory -/

/-- What it may change. -/
theorem State.putByte_frame (s : State) (a : Nat) (b : Byte) : ∃ vmem, s.putByte a b = { s with mem := vmem } := by
  exact ⟨_, rfl⟩
@[simp] theorem State.putByte_regs (s : State) (a : Nat) (b : Byte) : (s.putByte a b).regs = s.regs := by obtain ⟨_, h⟩ := s.putByte_frame a b; rw [h]
@[simp] theorem State.putByte_poison (s : State) (a : Nat) (b : Byte) : (s.putByte a b).poison = s.poison := by obtain ⟨_, h⟩ := s.putByte_frame a b; rw [h]
@[simp] theorem State.putByte_bus (s : State) (a : Nat) (b : Byte) : (s.putByte a b).bus = s.bus := by obtain ⟨_, h⟩ := s.putByte_frame a b; rw [h]
@[simp] theorem State.putByte_fresh (s : State) (a : Nat) (b : Byte) : (s.putByte a b).fresh = s.fresh := by obtain ⟨_, h⟩ := s.putByte_frame a b; rw [h]
@[simp] theorem State.putByte_chip (s : State) (a : Nat) (b : Byte) : (s.putByte a b).chip = s.chip := by obtain ⟨_, h⟩ := s.putByte_frame a b; rw [h]
@[simp] theorem State.putByte_cfg (s : State) (a : Nat) (b : Byte) : (s.putByte a b).cfg = s.cfg := by obtain ⟨_, h⟩ := s.putByte_frame a b; rw [h]
@[simp] theorem State.putByte_cfgBytes (s : State) (a : Nat) (b : Byte) : (s.putByte a b).cfgBytes = s.cfgBytes := by obtain ⟨_, h⟩ := s.putByte_frame a b; rw [h]
@[simp] theorem State.putByte_mb (s : State) (a : Nat) (b : Byte) : (s.putByte a b).mb = s.mb := by obtain ⟨_, h⟩ := s.putByte_frame a b; rw [h]
@[simp] theorem State.putByte_spi (s : State) (a : Nat) (b : Byte) : (s.putByte a b).spi = s.spi := by obtain ⟨_, h⟩ := s.putByte_frame a b; rw [h]
@[simp] theorem State.putByte_acc (s : State) (a : Nat) (b : Byte) : (s.putByte a b).acc = s.acc := by obtain ⟨_, h⟩ := s.putByte_frame a b; rw [h]
@[simp] theorem State.putByte_fault (s : State) (a : Nat) (b : Byte) : (s.putByte a b).fault = s.fault := by obtain ⟨_, h⟩ := s.putByte_frame a b; rw [h]
@[simp] theorem State.putByte_log (s : State) (a : Nat) (b : Byte) : (s.putByte a b).log = s.log := by obtain ⟨_, h⟩ := s.putByte_frame a b; rw [h]
@[simp] theorem State.putByte_boot (s : State) (a : Nat) (b : Byte) : (s.putByte a b).boot = s.boot := by obtain ⟨_, h⟩ := s.putByte_frame a b; rw [h]
@[simp] theorem State.putByte_key (s : State) (a : Nat) (b : Byte) : (s.putByte a b).key = s.key := by obtain ⟨_, h⟩ := s.putByte_frame a b; rw [h]
@[simp] theorem State.putByte_jtag (s : State) (a : Nat) (b : Byte) : (s.putByte a b).jtag = s.jtag := by obtain ⟨_, h⟩ := s.putByte_frame a b; rw [h]
@[simp] theorem State.putByte_pwr (s : State) (a : Nat) (b : Byte) : (s.putByte a b).pwr = s.pwr := by obtain ⟨_, h⟩ := s.putByte_frame a b; rw [h]
@[simp] theorem State.putByte_time (s : State) (a : Nat) (b : Byte) : (s.putByte a b).time = s.time := by obtain ⟨_, h⟩ := s.putByte_frame a b; rw [h]
@[simp] theorem State.putByte_pair (s : State) (a : Nat) (b : Byte) : (s.putByte a b).pair = s.pair := by obtain ⟨_, h⟩ := s.putByte_frame a b; rw [h]
@[simp] theorem State.putByte_port (s : State) (a : Nat) (b : Byte) : (s.putByte a b).port = s.port := by obtain ⟨_, h⟩ := s.putByte_frame a b; rw [h]
@[simp] theorem State.putByte_cyc (s : State) (a : Nat) (b : Byte) : (s.putByte a b).cyc = s.cyc := by obtain ⟨_, h⟩ := s.putByte_frame a b; rw [h]
@[simp] theorem State.putByte_solv (s : State) (a : Nat) (b : Byte) : (s.putByte a b).solv = s.solv := by obtain ⟨_, h⟩ := s.putByte_frame a b; rw [h]
@[simp] theorem State.putByte_io (s : State) (a : Nat) (b : Byte) : (s.putByte a b).io = s.io := by obtain ⟨_, h⟩ := s.putByte_frame a b; rw [h]
@[simp] theorem State.putByte_loop (s : State) (a : Nat) (b : Byte) : (s.putByte a b).loop = s.loop := by obtain ⟨_, h⟩ := s.putByte_frame a b; rw [h]
@[simp] theorem State.putByte_drift (s : State) (a : Nat) (b : Byte) : (s.putByte a b).drift = s.drift := by obtain ⟨_, h⟩ := s.putByte_frame a b; rw [h]
@[simp] theorem State.putByte_mtr (s : State) (a : Nat) (b : Byte) : (s.putByte a b).mtr = s.mtr := by obtain ⟨_, h⟩ := s.putByte_frame a b; rw [h]
@[simp] theorem State.putByte_cal (s : State) (a : Nat) (b : Byte) : (s.putByte a b).cal = s.cal := by obtain ⟨_, h⟩ := s.putByte_frame a b; rw [h]
@[simp] theorem State.putByte_halves (s : State) (a : Nat) (b : Byte) : (s.putByte a b).halves = s.halves := by obtain ⟨_, h⟩ := s.putByte_frame a b; rw [h]
@[simp] theorem State.putByte_pending (s : State) (a : Nat) (b : Byte) : (s.putByte a b).pending = s.pending := by obtain ⟨_, h⟩ := s.putByte_frame a b; rw [h]

/-- What it may change. -/
theorem State.putBytes_frame (s : State) (a : Nat) (l : Bytes) : ∃ vmem, s.putBytes a l = { s with mem := vmem } := by
  induction l generalizing s a with
  | nil => exact ⟨s.mem, rfl⟩
  | cons b t ih => exact ih (s.putByte a b) (a + 1)
@[simp] theorem State.putBytes_regs (s : State) (a : Nat) (l : Bytes) : (s.putBytes a l).regs = s.regs := by obtain ⟨_, h⟩ := s.putBytes_frame a l; rw [h]
@[simp] theorem State.putBytes_poison (s : State) (a : Nat) (l : Bytes) : (s.putBytes a l).poison = s.poison := by obtain ⟨_, h⟩ := s.putBytes_frame a l; rw [h]
@[simp] theorem State.putBytes_bus (s : State) (a : Nat) (l : Bytes) : (s.putBytes a l).bus = s.bus := by obtain ⟨_, h⟩ := s.putBytes_frame a l; rw [h]
@[simp] theorem State.putBytes_fresh (s : State) (a : Nat) (l : Bytes) : (s.putBytes a l).fresh = s.fresh := by obtain ⟨_, h⟩ := s.putBytes_frame a l; rw [h]
@[simp] theorem State.putBytes_chip (s : State) (a : Nat) (l : Bytes) : (s.putBytes a l).chip = s.chip := by obtain ⟨_, h⟩ := s.putBytes_frame a l; rw [h]
@[simp] theorem State.putBytes_cfg (s : State) (a : Nat) (l : Bytes) : (s.putBytes a l).cfg = s.cfg := by obtain ⟨_, h⟩ := s.putBytes_frame a l; rw [h]
@[simp] theorem State.putBytes_cfgBytes (s : State) (a : Nat) (l : Bytes) : (s.putBytes a l).cfgBytes = s.cfgBytes := by obtain ⟨_, h⟩ := s.putBytes_frame a l; rw [h]
@[simp] theorem State.putBytes_mb (s : State) (a : Nat) (l : Bytes) : (s.putBytes a l).mb = s.mb := by obtain ⟨_, h⟩ := s.putBytes_frame a l; rw [h]
@[simp] theorem State.putBytes_spi (s : State) (a : Nat) (l : Bytes) : (s.putBytes a l).spi = s.spi := by obtain ⟨_, h⟩ := s.putBytes_frame a l; rw [h]
@[simp] theorem State.putBytes_acc (s : State) (a : Nat) (l : Bytes) : (s.putBytes a l).acc = s.acc := by obtain ⟨_, h⟩ := s.putBytes_frame a l; rw [h]
@[simp] theorem State.putBytes_fault (s : State) (a : Nat) (l : Bytes) : (s.putBytes a l).fault = s.fault := by obtain ⟨_, h⟩ := s.putBytes_frame a l; rw [h]
@[simp] theorem State.putBytes_log (s : State) (a : Nat) (l : Bytes) : (s.putBytes a l).log = s.log := by obtain ⟨_, h⟩ := s.putBytes_frame a l; rw [h]
@[simp] theorem State.putBytes_boot (s : State) (a : Nat) (l : Bytes) : (s.putBytes a l).boot = s.boot := by obtain ⟨_, h⟩ := s.putBytes_frame a l; rw [h]
@[simp] theorem State.putBytes_key (s : State) (a : Nat) (l : Bytes) : (s.putBytes a l).key = s.key := by obtain ⟨_, h⟩ := s.putBytes_frame a l; rw [h]
@[simp] theorem State.putBytes_jtag (s : State) (a : Nat) (l : Bytes) : (s.putBytes a l).jtag = s.jtag := by obtain ⟨_, h⟩ := s.putBytes_frame a l; rw [h]
@[simp] theorem State.putBytes_pwr (s : State) (a : Nat) (l : Bytes) : (s.putBytes a l).pwr = s.pwr := by obtain ⟨_, h⟩ := s.putBytes_frame a l; rw [h]
@[simp] theorem State.putBytes_time (s : State) (a : Nat) (l : Bytes) : (s.putBytes a l).time = s.time := by obtain ⟨_, h⟩ := s.putBytes_frame a l; rw [h]
@[simp] theorem State.putBytes_pair (s : State) (a : Nat) (l : Bytes) : (s.putBytes a l).pair = s.pair := by obtain ⟨_, h⟩ := s.putBytes_frame a l; rw [h]
@[simp] theorem State.putBytes_port (s : State) (a : Nat) (l : Bytes) : (s.putBytes a l).port = s.port := by obtain ⟨_, h⟩ := s.putBytes_frame a l; rw [h]
@[simp] theorem State.putBytes_cyc (s : State) (a : Nat) (l : Bytes) : (s.putBytes a l).cyc = s.cyc := by obtain ⟨_, h⟩ := s.putBytes_frame a l; rw [h]
@[simp] theorem State.putBytes_solv (s : State) (a : Nat) (l : Bytes) : (s.putBytes a l).solv = s.solv := by obtain ⟨_, h⟩ := s.putBytes_frame a l; rw [h]
@[simp] theorem State.putBytes_io (s : State) (a : Nat) (l : Bytes) : (s.putBytes a l).io = s.io := by obtain ⟨_, h⟩ := s.putBytes_frame a l; rw [h]
@[simp] theorem State.putBytes_loop (s : State) (a : Nat) (l : Bytes) : (s.putBytes a l).loop = s.loop := by obtain ⟨_, h⟩ := s.putBytes_frame a l; rw [h]
@[simp] theorem State.putBytes_drift (s : State) (a : Nat) (l : Bytes) : (s.putBytes a l).drift = s.drift := by obtain ⟨_, h⟩ := s.putBytes_frame a l; rw [h]
@[simp] theorem State.putBytes_mtr (s : State) (a : Nat) (l : Bytes) : (s.putBytes a l).mtr = s.mtr := by obtain ⟨_, h⟩ := s.putBytes_frame a l; rw [h]
@[simp] theorem State.putBytes_cal (s : State) (a : Nat) (l : Bytes) : (s.putBytes a l).cal = s.cal := by obtain ⟨_, h⟩ := s.putBytes_frame a l; rw [h]
@[simp] theorem State.putBytes_halves (s : State) (a : Nat) (l : Bytes) : (s.putBytes a l).halves = s.halves := by obtain ⟨_, h⟩ := s.putBytes_frame a l; rw [h]
@[simp] theorem State.putBytes_pending (s : State) (a : Nat) (l : Bytes) : (s.putBytes a l).pending = s.pending := by obtain ⟨_, h⟩ := s.putBytes_frame a l; rw [h]

/-- What it may change. -/
theorem State.markDirty_frame (s : State) (a n : Nat) : ∃ vpair, s.markDirty a n = { s with pair := vpair } := by
  unfold State.markDirty; split
  · exact ⟨s.pair, rfl⟩
  · exact ⟨_, rfl⟩
@[simp] theorem State.markDirty_mem (s : State) (a n : Nat) : (s.markDirty a n).mem = s.mem := by obtain ⟨_, h⟩ := s.markDirty_frame a n; rw [h]
@[simp] theorem State.markDirty_regs (s : State) (a n : Nat) : (s.markDirty a n).regs = s.regs := by obtain ⟨_, h⟩ := s.markDirty_frame a n; rw [h]
@[simp] theorem State.markDirty_poison (s : State) (a n : Nat) : (s.markDirty a n).poison = s.poison := by obtain ⟨_, h⟩ := s.markDirty_frame a n; rw [h]
@[simp] theorem State.markDirty_bus (s : State) (a n : Nat) : (s.markDirty a n).bus = s.bus := by obtain ⟨_, h⟩ := s.markDirty_frame a n; rw [h]
@[simp] theorem State.markDirty_fresh (s : State) (a n : Nat) : (s.markDirty a n).fresh = s.fresh := by obtain ⟨_, h⟩ := s.markDirty_frame a n; rw [h]
@[simp] theorem State.markDirty_chip (s : State) (a n : Nat) : (s.markDirty a n).chip = s.chip := by obtain ⟨_, h⟩ := s.markDirty_frame a n; rw [h]
@[simp] theorem State.markDirty_cfg (s : State) (a n : Nat) : (s.markDirty a n).cfg = s.cfg := by obtain ⟨_, h⟩ := s.markDirty_frame a n; rw [h]
@[simp] theorem State.markDirty_cfgBytes (s : State) (a n : Nat) : (s.markDirty a n).cfgBytes = s.cfgBytes := by obtain ⟨_, h⟩ := s.markDirty_frame a n; rw [h]
@[simp] theorem State.markDirty_mb (s : State) (a n : Nat) : (s.markDirty a n).mb = s.mb := by obtain ⟨_, h⟩ := s.markDirty_frame a n; rw [h]
@[simp] theorem State.markDirty_spi (s : State) (a n : Nat) : (s.markDirty a n).spi = s.spi := by obtain ⟨_, h⟩ := s.markDirty_frame a n; rw [h]
@[simp] theorem State.markDirty_acc (s : State) (a n : Nat) : (s.markDirty a n).acc = s.acc := by obtain ⟨_, h⟩ := s.markDirty_frame a n; rw [h]
@[simp] theorem State.markDirty_fault (s : State) (a n : Nat) : (s.markDirty a n).fault = s.fault := by obtain ⟨_, h⟩ := s.markDirty_frame a n; rw [h]
@[simp] theorem State.markDirty_log (s : State) (a n : Nat) : (s.markDirty a n).log = s.log := by obtain ⟨_, h⟩ := s.markDirty_frame a n; rw [h]
@[simp] theorem State.markDirty_boot (s : State) (a n : Nat) : (s.markDirty a n).boot = s.boot := by obtain ⟨_, h⟩ := s.markDirty_frame a n; rw [h]
@[simp] theorem State.markDirty_key (s : State) (a n : Nat) : (s.markDirty a n).key = s.key := by obtain ⟨_, h⟩ := s.markDirty_frame a n; rw [h]
@[simp] theorem State.markDirty_jtag (s : State) (a n : Nat) : (s.markDirty a n).jtag = s.jtag := by obtain ⟨_, h⟩ := s.markDirty_frame a n; rw [h]
@[simp] theorem State.markDirty_pwr (s : State) (a n : Nat) : (s.markDirty a n).pwr = s.pwr := by obtain ⟨_, h⟩ := s.markDirty_frame a n; rw [h]
@[simp] theorem State.markDirty_time (s : State) (a n : Nat) : (s.markDirty a n).time = s.time := by obtain ⟨_, h⟩ := s.markDirty_frame a n; rw [h]
@[simp] theorem State.markDirty_port (s : State) (a n : Nat) : (s.markDirty a n).port = s.port := by obtain ⟨_, h⟩ := s.markDirty_frame a n; rw [h]
@[simp] theorem State.markDirty_cyc (s : State) (a n : Nat) : (s.markDirty a n).cyc = s.cyc := by obtain ⟨_, h⟩ := s.markDirty_frame a n; rw [h]
@[simp] theorem State.markDirty_solv (s : State) (a n : Nat) : (s.markDirty a n).solv = s.solv := by obtain ⟨_, h⟩ := s.markDirty_frame a n; rw [h]
@[simp] theorem State.markDirty_io (s : State) (a n : Nat) : (s.markDirty a n).io = s.io := by obtain ⟨_, h⟩ := s.markDirty_frame a n; rw [h]
@[simp] theorem State.markDirty_loop (s : State) (a n : Nat) : (s.markDirty a n).loop = s.loop := by obtain ⟨_, h⟩ := s.markDirty_frame a n; rw [h]
@[simp] theorem State.markDirty_drift (s : State) (a n : Nat) : (s.markDirty a n).drift = s.drift := by obtain ⟨_, h⟩ := s.markDirty_frame a n; rw [h]
@[simp] theorem State.markDirty_mtr (s : State) (a n : Nat) : (s.markDirty a n).mtr = s.mtr := by obtain ⟨_, h⟩ := s.markDirty_frame a n; rw [h]
@[simp] theorem State.markDirty_cal (s : State) (a n : Nat) : (s.markDirty a n).cal = s.cal := by obtain ⟨_, h⟩ := s.markDirty_frame a n; rw [h]
@[simp] theorem State.markDirty_halves (s : State) (a n : Nat) : (s.markDirty a n).halves = s.halves := by obtain ⟨_, h⟩ := s.markDirty_frame a n; rw [h]
@[simp] theorem State.markDirty_pending (s : State) (a n : Nat) : (s.markDirty a n).pending = s.pending := by obtain ⟨_, h⟩ := s.markDirty_frame a n; rw [h]

/-- Storing chosen bytes changes memory alone. -/
theorem State.storeFold_frame (a : Nat) (l : List (Nat × Byte)) (s : State) :
    ∃ vmem, l.foldl (fun t p => t.putByte (a + p.1) p.2) s = { s with mem := vmem } := by
  induction l generalizing s with
  | nil => exact ⟨s.mem, rfl⟩
  | cons p t ih => exact ih (s.putByte (a + p.1) p.2)

/-- What it may change. -/
theorem State.store_frame (s : State) (a : Nat) (l : Bytes) : ∃ vmem, s.store a l = { s with mem := vmem } := by
  exact State.storeFold_frame a _ s
@[simp] theorem State.store_regs (s : State) (a : Nat) (l : Bytes) : (s.store a l).regs = s.regs := by obtain ⟨_, h⟩ := s.store_frame a l; rw [h]
@[simp] theorem State.store_poison (s : State) (a : Nat) (l : Bytes) : (s.store a l).poison = s.poison := by obtain ⟨_, h⟩ := s.store_frame a l; rw [h]
@[simp] theorem State.store_bus (s : State) (a : Nat) (l : Bytes) : (s.store a l).bus = s.bus := by obtain ⟨_, h⟩ := s.store_frame a l; rw [h]
@[simp] theorem State.store_fresh (s : State) (a : Nat) (l : Bytes) : (s.store a l).fresh = s.fresh := by obtain ⟨_, h⟩ := s.store_frame a l; rw [h]
@[simp] theorem State.store_chip (s : State) (a : Nat) (l : Bytes) : (s.store a l).chip = s.chip := by obtain ⟨_, h⟩ := s.store_frame a l; rw [h]
@[simp] theorem State.store_cfg (s : State) (a : Nat) (l : Bytes) : (s.store a l).cfg = s.cfg := by obtain ⟨_, h⟩ := s.store_frame a l; rw [h]
@[simp] theorem State.store_cfgBytes (s : State) (a : Nat) (l : Bytes) : (s.store a l).cfgBytes = s.cfgBytes := by obtain ⟨_, h⟩ := s.store_frame a l; rw [h]
@[simp] theorem State.store_mb (s : State) (a : Nat) (l : Bytes) : (s.store a l).mb = s.mb := by obtain ⟨_, h⟩ := s.store_frame a l; rw [h]
@[simp] theorem State.store_spi (s : State) (a : Nat) (l : Bytes) : (s.store a l).spi = s.spi := by obtain ⟨_, h⟩ := s.store_frame a l; rw [h]
@[simp] theorem State.store_acc (s : State) (a : Nat) (l : Bytes) : (s.store a l).acc = s.acc := by obtain ⟨_, h⟩ := s.store_frame a l; rw [h]
@[simp] theorem State.store_fault (s : State) (a : Nat) (l : Bytes) : (s.store a l).fault = s.fault := by obtain ⟨_, h⟩ := s.store_frame a l; rw [h]
@[simp] theorem State.store_log (s : State) (a : Nat) (l : Bytes) : (s.store a l).log = s.log := by obtain ⟨_, h⟩ := s.store_frame a l; rw [h]
@[simp] theorem State.store_boot (s : State) (a : Nat) (l : Bytes) : (s.store a l).boot = s.boot := by obtain ⟨_, h⟩ := s.store_frame a l; rw [h]
@[simp] theorem State.store_key (s : State) (a : Nat) (l : Bytes) : (s.store a l).key = s.key := by obtain ⟨_, h⟩ := s.store_frame a l; rw [h]
@[simp] theorem State.store_jtag (s : State) (a : Nat) (l : Bytes) : (s.store a l).jtag = s.jtag := by obtain ⟨_, h⟩ := s.store_frame a l; rw [h]
@[simp] theorem State.store_pwr (s : State) (a : Nat) (l : Bytes) : (s.store a l).pwr = s.pwr := by obtain ⟨_, h⟩ := s.store_frame a l; rw [h]
@[simp] theorem State.store_time (s : State) (a : Nat) (l : Bytes) : (s.store a l).time = s.time := by obtain ⟨_, h⟩ := s.store_frame a l; rw [h]
@[simp] theorem State.store_pair (s : State) (a : Nat) (l : Bytes) : (s.store a l).pair = s.pair := by obtain ⟨_, h⟩ := s.store_frame a l; rw [h]
@[simp] theorem State.store_port (s : State) (a : Nat) (l : Bytes) : (s.store a l).port = s.port := by obtain ⟨_, h⟩ := s.store_frame a l; rw [h]
@[simp] theorem State.store_cyc (s : State) (a : Nat) (l : Bytes) : (s.store a l).cyc = s.cyc := by obtain ⟨_, h⟩ := s.store_frame a l; rw [h]
@[simp] theorem State.store_solv (s : State) (a : Nat) (l : Bytes) : (s.store a l).solv = s.solv := by obtain ⟨_, h⟩ := s.store_frame a l; rw [h]
@[simp] theorem State.store_io (s : State) (a : Nat) (l : Bytes) : (s.store a l).io = s.io := by obtain ⟨_, h⟩ := s.store_frame a l; rw [h]
@[simp] theorem State.store_loop (s : State) (a : Nat) (l : Bytes) : (s.store a l).loop = s.loop := by obtain ⟨_, h⟩ := s.store_frame a l; rw [h]
@[simp] theorem State.store_drift (s : State) (a : Nat) (l : Bytes) : (s.store a l).drift = s.drift := by obtain ⟨_, h⟩ := s.store_frame a l; rw [h]
@[simp] theorem State.store_mtr (s : State) (a : Nat) (l : Bytes) : (s.store a l).mtr = s.mtr := by obtain ⟨_, h⟩ := s.store_frame a l; rw [h]
@[simp] theorem State.store_cal (s : State) (a : Nat) (l : Bytes) : (s.store a l).cal = s.cal := by obtain ⟨_, h⟩ := s.store_frame a l; rw [h]
@[simp] theorem State.store_halves (s : State) (a : Nat) (l : Bytes) : (s.store a l).halves = s.halves := by obtain ⟨_, h⟩ := s.store_frame a l; rw [h]
@[simp] theorem State.store_pending (s : State) (a : Nat) (l : Bytes) : (s.store a l).pending = s.pending := by obtain ⟨_, h⟩ := s.store_frame a l; rw [h]

/-- What it may change. -/
theorem State.unpoison_frame (s : State) (a n : Nat) : ∃ vpoison, s.unpoison a n = { s with poison := vpoison } := by
  exact ⟨_, rfl⟩
@[simp] theorem State.unpoison_mem (s : State) (a n : Nat) : (s.unpoison a n).mem = s.mem := by obtain ⟨_, h⟩ := s.unpoison_frame a n; rw [h]
@[simp] theorem State.unpoison_regs (s : State) (a n : Nat) : (s.unpoison a n).regs = s.regs := by obtain ⟨_, h⟩ := s.unpoison_frame a n; rw [h]
@[simp] theorem State.unpoison_bus (s : State) (a n : Nat) : (s.unpoison a n).bus = s.bus := by obtain ⟨_, h⟩ := s.unpoison_frame a n; rw [h]
@[simp] theorem State.unpoison_fresh (s : State) (a n : Nat) : (s.unpoison a n).fresh = s.fresh := by obtain ⟨_, h⟩ := s.unpoison_frame a n; rw [h]
@[simp] theorem State.unpoison_chip (s : State) (a n : Nat) : (s.unpoison a n).chip = s.chip := by obtain ⟨_, h⟩ := s.unpoison_frame a n; rw [h]
@[simp] theorem State.unpoison_cfg (s : State) (a n : Nat) : (s.unpoison a n).cfg = s.cfg := by obtain ⟨_, h⟩ := s.unpoison_frame a n; rw [h]
@[simp] theorem State.unpoison_cfgBytes (s : State) (a n : Nat) : (s.unpoison a n).cfgBytes = s.cfgBytes := by obtain ⟨_, h⟩ := s.unpoison_frame a n; rw [h]
@[simp] theorem State.unpoison_mb (s : State) (a n : Nat) : (s.unpoison a n).mb = s.mb := by obtain ⟨_, h⟩ := s.unpoison_frame a n; rw [h]
@[simp] theorem State.unpoison_spi (s : State) (a n : Nat) : (s.unpoison a n).spi = s.spi := by obtain ⟨_, h⟩ := s.unpoison_frame a n; rw [h]
@[simp] theorem State.unpoison_acc (s : State) (a n : Nat) : (s.unpoison a n).acc = s.acc := by obtain ⟨_, h⟩ := s.unpoison_frame a n; rw [h]
@[simp] theorem State.unpoison_fault (s : State) (a n : Nat) : (s.unpoison a n).fault = s.fault := by obtain ⟨_, h⟩ := s.unpoison_frame a n; rw [h]
@[simp] theorem State.unpoison_log (s : State) (a n : Nat) : (s.unpoison a n).log = s.log := by obtain ⟨_, h⟩ := s.unpoison_frame a n; rw [h]
@[simp] theorem State.unpoison_boot (s : State) (a n : Nat) : (s.unpoison a n).boot = s.boot := by obtain ⟨_, h⟩ := s.unpoison_frame a n; rw [h]
@[simp] theorem State.unpoison_key (s : State) (a n : Nat) : (s.unpoison a n).key = s.key := by obtain ⟨_, h⟩ := s.unpoison_frame a n; rw [h]
@[simp] theorem State.unpoison_jtag (s : State) (a n : Nat) : (s.unpoison a n).jtag = s.jtag := by obtain ⟨_, h⟩ := s.unpoison_frame a n; rw [h]
@[simp] theorem State.unpoison_pwr (s : State) (a n : Nat) : (s.unpoison a n).pwr = s.pwr := by obtain ⟨_, h⟩ := s.unpoison_frame a n; rw [h]
@[simp] theorem State.unpoison_time (s : State) (a n : Nat) : (s.unpoison a n).time = s.time := by obtain ⟨_, h⟩ := s.unpoison_frame a n; rw [h]
@[simp] theorem State.unpoison_pair (s : State) (a n : Nat) : (s.unpoison a n).pair = s.pair := by obtain ⟨_, h⟩ := s.unpoison_frame a n; rw [h]
@[simp] theorem State.unpoison_port (s : State) (a n : Nat) : (s.unpoison a n).port = s.port := by obtain ⟨_, h⟩ := s.unpoison_frame a n; rw [h]
@[simp] theorem State.unpoison_cyc (s : State) (a n : Nat) : (s.unpoison a n).cyc = s.cyc := by obtain ⟨_, h⟩ := s.unpoison_frame a n; rw [h]
@[simp] theorem State.unpoison_solv (s : State) (a n : Nat) : (s.unpoison a n).solv = s.solv := by obtain ⟨_, h⟩ := s.unpoison_frame a n; rw [h]
@[simp] theorem State.unpoison_io (s : State) (a n : Nat) : (s.unpoison a n).io = s.io := by obtain ⟨_, h⟩ := s.unpoison_frame a n; rw [h]
@[simp] theorem State.unpoison_loop (s : State) (a n : Nat) : (s.unpoison a n).loop = s.loop := by obtain ⟨_, h⟩ := s.unpoison_frame a n; rw [h]
@[simp] theorem State.unpoison_drift (s : State) (a n : Nat) : (s.unpoison a n).drift = s.drift := by obtain ⟨_, h⟩ := s.unpoison_frame a n; rw [h]
@[simp] theorem State.unpoison_mtr (s : State) (a n : Nat) : (s.unpoison a n).mtr = s.mtr := by obtain ⟨_, h⟩ := s.unpoison_frame a n; rw [h]
@[simp] theorem State.unpoison_cal (s : State) (a n : Nat) : (s.unpoison a n).cal = s.cal := by obtain ⟨_, h⟩ := s.unpoison_frame a n; rw [h]
@[simp] theorem State.unpoison_halves (s : State) (a n : Nat) : (s.unpoison a n).halves = s.halves := by obtain ⟨_, h⟩ := s.unpoison_frame a n; rw [h]
@[simp] theorem State.unpoison_pending (s : State) (a n : Nat) : (s.unpoison a n).pending = s.pending := by obtain ⟨_, h⟩ := s.unpoison_frame a n; rw [h]

/-- What it may change. -/
theorem State.wrMem_frame (s : State) (a : Nat) (l : Bytes) : ∃ vmem vpoison vpair, s.wrMem a l = { s with mem := vmem, poison := vpoison, pair := vpair } := by
  unfold State.wrMem
  obtain ⟨m, h⟩ := s.store_frame a l
  rw [h]
  obtain ⟨p, h⟩ := State.unpoison_frame { s with mem := m } a l.length
  rw [h]
  obtain ⟨d, h⟩ := State.markDirty_frame { s with mem := m, poison := p } a l.length
  exact ⟨m, p, d, h⟩
@[simp] theorem State.wrMem_regs (s : State) (a : Nat) (l : Bytes) : (s.wrMem a l).regs = s.regs := by obtain ⟨_, _, _, h⟩ := s.wrMem_frame a l; rw [h]
@[simp] theorem State.wrMem_bus (s : State) (a : Nat) (l : Bytes) : (s.wrMem a l).bus = s.bus := by obtain ⟨_, _, _, h⟩ := s.wrMem_frame a l; rw [h]
@[simp] theorem State.wrMem_fresh (s : State) (a : Nat) (l : Bytes) : (s.wrMem a l).fresh = s.fresh := by obtain ⟨_, _, _, h⟩ := s.wrMem_frame a l; rw [h]
@[simp] theorem State.wrMem_chip (s : State) (a : Nat) (l : Bytes) : (s.wrMem a l).chip = s.chip := by obtain ⟨_, _, _, h⟩ := s.wrMem_frame a l; rw [h]
@[simp] theorem State.wrMem_cfg (s : State) (a : Nat) (l : Bytes) : (s.wrMem a l).cfg = s.cfg := by obtain ⟨_, _, _, h⟩ := s.wrMem_frame a l; rw [h]
@[simp] theorem State.wrMem_cfgBytes (s : State) (a : Nat) (l : Bytes) : (s.wrMem a l).cfgBytes = s.cfgBytes := by obtain ⟨_, _, _, h⟩ := s.wrMem_frame a l; rw [h]
@[simp] theorem State.wrMem_mb (s : State) (a : Nat) (l : Bytes) : (s.wrMem a l).mb = s.mb := by obtain ⟨_, _, _, h⟩ := s.wrMem_frame a l; rw [h]
@[simp] theorem State.wrMem_spi (s : State) (a : Nat) (l : Bytes) : (s.wrMem a l).spi = s.spi := by obtain ⟨_, _, _, h⟩ := s.wrMem_frame a l; rw [h]
@[simp] theorem State.wrMem_acc (s : State) (a : Nat) (l : Bytes) : (s.wrMem a l).acc = s.acc := by obtain ⟨_, _, _, h⟩ := s.wrMem_frame a l; rw [h]
@[simp] theorem State.wrMem_fault (s : State) (a : Nat) (l : Bytes) : (s.wrMem a l).fault = s.fault := by obtain ⟨_, _, _, h⟩ := s.wrMem_frame a l; rw [h]
@[simp] theorem State.wrMem_log (s : State) (a : Nat) (l : Bytes) : (s.wrMem a l).log = s.log := by obtain ⟨_, _, _, h⟩ := s.wrMem_frame a l; rw [h]
@[simp] theorem State.wrMem_boot (s : State) (a : Nat) (l : Bytes) : (s.wrMem a l).boot = s.boot := by obtain ⟨_, _, _, h⟩ := s.wrMem_frame a l; rw [h]
@[simp] theorem State.wrMem_key (s : State) (a : Nat) (l : Bytes) : (s.wrMem a l).key = s.key := by obtain ⟨_, _, _, h⟩ := s.wrMem_frame a l; rw [h]
@[simp] theorem State.wrMem_jtag (s : State) (a : Nat) (l : Bytes) : (s.wrMem a l).jtag = s.jtag := by obtain ⟨_, _, _, h⟩ := s.wrMem_frame a l; rw [h]
@[simp] theorem State.wrMem_pwr (s : State) (a : Nat) (l : Bytes) : (s.wrMem a l).pwr = s.pwr := by obtain ⟨_, _, _, h⟩ := s.wrMem_frame a l; rw [h]
@[simp] theorem State.wrMem_time (s : State) (a : Nat) (l : Bytes) : (s.wrMem a l).time = s.time := by obtain ⟨_, _, _, h⟩ := s.wrMem_frame a l; rw [h]
@[simp] theorem State.wrMem_port (s : State) (a : Nat) (l : Bytes) : (s.wrMem a l).port = s.port := by obtain ⟨_, _, _, h⟩ := s.wrMem_frame a l; rw [h]
@[simp] theorem State.wrMem_cyc (s : State) (a : Nat) (l : Bytes) : (s.wrMem a l).cyc = s.cyc := by obtain ⟨_, _, _, h⟩ := s.wrMem_frame a l; rw [h]
@[simp] theorem State.wrMem_solv (s : State) (a : Nat) (l : Bytes) : (s.wrMem a l).solv = s.solv := by obtain ⟨_, _, _, h⟩ := s.wrMem_frame a l; rw [h]
@[simp] theorem State.wrMem_io (s : State) (a : Nat) (l : Bytes) : (s.wrMem a l).io = s.io := by obtain ⟨_, _, _, h⟩ := s.wrMem_frame a l; rw [h]
@[simp] theorem State.wrMem_loop (s : State) (a : Nat) (l : Bytes) : (s.wrMem a l).loop = s.loop := by obtain ⟨_, _, _, h⟩ := s.wrMem_frame a l; rw [h]
@[simp] theorem State.wrMem_drift (s : State) (a : Nat) (l : Bytes) : (s.wrMem a l).drift = s.drift := by obtain ⟨_, _, _, h⟩ := s.wrMem_frame a l; rw [h]
@[simp] theorem State.wrMem_mtr (s : State) (a : Nat) (l : Bytes) : (s.wrMem a l).mtr = s.mtr := by obtain ⟨_, _, _, h⟩ := s.wrMem_frame a l; rw [h]
@[simp] theorem State.wrMem_cal (s : State) (a : Nat) (l : Bytes) : (s.wrMem a l).cal = s.cal := by obtain ⟨_, _, _, h⟩ := s.wrMem_frame a l; rw [h]
@[simp] theorem State.wrMem_halves (s : State) (a : Nat) (l : Bytes) : (s.wrMem a l).halves = s.halves := by obtain ⟨_, _, _, h⟩ := s.wrMem_frame a l; rw [h]
@[simp] theorem State.wrMem_pending (s : State) (a : Nat) (l : Bytes) : (s.wrMem a l).pending = s.pending := by obtain ⟨_, _, _, h⟩ := s.wrMem_frame a l; rw [h]


/-! ### Free values and time -/

@[simp] theorem State.draw_mem (s : State) : (s.draw).mem = s.mem := rfl
@[simp] theorem State.draw_regs (s : State) : (s.draw).regs = s.regs := rfl
@[simp] theorem State.draw_poison (s : State) : (s.draw).poison = s.poison := rfl
@[simp] theorem State.draw_bus (s : State) : (s.draw).bus = s.bus := rfl
@[simp] theorem State.draw_chip (s : State) : (s.draw).chip = s.chip := rfl
@[simp] theorem State.draw_cfg (s : State) : (s.draw).cfg = s.cfg := rfl
@[simp] theorem State.draw_cfgBytes (s : State) : (s.draw).cfgBytes = s.cfgBytes := rfl
@[simp] theorem State.draw_mb (s : State) : (s.draw).mb = s.mb := rfl
@[simp] theorem State.draw_spi (s : State) : (s.draw).spi = s.spi := rfl
@[simp] theorem State.draw_acc (s : State) : (s.draw).acc = s.acc := rfl
@[simp] theorem State.draw_fault (s : State) : (s.draw).fault = s.fault := rfl
@[simp] theorem State.draw_log (s : State) : (s.draw).log = s.log := rfl
@[simp] theorem State.draw_boot (s : State) : (s.draw).boot = s.boot := rfl
@[simp] theorem State.draw_key (s : State) : (s.draw).key = s.key := rfl
@[simp] theorem State.draw_jtag (s : State) : (s.draw).jtag = s.jtag := rfl
@[simp] theorem State.draw_pwr (s : State) : (s.draw).pwr = s.pwr := rfl
@[simp] theorem State.draw_time (s : State) : (s.draw).time = s.time := rfl
@[simp] theorem State.draw_pair (s : State) : (s.draw).pair = s.pair := rfl
@[simp] theorem State.draw_port (s : State) : (s.draw).port = s.port := rfl
@[simp] theorem State.draw_cyc (s : State) : (s.draw).cyc = s.cyc := rfl
@[simp] theorem State.draw_solv (s : State) : (s.draw).solv = s.solv := rfl
@[simp] theorem State.draw_io (s : State) : (s.draw).io = s.io := rfl
@[simp] theorem State.draw_loop (s : State) : (s.draw).loop = s.loop := rfl
@[simp] theorem State.draw_drift (s : State) : (s.draw).drift = s.drift := rfl
@[simp] theorem State.draw_mtr (s : State) : (s.draw).mtr = s.mtr := rfl
@[simp] theorem State.draw_cal (s : State) : (s.draw).cal = s.cal := rfl
@[simp] theorem State.draw_halves (s : State) : (s.draw).halves = s.halves := rfl
@[simp] theorem State.draw_pending (s : State) : (s.draw).pending = s.pending := rfl
/-- What it may change. -/
theorem State.edges_frame (s : State) (n : Nat) : ∃ vtime, s.edges n = { s with time := vtime } := by
  exact ⟨_, rfl⟩
@[simp] theorem State.edges_mem (s : State) (n : Nat) : (s.edges n).mem = s.mem := by obtain ⟨_, h⟩ := s.edges_frame n; rw [h]
@[simp] theorem State.edges_regs (s : State) (n : Nat) : (s.edges n).regs = s.regs := by obtain ⟨_, h⟩ := s.edges_frame n; rw [h]
@[simp] theorem State.edges_poison (s : State) (n : Nat) : (s.edges n).poison = s.poison := by obtain ⟨_, h⟩ := s.edges_frame n; rw [h]
@[simp] theorem State.edges_bus (s : State) (n : Nat) : (s.edges n).bus = s.bus := by obtain ⟨_, h⟩ := s.edges_frame n; rw [h]
@[simp] theorem State.edges_fresh (s : State) (n : Nat) : (s.edges n).fresh = s.fresh := by obtain ⟨_, h⟩ := s.edges_frame n; rw [h]
@[simp] theorem State.edges_chip (s : State) (n : Nat) : (s.edges n).chip = s.chip := by obtain ⟨_, h⟩ := s.edges_frame n; rw [h]
@[simp] theorem State.edges_cfg (s : State) (n : Nat) : (s.edges n).cfg = s.cfg := by obtain ⟨_, h⟩ := s.edges_frame n; rw [h]
@[simp] theorem State.edges_cfgBytes (s : State) (n : Nat) : (s.edges n).cfgBytes = s.cfgBytes := by obtain ⟨_, h⟩ := s.edges_frame n; rw [h]
@[simp] theorem State.edges_mb (s : State) (n : Nat) : (s.edges n).mb = s.mb := by obtain ⟨_, h⟩ := s.edges_frame n; rw [h]
@[simp] theorem State.edges_spi (s : State) (n : Nat) : (s.edges n).spi = s.spi := by obtain ⟨_, h⟩ := s.edges_frame n; rw [h]
@[simp] theorem State.edges_acc (s : State) (n : Nat) : (s.edges n).acc = s.acc := by obtain ⟨_, h⟩ := s.edges_frame n; rw [h]
@[simp] theorem State.edges_fault (s : State) (n : Nat) : (s.edges n).fault = s.fault := by obtain ⟨_, h⟩ := s.edges_frame n; rw [h]
@[simp] theorem State.edges_log (s : State) (n : Nat) : (s.edges n).log = s.log := by obtain ⟨_, h⟩ := s.edges_frame n; rw [h]
@[simp] theorem State.edges_boot (s : State) (n : Nat) : (s.edges n).boot = s.boot := by obtain ⟨_, h⟩ := s.edges_frame n; rw [h]
@[simp] theorem State.edges_key (s : State) (n : Nat) : (s.edges n).key = s.key := by obtain ⟨_, h⟩ := s.edges_frame n; rw [h]
@[simp] theorem State.edges_jtag (s : State) (n : Nat) : (s.edges n).jtag = s.jtag := by obtain ⟨_, h⟩ := s.edges_frame n; rw [h]
@[simp] theorem State.edges_pwr (s : State) (n : Nat) : (s.edges n).pwr = s.pwr := by obtain ⟨_, h⟩ := s.edges_frame n; rw [h]
@[simp] theorem State.edges_pair (s : State) (n : Nat) : (s.edges n).pair = s.pair := by obtain ⟨_, h⟩ := s.edges_frame n; rw [h]
@[simp] theorem State.edges_port (s : State) (n : Nat) : (s.edges n).port = s.port := by obtain ⟨_, h⟩ := s.edges_frame n; rw [h]
@[simp] theorem State.edges_cyc (s : State) (n : Nat) : (s.edges n).cyc = s.cyc := by obtain ⟨_, h⟩ := s.edges_frame n; rw [h]
@[simp] theorem State.edges_solv (s : State) (n : Nat) : (s.edges n).solv = s.solv := by obtain ⟨_, h⟩ := s.edges_frame n; rw [h]
@[simp] theorem State.edges_io (s : State) (n : Nat) : (s.edges n).io = s.io := by obtain ⟨_, h⟩ := s.edges_frame n; rw [h]
@[simp] theorem State.edges_loop (s : State) (n : Nat) : (s.edges n).loop = s.loop := by obtain ⟨_, h⟩ := s.edges_frame n; rw [h]
@[simp] theorem State.edges_drift (s : State) (n : Nat) : (s.edges n).drift = s.drift := by obtain ⟨_, h⟩ := s.edges_frame n; rw [h]
@[simp] theorem State.edges_mtr (s : State) (n : Nat) : (s.edges n).mtr = s.mtr := by obtain ⟨_, h⟩ := s.edges_frame n; rw [h]
@[simp] theorem State.edges_cal (s : State) (n : Nat) : (s.edges n).cal = s.cal := by obtain ⟨_, h⟩ := s.edges_frame n; rw [h]
@[simp] theorem State.edges_halves (s : State) (n : Nat) : (s.edges n).halves = s.halves := by obtain ⟨_, h⟩ := s.edges_frame n; rw [h]
@[simp] theorem State.edges_pending (s : State) (n : Nat) : (s.edges n).pending = s.pending := by obtain ⟨_, h⟩ := s.edges_frame n; rw [h]

/-- What it may change. -/
theorem State.reach_frame (s : State) (t : Nat) : ∃ vtime, s.reach t = { s with time := vtime } := by
  unfold State.reach; dsimp only; split
  · exact ⟨s.time, rfl⟩
  · exact s.edges_frame _
@[simp] theorem State.reach_mem (s : State) (t : Nat) : (s.reach t).mem = s.mem := by obtain ⟨_, h⟩ := s.reach_frame t; rw [h]
@[simp] theorem State.reach_regs (s : State) (t : Nat) : (s.reach t).regs = s.regs := by obtain ⟨_, h⟩ := s.reach_frame t; rw [h]
@[simp] theorem State.reach_poison (s : State) (t : Nat) : (s.reach t).poison = s.poison := by obtain ⟨_, h⟩ := s.reach_frame t; rw [h]
@[simp] theorem State.reach_bus (s : State) (t : Nat) : (s.reach t).bus = s.bus := by obtain ⟨_, h⟩ := s.reach_frame t; rw [h]
@[simp] theorem State.reach_fresh (s : State) (t : Nat) : (s.reach t).fresh = s.fresh := by obtain ⟨_, h⟩ := s.reach_frame t; rw [h]
@[simp] theorem State.reach_chip (s : State) (t : Nat) : (s.reach t).chip = s.chip := by obtain ⟨_, h⟩ := s.reach_frame t; rw [h]
@[simp] theorem State.reach_cfg (s : State) (t : Nat) : (s.reach t).cfg = s.cfg := by obtain ⟨_, h⟩ := s.reach_frame t; rw [h]
@[simp] theorem State.reach_cfgBytes (s : State) (t : Nat) : (s.reach t).cfgBytes = s.cfgBytes := by obtain ⟨_, h⟩ := s.reach_frame t; rw [h]
@[simp] theorem State.reach_mb (s : State) (t : Nat) : (s.reach t).mb = s.mb := by obtain ⟨_, h⟩ := s.reach_frame t; rw [h]
@[simp] theorem State.reach_spi (s : State) (t : Nat) : (s.reach t).spi = s.spi := by obtain ⟨_, h⟩ := s.reach_frame t; rw [h]
@[simp] theorem State.reach_acc (s : State) (t : Nat) : (s.reach t).acc = s.acc := by obtain ⟨_, h⟩ := s.reach_frame t; rw [h]
@[simp] theorem State.reach_fault (s : State) (t : Nat) : (s.reach t).fault = s.fault := by obtain ⟨_, h⟩ := s.reach_frame t; rw [h]
@[simp] theorem State.reach_log (s : State) (t : Nat) : (s.reach t).log = s.log := by obtain ⟨_, h⟩ := s.reach_frame t; rw [h]
@[simp] theorem State.reach_boot (s : State) (t : Nat) : (s.reach t).boot = s.boot := by obtain ⟨_, h⟩ := s.reach_frame t; rw [h]
@[simp] theorem State.reach_key (s : State) (t : Nat) : (s.reach t).key = s.key := by obtain ⟨_, h⟩ := s.reach_frame t; rw [h]
@[simp] theorem State.reach_jtag (s : State) (t : Nat) : (s.reach t).jtag = s.jtag := by obtain ⟨_, h⟩ := s.reach_frame t; rw [h]
@[simp] theorem State.reach_pwr (s : State) (t : Nat) : (s.reach t).pwr = s.pwr := by obtain ⟨_, h⟩ := s.reach_frame t; rw [h]
@[simp] theorem State.reach_pair (s : State) (t : Nat) : (s.reach t).pair = s.pair := by obtain ⟨_, h⟩ := s.reach_frame t; rw [h]
@[simp] theorem State.reach_port (s : State) (t : Nat) : (s.reach t).port = s.port := by obtain ⟨_, h⟩ := s.reach_frame t; rw [h]
@[simp] theorem State.reach_cyc (s : State) (t : Nat) : (s.reach t).cyc = s.cyc := by obtain ⟨_, h⟩ := s.reach_frame t; rw [h]
@[simp] theorem State.reach_solv (s : State) (t : Nat) : (s.reach t).solv = s.solv := by obtain ⟨_, h⟩ := s.reach_frame t; rw [h]
@[simp] theorem State.reach_io (s : State) (t : Nat) : (s.reach t).io = s.io := by obtain ⟨_, h⟩ := s.reach_frame t; rw [h]
@[simp] theorem State.reach_loop (s : State) (t : Nat) : (s.reach t).loop = s.loop := by obtain ⟨_, h⟩ := s.reach_frame t; rw [h]
@[simp] theorem State.reach_drift (s : State) (t : Nat) : (s.reach t).drift = s.drift := by obtain ⟨_, h⟩ := s.reach_frame t; rw [h]
@[simp] theorem State.reach_mtr (s : State) (t : Nat) : (s.reach t).mtr = s.mtr := by obtain ⟨_, h⟩ := s.reach_frame t; rw [h]
@[simp] theorem State.reach_cal (s : State) (t : Nat) : (s.reach t).cal = s.cal := by obtain ⟨_, h⟩ := s.reach_frame t; rw [h]
@[simp] theorem State.reach_halves (s : State) (t : Nat) : (s.reach t).halves = s.halves := by obtain ⟨_, h⟩ := s.reach_frame t; rw [h]
@[simp] theorem State.reach_pending (s : State) (t : Nat) : (s.reach t).pending = s.pending := by obtain ⟨_, h⟩ := s.reach_frame t; rw [h]


/-! ### Events and interrupts -/

/-- What it may change. -/
theorem State.sendMsix_frame (s : State) (v : Nat) : ∃ vmb, s.sendMsix v = { s with mb := vmb } := by
  exact ⟨_, rfl⟩
@[simp] theorem State.sendMsix_mem (s : State) (v : Nat) : (s.sendMsix v).mem = s.mem := by obtain ⟨_, h⟩ := s.sendMsix_frame v; rw [h]
@[simp] theorem State.sendMsix_regs (s : State) (v : Nat) : (s.sendMsix v).regs = s.regs := by obtain ⟨_, h⟩ := s.sendMsix_frame v; rw [h]
@[simp] theorem State.sendMsix_poison (s : State) (v : Nat) : (s.sendMsix v).poison = s.poison := by obtain ⟨_, h⟩ := s.sendMsix_frame v; rw [h]
@[simp] theorem State.sendMsix_bus (s : State) (v : Nat) : (s.sendMsix v).bus = s.bus := by obtain ⟨_, h⟩ := s.sendMsix_frame v; rw [h]
@[simp] theorem State.sendMsix_fresh (s : State) (v : Nat) : (s.sendMsix v).fresh = s.fresh := by obtain ⟨_, h⟩ := s.sendMsix_frame v; rw [h]
@[simp] theorem State.sendMsix_chip (s : State) (v : Nat) : (s.sendMsix v).chip = s.chip := by obtain ⟨_, h⟩ := s.sendMsix_frame v; rw [h]
@[simp] theorem State.sendMsix_cfg (s : State) (v : Nat) : (s.sendMsix v).cfg = s.cfg := by obtain ⟨_, h⟩ := s.sendMsix_frame v; rw [h]
@[simp] theorem State.sendMsix_cfgBytes (s : State) (v : Nat) : (s.sendMsix v).cfgBytes = s.cfgBytes := by obtain ⟨_, h⟩ := s.sendMsix_frame v; rw [h]
@[simp] theorem State.sendMsix_spi (s : State) (v : Nat) : (s.sendMsix v).spi = s.spi := by obtain ⟨_, h⟩ := s.sendMsix_frame v; rw [h]
@[simp] theorem State.sendMsix_acc (s : State) (v : Nat) : (s.sendMsix v).acc = s.acc := by obtain ⟨_, h⟩ := s.sendMsix_frame v; rw [h]
@[simp] theorem State.sendMsix_fault (s : State) (v : Nat) : (s.sendMsix v).fault = s.fault := by obtain ⟨_, h⟩ := s.sendMsix_frame v; rw [h]
@[simp] theorem State.sendMsix_log (s : State) (v : Nat) : (s.sendMsix v).log = s.log := by obtain ⟨_, h⟩ := s.sendMsix_frame v; rw [h]
@[simp] theorem State.sendMsix_boot (s : State) (v : Nat) : (s.sendMsix v).boot = s.boot := by obtain ⟨_, h⟩ := s.sendMsix_frame v; rw [h]
@[simp] theorem State.sendMsix_key (s : State) (v : Nat) : (s.sendMsix v).key = s.key := by obtain ⟨_, h⟩ := s.sendMsix_frame v; rw [h]
@[simp] theorem State.sendMsix_jtag (s : State) (v : Nat) : (s.sendMsix v).jtag = s.jtag := by obtain ⟨_, h⟩ := s.sendMsix_frame v; rw [h]
@[simp] theorem State.sendMsix_pwr (s : State) (v : Nat) : (s.sendMsix v).pwr = s.pwr := by obtain ⟨_, h⟩ := s.sendMsix_frame v; rw [h]
@[simp] theorem State.sendMsix_time (s : State) (v : Nat) : (s.sendMsix v).time = s.time := by obtain ⟨_, h⟩ := s.sendMsix_frame v; rw [h]
@[simp] theorem State.sendMsix_pair (s : State) (v : Nat) : (s.sendMsix v).pair = s.pair := by obtain ⟨_, h⟩ := s.sendMsix_frame v; rw [h]
@[simp] theorem State.sendMsix_port (s : State) (v : Nat) : (s.sendMsix v).port = s.port := by obtain ⟨_, h⟩ := s.sendMsix_frame v; rw [h]
@[simp] theorem State.sendMsix_cyc (s : State) (v : Nat) : (s.sendMsix v).cyc = s.cyc := by obtain ⟨_, h⟩ := s.sendMsix_frame v; rw [h]
@[simp] theorem State.sendMsix_solv (s : State) (v : Nat) : (s.sendMsix v).solv = s.solv := by obtain ⟨_, h⟩ := s.sendMsix_frame v; rw [h]
@[simp] theorem State.sendMsix_io (s : State) (v : Nat) : (s.sendMsix v).io = s.io := by obtain ⟨_, h⟩ := s.sendMsix_frame v; rw [h]
@[simp] theorem State.sendMsix_loop (s : State) (v : Nat) : (s.sendMsix v).loop = s.loop := by obtain ⟨_, h⟩ := s.sendMsix_frame v; rw [h]
@[simp] theorem State.sendMsix_drift (s : State) (v : Nat) : (s.sendMsix v).drift = s.drift := by obtain ⟨_, h⟩ := s.sendMsix_frame v; rw [h]
@[simp] theorem State.sendMsix_mtr (s : State) (v : Nat) : (s.sendMsix v).mtr = s.mtr := by obtain ⟨_, h⟩ := s.sendMsix_frame v; rw [h]
@[simp] theorem State.sendMsix_cal (s : State) (v : Nat) : (s.sendMsix v).cal = s.cal := by obtain ⟨_, h⟩ := s.sendMsix_frame v; rw [h]
@[simp] theorem State.sendMsix_halves (s : State) (v : Nat) : (s.sendMsix v).halves = s.halves := by obtain ⟨_, h⟩ := s.sendMsix_frame v; rw [h]
@[simp] theorem State.sendMsix_pending (s : State) (v : Nat) : (s.sendMsix v).pending = s.pending := by obtain ⟨_, h⟩ := s.sendMsix_frame v; rw [h]

/-- What it may change. -/
theorem State.rawEvent_frame (s : State) (v : Nat) : ∃ vregs vmb, s.rawEvent v = { s with regs := vregs, mb := vmb } := by
  unfold State.rawEvent; dsimp only
  obtain ⟨r, h⟩ := s.setBit_frame 0x10014 v true
  rw [h]
  split
  · split
    · obtain ⟨q, h⟩ := State.setBit_frame { s with regs := r } 0x13000 v true
      exact ⟨q, s.mb, h⟩
    · obtain ⟨b, h⟩ := State.sendMsix_frame { s with regs := r } v
      exact ⟨r, b, h⟩
  · exact ⟨r, s.mb, rfl⟩
@[simp] theorem State.rawEvent_mem (s : State) (v : Nat) : (s.rawEvent v).mem = s.mem := by obtain ⟨_, _, h⟩ := s.rawEvent_frame v; rw [h]
@[simp] theorem State.rawEvent_poison (s : State) (v : Nat) : (s.rawEvent v).poison = s.poison := by obtain ⟨_, _, h⟩ := s.rawEvent_frame v; rw [h]
@[simp] theorem State.rawEvent_bus (s : State) (v : Nat) : (s.rawEvent v).bus = s.bus := by obtain ⟨_, _, h⟩ := s.rawEvent_frame v; rw [h]
@[simp] theorem State.rawEvent_fresh (s : State) (v : Nat) : (s.rawEvent v).fresh = s.fresh := by obtain ⟨_, _, h⟩ := s.rawEvent_frame v; rw [h]
@[simp] theorem State.rawEvent_chip (s : State) (v : Nat) : (s.rawEvent v).chip = s.chip := by obtain ⟨_, _, h⟩ := s.rawEvent_frame v; rw [h]
@[simp] theorem State.rawEvent_cfg (s : State) (v : Nat) : (s.rawEvent v).cfg = s.cfg := by obtain ⟨_, _, h⟩ := s.rawEvent_frame v; rw [h]
@[simp] theorem State.rawEvent_cfgBytes (s : State) (v : Nat) : (s.rawEvent v).cfgBytes = s.cfgBytes := by obtain ⟨_, _, h⟩ := s.rawEvent_frame v; rw [h]
@[simp] theorem State.rawEvent_spi (s : State) (v : Nat) : (s.rawEvent v).spi = s.spi := by obtain ⟨_, _, h⟩ := s.rawEvent_frame v; rw [h]
@[simp] theorem State.rawEvent_acc (s : State) (v : Nat) : (s.rawEvent v).acc = s.acc := by obtain ⟨_, _, h⟩ := s.rawEvent_frame v; rw [h]
@[simp] theorem State.rawEvent_fault (s : State) (v : Nat) : (s.rawEvent v).fault = s.fault := by obtain ⟨_, _, h⟩ := s.rawEvent_frame v; rw [h]
@[simp] theorem State.rawEvent_log (s : State) (v : Nat) : (s.rawEvent v).log = s.log := by obtain ⟨_, _, h⟩ := s.rawEvent_frame v; rw [h]
@[simp] theorem State.rawEvent_boot (s : State) (v : Nat) : (s.rawEvent v).boot = s.boot := by obtain ⟨_, _, h⟩ := s.rawEvent_frame v; rw [h]
@[simp] theorem State.rawEvent_key (s : State) (v : Nat) : (s.rawEvent v).key = s.key := by obtain ⟨_, _, h⟩ := s.rawEvent_frame v; rw [h]
@[simp] theorem State.rawEvent_jtag (s : State) (v : Nat) : (s.rawEvent v).jtag = s.jtag := by obtain ⟨_, _, h⟩ := s.rawEvent_frame v; rw [h]
@[simp] theorem State.rawEvent_pwr (s : State) (v : Nat) : (s.rawEvent v).pwr = s.pwr := by obtain ⟨_, _, h⟩ := s.rawEvent_frame v; rw [h]
@[simp] theorem State.rawEvent_time (s : State) (v : Nat) : (s.rawEvent v).time = s.time := by obtain ⟨_, _, h⟩ := s.rawEvent_frame v; rw [h]
@[simp] theorem State.rawEvent_pair (s : State) (v : Nat) : (s.rawEvent v).pair = s.pair := by obtain ⟨_, _, h⟩ := s.rawEvent_frame v; rw [h]
@[simp] theorem State.rawEvent_port (s : State) (v : Nat) : (s.rawEvent v).port = s.port := by obtain ⟨_, _, h⟩ := s.rawEvent_frame v; rw [h]
@[simp] theorem State.rawEvent_cyc (s : State) (v : Nat) : (s.rawEvent v).cyc = s.cyc := by obtain ⟨_, _, h⟩ := s.rawEvent_frame v; rw [h]
@[simp] theorem State.rawEvent_solv (s : State) (v : Nat) : (s.rawEvent v).solv = s.solv := by obtain ⟨_, _, h⟩ := s.rawEvent_frame v; rw [h]
@[simp] theorem State.rawEvent_io (s : State) (v : Nat) : (s.rawEvent v).io = s.io := by obtain ⟨_, _, h⟩ := s.rawEvent_frame v; rw [h]
@[simp] theorem State.rawEvent_loop (s : State) (v : Nat) : (s.rawEvent v).loop = s.loop := by obtain ⟨_, _, h⟩ := s.rawEvent_frame v; rw [h]
@[simp] theorem State.rawEvent_drift (s : State) (v : Nat) : (s.rawEvent v).drift = s.drift := by obtain ⟨_, _, h⟩ := s.rawEvent_frame v; rw [h]
@[simp] theorem State.rawEvent_mtr (s : State) (v : Nat) : (s.rawEvent v).mtr = s.mtr := by obtain ⟨_, _, h⟩ := s.rawEvent_frame v; rw [h]
@[simp] theorem State.rawEvent_cal (s : State) (v : Nat) : (s.rawEvent v).cal = s.cal := by obtain ⟨_, _, h⟩ := s.rawEvent_frame v; rw [h]
@[simp] theorem State.rawEvent_halves (s : State) (v : Nat) : (s.rawEvent v).halves = s.halves := by obtain ⟨_, _, h⟩ := s.rawEvent_frame v; rw [h]
@[simp] theorem State.rawEvent_pending (s : State) (v : Nat) : (s.rawEvent v).pending = s.pending := by obtain ⟨_, _, h⟩ := s.rawEvent_frame v; rw [h]

/-- What it may change. -/
theorem State.event_frame (s : State) (n : Nat) : ∃ vregs vmb, s.event n = { s with regs := vregs, mb := vmb } := by
  exact s.rawEvent_frame _
@[simp] theorem State.event_mem (s : State) (n : Nat) : (s.event n).mem = s.mem := by obtain ⟨_, _, h⟩ := s.event_frame n; rw [h]
@[simp] theorem State.event_poison (s : State) (n : Nat) : (s.event n).poison = s.poison := by obtain ⟨_, _, h⟩ := s.event_frame n; rw [h]
@[simp] theorem State.event_bus (s : State) (n : Nat) : (s.event n).bus = s.bus := by obtain ⟨_, _, h⟩ := s.event_frame n; rw [h]
@[simp] theorem State.event_fresh (s : State) (n : Nat) : (s.event n).fresh = s.fresh := by obtain ⟨_, _, h⟩ := s.event_frame n; rw [h]
@[simp] theorem State.event_chip (s : State) (n : Nat) : (s.event n).chip = s.chip := by obtain ⟨_, _, h⟩ := s.event_frame n; rw [h]
@[simp] theorem State.event_cfg (s : State) (n : Nat) : (s.event n).cfg = s.cfg := by obtain ⟨_, _, h⟩ := s.event_frame n; rw [h]
@[simp] theorem State.event_cfgBytes (s : State) (n : Nat) : (s.event n).cfgBytes = s.cfgBytes := by obtain ⟨_, _, h⟩ := s.event_frame n; rw [h]
@[simp] theorem State.event_spi (s : State) (n : Nat) : (s.event n).spi = s.spi := by obtain ⟨_, _, h⟩ := s.event_frame n; rw [h]
@[simp] theorem State.event_acc (s : State) (n : Nat) : (s.event n).acc = s.acc := by obtain ⟨_, _, h⟩ := s.event_frame n; rw [h]
@[simp] theorem State.event_fault (s : State) (n : Nat) : (s.event n).fault = s.fault := by obtain ⟨_, _, h⟩ := s.event_frame n; rw [h]
@[simp] theorem State.event_log (s : State) (n : Nat) : (s.event n).log = s.log := by obtain ⟨_, _, h⟩ := s.event_frame n; rw [h]
@[simp] theorem State.event_boot (s : State) (n : Nat) : (s.event n).boot = s.boot := by obtain ⟨_, _, h⟩ := s.event_frame n; rw [h]
@[simp] theorem State.event_key (s : State) (n : Nat) : (s.event n).key = s.key := by obtain ⟨_, _, h⟩ := s.event_frame n; rw [h]
@[simp] theorem State.event_jtag (s : State) (n : Nat) : (s.event n).jtag = s.jtag := by obtain ⟨_, _, h⟩ := s.event_frame n; rw [h]
@[simp] theorem State.event_pwr (s : State) (n : Nat) : (s.event n).pwr = s.pwr := by obtain ⟨_, _, h⟩ := s.event_frame n; rw [h]
@[simp] theorem State.event_time (s : State) (n : Nat) : (s.event n).time = s.time := by obtain ⟨_, _, h⟩ := s.event_frame n; rw [h]
@[simp] theorem State.event_pair (s : State) (n : Nat) : (s.event n).pair = s.pair := by obtain ⟨_, _, h⟩ := s.event_frame n; rw [h]
@[simp] theorem State.event_port (s : State) (n : Nat) : (s.event n).port = s.port := by obtain ⟨_, _, h⟩ := s.event_frame n; rw [h]
@[simp] theorem State.event_cyc (s : State) (n : Nat) : (s.event n).cyc = s.cyc := by obtain ⟨_, _, h⟩ := s.event_frame n; rw [h]
@[simp] theorem State.event_solv (s : State) (n : Nat) : (s.event n).solv = s.solv := by obtain ⟨_, _, h⟩ := s.event_frame n; rw [h]
@[simp] theorem State.event_io (s : State) (n : Nat) : (s.event n).io = s.io := by obtain ⟨_, _, h⟩ := s.event_frame n; rw [h]
@[simp] theorem State.event_loop (s : State) (n : Nat) : (s.event n).loop = s.loop := by obtain ⟨_, _, h⟩ := s.event_frame n; rw [h]
@[simp] theorem State.event_drift (s : State) (n : Nat) : (s.event n).drift = s.drift := by obtain ⟨_, _, h⟩ := s.event_frame n; rw [h]
@[simp] theorem State.event_mtr (s : State) (n : Nat) : (s.event n).mtr = s.mtr := by obtain ⟨_, _, h⟩ := s.event_frame n; rw [h]
@[simp] theorem State.event_cal (s : State) (n : Nat) : (s.event n).cal = s.cal := by obtain ⟨_, _, h⟩ := s.event_frame n; rw [h]
@[simp] theorem State.event_halves (s : State) (n : Nat) : (s.event n).halves = s.halves := by obtain ⟨_, _, h⟩ := s.event_frame n; rw [h]
@[simp] theorem State.event_pending (s : State) (n : Nat) : (s.event n).pending = s.pending := by obtain ⟨_, _, h⟩ := s.event_frame n; rw [h]

/-- What it may change. -/
theorem State.status_frame (s : State) (i : Nat) (b : Bool) : ∃ vregs vmb, s.status i b = { s with regs := vregs, mb := vmb } := by
  unfold State.status; split
  · exact ⟨s.regs, s.mb, rfl⟩
  · obtain ⟨r, m, h⟩ := (s.setBit 0x10010 i b).event_frame 0
    exact ⟨r, m, h⟩
@[simp] theorem State.status_mem (s : State) (i : Nat) (b : Bool) : (s.status i b).mem = s.mem := by obtain ⟨_, _, h⟩ := s.status_frame i b; rw [h]
@[simp] theorem State.status_poison (s : State) (i : Nat) (b : Bool) : (s.status i b).poison = s.poison := by obtain ⟨_, _, h⟩ := s.status_frame i b; rw [h]
@[simp] theorem State.status_bus (s : State) (i : Nat) (b : Bool) : (s.status i b).bus = s.bus := by obtain ⟨_, _, h⟩ := s.status_frame i b; rw [h]
@[simp] theorem State.status_fresh (s : State) (i : Nat) (b : Bool) : (s.status i b).fresh = s.fresh := by obtain ⟨_, _, h⟩ := s.status_frame i b; rw [h]
@[simp] theorem State.status_chip (s : State) (i : Nat) (b : Bool) : (s.status i b).chip = s.chip := by obtain ⟨_, _, h⟩ := s.status_frame i b; rw [h]
@[simp] theorem State.status_cfg (s : State) (i : Nat) (b : Bool) : (s.status i b).cfg = s.cfg := by obtain ⟨_, _, h⟩ := s.status_frame i b; rw [h]
@[simp] theorem State.status_cfgBytes (s : State) (i : Nat) (b : Bool) : (s.status i b).cfgBytes = s.cfgBytes := by obtain ⟨_, _, h⟩ := s.status_frame i b; rw [h]
@[simp] theorem State.status_spi (s : State) (i : Nat) (b : Bool) : (s.status i b).spi = s.spi := by obtain ⟨_, _, h⟩ := s.status_frame i b; rw [h]
@[simp] theorem State.status_acc (s : State) (i : Nat) (b : Bool) : (s.status i b).acc = s.acc := by obtain ⟨_, _, h⟩ := s.status_frame i b; rw [h]
@[simp] theorem State.status_fault (s : State) (i : Nat) (b : Bool) : (s.status i b).fault = s.fault := by obtain ⟨_, _, h⟩ := s.status_frame i b; rw [h]
@[simp] theorem State.status_log (s : State) (i : Nat) (b : Bool) : (s.status i b).log = s.log := by obtain ⟨_, _, h⟩ := s.status_frame i b; rw [h]
@[simp] theorem State.status_boot (s : State) (i : Nat) (b : Bool) : (s.status i b).boot = s.boot := by obtain ⟨_, _, h⟩ := s.status_frame i b; rw [h]
@[simp] theorem State.status_key (s : State) (i : Nat) (b : Bool) : (s.status i b).key = s.key := by obtain ⟨_, _, h⟩ := s.status_frame i b; rw [h]
@[simp] theorem State.status_jtag (s : State) (i : Nat) (b : Bool) : (s.status i b).jtag = s.jtag := by obtain ⟨_, _, h⟩ := s.status_frame i b; rw [h]
@[simp] theorem State.status_pwr (s : State) (i : Nat) (b : Bool) : (s.status i b).pwr = s.pwr := by obtain ⟨_, _, h⟩ := s.status_frame i b; rw [h]
@[simp] theorem State.status_time (s : State) (i : Nat) (b : Bool) : (s.status i b).time = s.time := by obtain ⟨_, _, h⟩ := s.status_frame i b; rw [h]
@[simp] theorem State.status_pair (s : State) (i : Nat) (b : Bool) : (s.status i b).pair = s.pair := by obtain ⟨_, _, h⟩ := s.status_frame i b; rw [h]
@[simp] theorem State.status_port (s : State) (i : Nat) (b : Bool) : (s.status i b).port = s.port := by obtain ⟨_, _, h⟩ := s.status_frame i b; rw [h]
@[simp] theorem State.status_cyc (s : State) (i : Nat) (b : Bool) : (s.status i b).cyc = s.cyc := by obtain ⟨_, _, h⟩ := s.status_frame i b; rw [h]
@[simp] theorem State.status_solv (s : State) (i : Nat) (b : Bool) : (s.status i b).solv = s.solv := by obtain ⟨_, _, h⟩ := s.status_frame i b; rw [h]
@[simp] theorem State.status_io (s : State) (i : Nat) (b : Bool) : (s.status i b).io = s.io := by obtain ⟨_, _, h⟩ := s.status_frame i b; rw [h]
@[simp] theorem State.status_loop (s : State) (i : Nat) (b : Bool) : (s.status i b).loop = s.loop := by obtain ⟨_, _, h⟩ := s.status_frame i b; rw [h]
@[simp] theorem State.status_drift (s : State) (i : Nat) (b : Bool) : (s.status i b).drift = s.drift := by obtain ⟨_, _, h⟩ := s.status_frame i b; rw [h]
@[simp] theorem State.status_mtr (s : State) (i : Nat) (b : Bool) : (s.status i b).mtr = s.mtr := by obtain ⟨_, _, h⟩ := s.status_frame i b; rw [h]
@[simp] theorem State.status_cal (s : State) (i : Nat) (b : Bool) : (s.status i b).cal = s.cal := by obtain ⟨_, _, h⟩ := s.status_frame i b; rw [h]
@[simp] theorem State.status_halves (s : State) (i : Nat) (b : Bool) : (s.status i b).halves = s.halves := by obtain ⟨_, _, h⟩ := s.status_frame i b; rw [h]
@[simp] theorem State.status_pending (s : State) (i : Nat) (b : Bool) : (s.status i b).pending = s.pending := by obtain ⟨_, _, h⟩ := s.status_frame i b; rw [h]

/-- What it may change. -/
theorem State.mbErr_frame (s : State) (c q : Nat) (b : Bool) : ∃ vregs vmb, s.mbErr c q b = { s with regs := vregs, mb := vmb } := by
  unfold State.mbErr; dsimp only
  obtain ⟨r, m, h⟩ := State.event_frame (s.wr 0x1001C (w32 (min 0xFFFF (s.fld 0x1001C 31 16 + 1) * 0x10000 + b2n b * 0x80 + q % 8 * 0x10 + c % 16))) 0
  exact ⟨r, m, h⟩
@[simp] theorem State.mbErr_mem (s : State) (c q : Nat) (b : Bool) : (s.mbErr c q b).mem = s.mem := by obtain ⟨_, _, h⟩ := s.mbErr_frame c q b; rw [h]
@[simp] theorem State.mbErr_poison (s : State) (c q : Nat) (b : Bool) : (s.mbErr c q b).poison = s.poison := by obtain ⟨_, _, h⟩ := s.mbErr_frame c q b; rw [h]
@[simp] theorem State.mbErr_bus (s : State) (c q : Nat) (b : Bool) : (s.mbErr c q b).bus = s.bus := by obtain ⟨_, _, h⟩ := s.mbErr_frame c q b; rw [h]
@[simp] theorem State.mbErr_fresh (s : State) (c q : Nat) (b : Bool) : (s.mbErr c q b).fresh = s.fresh := by obtain ⟨_, _, h⟩ := s.mbErr_frame c q b; rw [h]
@[simp] theorem State.mbErr_chip (s : State) (c q : Nat) (b : Bool) : (s.mbErr c q b).chip = s.chip := by obtain ⟨_, _, h⟩ := s.mbErr_frame c q b; rw [h]
@[simp] theorem State.mbErr_cfg (s : State) (c q : Nat) (b : Bool) : (s.mbErr c q b).cfg = s.cfg := by obtain ⟨_, _, h⟩ := s.mbErr_frame c q b; rw [h]
@[simp] theorem State.mbErr_cfgBytes (s : State) (c q : Nat) (b : Bool) : (s.mbErr c q b).cfgBytes = s.cfgBytes := by obtain ⟨_, _, h⟩ := s.mbErr_frame c q b; rw [h]
@[simp] theorem State.mbErr_spi (s : State) (c q : Nat) (b : Bool) : (s.mbErr c q b).spi = s.spi := by obtain ⟨_, _, h⟩ := s.mbErr_frame c q b; rw [h]
@[simp] theorem State.mbErr_acc (s : State) (c q : Nat) (b : Bool) : (s.mbErr c q b).acc = s.acc := by obtain ⟨_, _, h⟩ := s.mbErr_frame c q b; rw [h]
@[simp] theorem State.mbErr_fault (s : State) (c q : Nat) (b : Bool) : (s.mbErr c q b).fault = s.fault := by obtain ⟨_, _, h⟩ := s.mbErr_frame c q b; rw [h]
@[simp] theorem State.mbErr_log (s : State) (c q : Nat) (b : Bool) : (s.mbErr c q b).log = s.log := by obtain ⟨_, _, h⟩ := s.mbErr_frame c q b; rw [h]
@[simp] theorem State.mbErr_boot (s : State) (c q : Nat) (b : Bool) : (s.mbErr c q b).boot = s.boot := by obtain ⟨_, _, h⟩ := s.mbErr_frame c q b; rw [h]
@[simp] theorem State.mbErr_key (s : State) (c q : Nat) (b : Bool) : (s.mbErr c q b).key = s.key := by obtain ⟨_, _, h⟩ := s.mbErr_frame c q b; rw [h]
@[simp] theorem State.mbErr_jtag (s : State) (c q : Nat) (b : Bool) : (s.mbErr c q b).jtag = s.jtag := by obtain ⟨_, _, h⟩ := s.mbErr_frame c q b; rw [h]
@[simp] theorem State.mbErr_pwr (s : State) (c q : Nat) (b : Bool) : (s.mbErr c q b).pwr = s.pwr := by obtain ⟨_, _, h⟩ := s.mbErr_frame c q b; rw [h]
@[simp] theorem State.mbErr_time (s : State) (c q : Nat) (b : Bool) : (s.mbErr c q b).time = s.time := by obtain ⟨_, _, h⟩ := s.mbErr_frame c q b; rw [h]
@[simp] theorem State.mbErr_pair (s : State) (c q : Nat) (b : Bool) : (s.mbErr c q b).pair = s.pair := by obtain ⟨_, _, h⟩ := s.mbErr_frame c q b; rw [h]
@[simp] theorem State.mbErr_port (s : State) (c q : Nat) (b : Bool) : (s.mbErr c q b).port = s.port := by obtain ⟨_, _, h⟩ := s.mbErr_frame c q b; rw [h]
@[simp] theorem State.mbErr_cyc (s : State) (c q : Nat) (b : Bool) : (s.mbErr c q b).cyc = s.cyc := by obtain ⟨_, _, h⟩ := s.mbErr_frame c q b; rw [h]
@[simp] theorem State.mbErr_solv (s : State) (c q : Nat) (b : Bool) : (s.mbErr c q b).solv = s.solv := by obtain ⟨_, _, h⟩ := s.mbErr_frame c q b; rw [h]
@[simp] theorem State.mbErr_io (s : State) (c q : Nat) (b : Bool) : (s.mbErr c q b).io = s.io := by obtain ⟨_, _, h⟩ := s.mbErr_frame c q b; rw [h]
@[simp] theorem State.mbErr_loop (s : State) (c q : Nat) (b : Bool) : (s.mbErr c q b).loop = s.loop := by obtain ⟨_, _, h⟩ := s.mbErr_frame c q b; rw [h]
@[simp] theorem State.mbErr_drift (s : State) (c q : Nat) (b : Bool) : (s.mbErr c q b).drift = s.drift := by obtain ⟨_, _, h⟩ := s.mbErr_frame c q b; rw [h]
@[simp] theorem State.mbErr_mtr (s : State) (c q : Nat) (b : Bool) : (s.mbErr c q b).mtr = s.mtr := by obtain ⟨_, _, h⟩ := s.mbErr_frame c q b; rw [h]
@[simp] theorem State.mbErr_cal (s : State) (c q : Nat) (b : Bool) : (s.mbErr c q b).cal = s.cal := by obtain ⟨_, _, h⟩ := s.mbErr_frame c q b; rw [h]
@[simp] theorem State.mbErr_halves (s : State) (c q : Nat) (b : Bool) : (s.mbErr c q b).halves = s.halves := by obtain ⟨_, _, h⟩ := s.mbErr_frame c q b; rw [h]
@[simp] theorem State.mbErr_pending (s : State) (c q : Nat) (b : Bool) : (s.mbErr c q b).pending = s.pending := by obtain ⟨_, _, h⟩ := s.mbErr_frame c q b; rw [h]


/-! ### Postings -/

/-- What it may change. -/
theorem State.fifoPush_frame (s : State) (p : Posting) : ∃ vlog, s.fifoPush p = { s with log := vlog } := by
  exact ⟨_, rfl⟩
@[simp] theorem State.fifoPush_mem (s : State) (p : Posting) : (s.fifoPush p).mem = s.mem := by obtain ⟨_, h⟩ := s.fifoPush_frame p; rw [h]
@[simp] theorem State.fifoPush_regs (s : State) (p : Posting) : (s.fifoPush p).regs = s.regs := by obtain ⟨_, h⟩ := s.fifoPush_frame p; rw [h]
@[simp] theorem State.fifoPush_poison (s : State) (p : Posting) : (s.fifoPush p).poison = s.poison := by obtain ⟨_, h⟩ := s.fifoPush_frame p; rw [h]
@[simp] theorem State.fifoPush_bus (s : State) (p : Posting) : (s.fifoPush p).bus = s.bus := by obtain ⟨_, h⟩ := s.fifoPush_frame p; rw [h]
@[simp] theorem State.fifoPush_fresh (s : State) (p : Posting) : (s.fifoPush p).fresh = s.fresh := by obtain ⟨_, h⟩ := s.fifoPush_frame p; rw [h]
@[simp] theorem State.fifoPush_chip (s : State) (p : Posting) : (s.fifoPush p).chip = s.chip := by obtain ⟨_, h⟩ := s.fifoPush_frame p; rw [h]
@[simp] theorem State.fifoPush_cfg (s : State) (p : Posting) : (s.fifoPush p).cfg = s.cfg := by obtain ⟨_, h⟩ := s.fifoPush_frame p; rw [h]
@[simp] theorem State.fifoPush_cfgBytes (s : State) (p : Posting) : (s.fifoPush p).cfgBytes = s.cfgBytes := by obtain ⟨_, h⟩ := s.fifoPush_frame p; rw [h]
@[simp] theorem State.fifoPush_mb (s : State) (p : Posting) : (s.fifoPush p).mb = s.mb := by obtain ⟨_, h⟩ := s.fifoPush_frame p; rw [h]
@[simp] theorem State.fifoPush_spi (s : State) (p : Posting) : (s.fifoPush p).spi = s.spi := by obtain ⟨_, h⟩ := s.fifoPush_frame p; rw [h]
@[simp] theorem State.fifoPush_acc (s : State) (p : Posting) : (s.fifoPush p).acc = s.acc := by obtain ⟨_, h⟩ := s.fifoPush_frame p; rw [h]
@[simp] theorem State.fifoPush_fault (s : State) (p : Posting) : (s.fifoPush p).fault = s.fault := by obtain ⟨_, h⟩ := s.fifoPush_frame p; rw [h]
@[simp] theorem State.fifoPush_boot (s : State) (p : Posting) : (s.fifoPush p).boot = s.boot := by obtain ⟨_, h⟩ := s.fifoPush_frame p; rw [h]
@[simp] theorem State.fifoPush_key (s : State) (p : Posting) : (s.fifoPush p).key = s.key := by obtain ⟨_, h⟩ := s.fifoPush_frame p; rw [h]
@[simp] theorem State.fifoPush_jtag (s : State) (p : Posting) : (s.fifoPush p).jtag = s.jtag := by obtain ⟨_, h⟩ := s.fifoPush_frame p; rw [h]
@[simp] theorem State.fifoPush_pwr (s : State) (p : Posting) : (s.fifoPush p).pwr = s.pwr := by obtain ⟨_, h⟩ := s.fifoPush_frame p; rw [h]
@[simp] theorem State.fifoPush_time (s : State) (p : Posting) : (s.fifoPush p).time = s.time := by obtain ⟨_, h⟩ := s.fifoPush_frame p; rw [h]
@[simp] theorem State.fifoPush_pair (s : State) (p : Posting) : (s.fifoPush p).pair = s.pair := by obtain ⟨_, h⟩ := s.fifoPush_frame p; rw [h]
@[simp] theorem State.fifoPush_port (s : State) (p : Posting) : (s.fifoPush p).port = s.port := by obtain ⟨_, h⟩ := s.fifoPush_frame p; rw [h]
@[simp] theorem State.fifoPush_cyc (s : State) (p : Posting) : (s.fifoPush p).cyc = s.cyc := by obtain ⟨_, h⟩ := s.fifoPush_frame p; rw [h]
@[simp] theorem State.fifoPush_solv (s : State) (p : Posting) : (s.fifoPush p).solv = s.solv := by obtain ⟨_, h⟩ := s.fifoPush_frame p; rw [h]
@[simp] theorem State.fifoPush_io (s : State) (p : Posting) : (s.fifoPush p).io = s.io := by obtain ⟨_, h⟩ := s.fifoPush_frame p; rw [h]
@[simp] theorem State.fifoPush_loop (s : State) (p : Posting) : (s.fifoPush p).loop = s.loop := by obtain ⟨_, h⟩ := s.fifoPush_frame p; rw [h]
@[simp] theorem State.fifoPush_drift (s : State) (p : Posting) : (s.fifoPush p).drift = s.drift := by obtain ⟨_, h⟩ := s.fifoPush_frame p; rw [h]
@[simp] theorem State.fifoPush_mtr (s : State) (p : Posting) : (s.fifoPush p).mtr = s.mtr := by obtain ⟨_, h⟩ := s.fifoPush_frame p; rw [h]
@[simp] theorem State.fifoPush_cal (s : State) (p : Posting) : (s.fifoPush p).cal = s.cal := by obtain ⟨_, h⟩ := s.fifoPush_frame p; rw [h]
@[simp] theorem State.fifoPush_halves (s : State) (p : Posting) : (s.fifoPush p).halves = s.halves := by obtain ⟨_, h⟩ := s.fifoPush_frame p; rw [h]
@[simp] theorem State.fifoPush_pending (s : State) (p : Posting) : (s.fifoPush p).pending = s.pending := by obtain ⟨_, h⟩ := s.fifoPush_frame p; rw [h]

/-- What it may change. -/
theorem State.noteLost_frame (s : State) (p : Posting) : ∃ vlog, s.noteLost p = { s with log := vlog } := by
  exact ⟨_, rfl⟩
@[simp] theorem State.noteLost_mem (s : State) (p : Posting) : (s.noteLost p).mem = s.mem := by obtain ⟨_, h⟩ := s.noteLost_frame p; rw [h]
@[simp] theorem State.noteLost_regs (s : State) (p : Posting) : (s.noteLost p).regs = s.regs := by obtain ⟨_, h⟩ := s.noteLost_frame p; rw [h]
@[simp] theorem State.noteLost_poison (s : State) (p : Posting) : (s.noteLost p).poison = s.poison := by obtain ⟨_, h⟩ := s.noteLost_frame p; rw [h]
@[simp] theorem State.noteLost_bus (s : State) (p : Posting) : (s.noteLost p).bus = s.bus := by obtain ⟨_, h⟩ := s.noteLost_frame p; rw [h]
@[simp] theorem State.noteLost_fresh (s : State) (p : Posting) : (s.noteLost p).fresh = s.fresh := by obtain ⟨_, h⟩ := s.noteLost_frame p; rw [h]
@[simp] theorem State.noteLost_chip (s : State) (p : Posting) : (s.noteLost p).chip = s.chip := by obtain ⟨_, h⟩ := s.noteLost_frame p; rw [h]
@[simp] theorem State.noteLost_cfg (s : State) (p : Posting) : (s.noteLost p).cfg = s.cfg := by obtain ⟨_, h⟩ := s.noteLost_frame p; rw [h]
@[simp] theorem State.noteLost_cfgBytes (s : State) (p : Posting) : (s.noteLost p).cfgBytes = s.cfgBytes := by obtain ⟨_, h⟩ := s.noteLost_frame p; rw [h]
@[simp] theorem State.noteLost_mb (s : State) (p : Posting) : (s.noteLost p).mb = s.mb := by obtain ⟨_, h⟩ := s.noteLost_frame p; rw [h]
@[simp] theorem State.noteLost_spi (s : State) (p : Posting) : (s.noteLost p).spi = s.spi := by obtain ⟨_, h⟩ := s.noteLost_frame p; rw [h]
@[simp] theorem State.noteLost_acc (s : State) (p : Posting) : (s.noteLost p).acc = s.acc := by obtain ⟨_, h⟩ := s.noteLost_frame p; rw [h]
@[simp] theorem State.noteLost_fault (s : State) (p : Posting) : (s.noteLost p).fault = s.fault := by obtain ⟨_, h⟩ := s.noteLost_frame p; rw [h]
@[simp] theorem State.noteLost_boot (s : State) (p : Posting) : (s.noteLost p).boot = s.boot := by obtain ⟨_, h⟩ := s.noteLost_frame p; rw [h]
@[simp] theorem State.noteLost_key (s : State) (p : Posting) : (s.noteLost p).key = s.key := by obtain ⟨_, h⟩ := s.noteLost_frame p; rw [h]
@[simp] theorem State.noteLost_jtag (s : State) (p : Posting) : (s.noteLost p).jtag = s.jtag := by obtain ⟨_, h⟩ := s.noteLost_frame p; rw [h]
@[simp] theorem State.noteLost_pwr (s : State) (p : Posting) : (s.noteLost p).pwr = s.pwr := by obtain ⟨_, h⟩ := s.noteLost_frame p; rw [h]
@[simp] theorem State.noteLost_time (s : State) (p : Posting) : (s.noteLost p).time = s.time := by obtain ⟨_, h⟩ := s.noteLost_frame p; rw [h]
@[simp] theorem State.noteLost_pair (s : State) (p : Posting) : (s.noteLost p).pair = s.pair := by obtain ⟨_, h⟩ := s.noteLost_frame p; rw [h]
@[simp] theorem State.noteLost_port (s : State) (p : Posting) : (s.noteLost p).port = s.port := by obtain ⟨_, h⟩ := s.noteLost_frame p; rw [h]
@[simp] theorem State.noteLost_cyc (s : State) (p : Posting) : (s.noteLost p).cyc = s.cyc := by obtain ⟨_, h⟩ := s.noteLost_frame p; rw [h]
@[simp] theorem State.noteLost_solv (s : State) (p : Posting) : (s.noteLost p).solv = s.solv := by obtain ⟨_, h⟩ := s.noteLost_frame p; rw [h]
@[simp] theorem State.noteLost_io (s : State) (p : Posting) : (s.noteLost p).io = s.io := by obtain ⟨_, h⟩ := s.noteLost_frame p; rw [h]
@[simp] theorem State.noteLost_loop (s : State) (p : Posting) : (s.noteLost p).loop = s.loop := by obtain ⟨_, h⟩ := s.noteLost_frame p; rw [h]
@[simp] theorem State.noteLost_drift (s : State) (p : Posting) : (s.noteLost p).drift = s.drift := by obtain ⟨_, h⟩ := s.noteLost_frame p; rw [h]
@[simp] theorem State.noteLost_mtr (s : State) (p : Posting) : (s.noteLost p).mtr = s.mtr := by obtain ⟨_, h⟩ := s.noteLost_frame p; rw [h]
@[simp] theorem State.noteLost_cal (s : State) (p : Posting) : (s.noteLost p).cal = s.cal := by obtain ⟨_, h⟩ := s.noteLost_frame p; rw [h]
@[simp] theorem State.noteLost_halves (s : State) (p : Posting) : (s.noteLost p).halves = s.halves := by obtain ⟨_, h⟩ := s.noteLost_frame p; rw [h]
@[simp] theorem State.noteLost_pending (s : State) (p : Posting) : (s.noteLost p).pending = s.pending := by obtain ⟨_, h⟩ := s.noteLost_frame p; rw [h]

/-- What it may change. -/
theorem State.postAs_frame (s : State) (m : Master) (c : Nat) (x y z : W32) : ∃ vregs vlog, s.postAs m c x y z = { s with regs := vregs, log := vlog } := by
  unfold State.postAs; dsimp only; split
  · obtain ⟨l, h⟩ := s.fifoPush_frame _
    rw [h]
    exact ⟨s.regs, l, rfl⟩
  · obtain ⟨l, h⟩ := s.noteLost_frame _
    rw [h]
    obtain ⟨r, h⟩ := State.count_frame { s with log := l } 0xB0020 1
    rw [h]
    obtain ⟨r, h⟩ := State.setBit_frame { s with log := l, regs := r } (bankKey 0xB0050 (masterId m)) 0 true
    exact ⟨r, l, h⟩
@[simp] theorem State.postAs_mem (s : State) (m : Master) (c : Nat) (x y z : W32) : (s.postAs m c x y z).mem = s.mem := by obtain ⟨_, _, h⟩ := s.postAs_frame m c x y z; rw [h]
@[simp] theorem State.postAs_poison (s : State) (m : Master) (c : Nat) (x y z : W32) : (s.postAs m c x y z).poison = s.poison := by obtain ⟨_, _, h⟩ := s.postAs_frame m c x y z; rw [h]
@[simp] theorem State.postAs_bus (s : State) (m : Master) (c : Nat) (x y z : W32) : (s.postAs m c x y z).bus = s.bus := by obtain ⟨_, _, h⟩ := s.postAs_frame m c x y z; rw [h]
@[simp] theorem State.postAs_fresh (s : State) (m : Master) (c : Nat) (x y z : W32) : (s.postAs m c x y z).fresh = s.fresh := by obtain ⟨_, _, h⟩ := s.postAs_frame m c x y z; rw [h]
@[simp] theorem State.postAs_chip (s : State) (m : Master) (c : Nat) (x y z : W32) : (s.postAs m c x y z).chip = s.chip := by obtain ⟨_, _, h⟩ := s.postAs_frame m c x y z; rw [h]
@[simp] theorem State.postAs_cfg (s : State) (m : Master) (c : Nat) (x y z : W32) : (s.postAs m c x y z).cfg = s.cfg := by obtain ⟨_, _, h⟩ := s.postAs_frame m c x y z; rw [h]
@[simp] theorem State.postAs_cfgBytes (s : State) (m : Master) (c : Nat) (x y z : W32) : (s.postAs m c x y z).cfgBytes = s.cfgBytes := by obtain ⟨_, _, h⟩ := s.postAs_frame m c x y z; rw [h]
@[simp] theorem State.postAs_mb (s : State) (m : Master) (c : Nat) (x y z : W32) : (s.postAs m c x y z).mb = s.mb := by obtain ⟨_, _, h⟩ := s.postAs_frame m c x y z; rw [h]
@[simp] theorem State.postAs_spi (s : State) (m : Master) (c : Nat) (x y z : W32) : (s.postAs m c x y z).spi = s.spi := by obtain ⟨_, _, h⟩ := s.postAs_frame m c x y z; rw [h]
@[simp] theorem State.postAs_acc (s : State) (m : Master) (c : Nat) (x y z : W32) : (s.postAs m c x y z).acc = s.acc := by obtain ⟨_, _, h⟩ := s.postAs_frame m c x y z; rw [h]
@[simp] theorem State.postAs_fault (s : State) (m : Master) (c : Nat) (x y z : W32) : (s.postAs m c x y z).fault = s.fault := by obtain ⟨_, _, h⟩ := s.postAs_frame m c x y z; rw [h]
@[simp] theorem State.postAs_boot (s : State) (m : Master) (c : Nat) (x y z : W32) : (s.postAs m c x y z).boot = s.boot := by obtain ⟨_, _, h⟩ := s.postAs_frame m c x y z; rw [h]
@[simp] theorem State.postAs_key (s : State) (m : Master) (c : Nat) (x y z : W32) : (s.postAs m c x y z).key = s.key := by obtain ⟨_, _, h⟩ := s.postAs_frame m c x y z; rw [h]
@[simp] theorem State.postAs_jtag (s : State) (m : Master) (c : Nat) (x y z : W32) : (s.postAs m c x y z).jtag = s.jtag := by obtain ⟨_, _, h⟩ := s.postAs_frame m c x y z; rw [h]
@[simp] theorem State.postAs_pwr (s : State) (m : Master) (c : Nat) (x y z : W32) : (s.postAs m c x y z).pwr = s.pwr := by obtain ⟨_, _, h⟩ := s.postAs_frame m c x y z; rw [h]
@[simp] theorem State.postAs_time (s : State) (m : Master) (c : Nat) (x y z : W32) : (s.postAs m c x y z).time = s.time := by obtain ⟨_, _, h⟩ := s.postAs_frame m c x y z; rw [h]
@[simp] theorem State.postAs_pair (s : State) (m : Master) (c : Nat) (x y z : W32) : (s.postAs m c x y z).pair = s.pair := by obtain ⟨_, _, h⟩ := s.postAs_frame m c x y z; rw [h]
@[simp] theorem State.postAs_port (s : State) (m : Master) (c : Nat) (x y z : W32) : (s.postAs m c x y z).port = s.port := by obtain ⟨_, _, h⟩ := s.postAs_frame m c x y z; rw [h]
@[simp] theorem State.postAs_cyc (s : State) (m : Master) (c : Nat) (x y z : W32) : (s.postAs m c x y z).cyc = s.cyc := by obtain ⟨_, _, h⟩ := s.postAs_frame m c x y z; rw [h]
@[simp] theorem State.postAs_solv (s : State) (m : Master) (c : Nat) (x y z : W32) : (s.postAs m c x y z).solv = s.solv := by obtain ⟨_, _, h⟩ := s.postAs_frame m c x y z; rw [h]
@[simp] theorem State.postAs_io (s : State) (m : Master) (c : Nat) (x y z : W32) : (s.postAs m c x y z).io = s.io := by obtain ⟨_, _, h⟩ := s.postAs_frame m c x y z; rw [h]
@[simp] theorem State.postAs_loop (s : State) (m : Master) (c : Nat) (x y z : W32) : (s.postAs m c x y z).loop = s.loop := by obtain ⟨_, _, h⟩ := s.postAs_frame m c x y z; rw [h]
@[simp] theorem State.postAs_drift (s : State) (m : Master) (c : Nat) (x y z : W32) : (s.postAs m c x y z).drift = s.drift := by obtain ⟨_, _, h⟩ := s.postAs_frame m c x y z; rw [h]
@[simp] theorem State.postAs_mtr (s : State) (m : Master) (c : Nat) (x y z : W32) : (s.postAs m c x y z).mtr = s.mtr := by obtain ⟨_, _, h⟩ := s.postAs_frame m c x y z; rw [h]
@[simp] theorem State.postAs_cal (s : State) (m : Master) (c : Nat) (x y z : W32) : (s.postAs m c x y z).cal = s.cal := by obtain ⟨_, _, h⟩ := s.postAs_frame m c x y z; rw [h]
@[simp] theorem State.postAs_halves (s : State) (m : Master) (c : Nat) (x y z : W32) : (s.postAs m c x y z).halves = s.halves := by obtain ⟨_, _, h⟩ := s.postAs_frame m c x y z; rw [h]
@[simp] theorem State.postAs_pending (s : State) (m : Master) (c : Nat) (x y z : W32) : (s.postAs m c x y z).pending = s.pending := by obtain ⟨_, _, h⟩ := s.postAs_frame m c x y z; rw [h]

/-- What it may change. -/
theorem State.postHw_frame (s : State) (c : Nat) (x y z : W32) : ∃ vregs vlog, s.postHw c x y z = { s with regs := vregs, log := vlog } := by
  exact s.postAs_frame _ c x y z
@[simp] theorem State.postHw_mem (s : State) (c : Nat) (x y z : W32) : (s.postHw c x y z).mem = s.mem := by obtain ⟨_, _, h⟩ := s.postHw_frame c x y z; rw [h]
@[simp] theorem State.postHw_poison (s : State) (c : Nat) (x y z : W32) : (s.postHw c x y z).poison = s.poison := by obtain ⟨_, _, h⟩ := s.postHw_frame c x y z; rw [h]
@[simp] theorem State.postHw_bus (s : State) (c : Nat) (x y z : W32) : (s.postHw c x y z).bus = s.bus := by obtain ⟨_, _, h⟩ := s.postHw_frame c x y z; rw [h]
@[simp] theorem State.postHw_fresh (s : State) (c : Nat) (x y z : W32) : (s.postHw c x y z).fresh = s.fresh := by obtain ⟨_, _, h⟩ := s.postHw_frame c x y z; rw [h]
@[simp] theorem State.postHw_chip (s : State) (c : Nat) (x y z : W32) : (s.postHw c x y z).chip = s.chip := by obtain ⟨_, _, h⟩ := s.postHw_frame c x y z; rw [h]
@[simp] theorem State.postHw_cfg (s : State) (c : Nat) (x y z : W32) : (s.postHw c x y z).cfg = s.cfg := by obtain ⟨_, _, h⟩ := s.postHw_frame c x y z; rw [h]
@[simp] theorem State.postHw_cfgBytes (s : State) (c : Nat) (x y z : W32) : (s.postHw c x y z).cfgBytes = s.cfgBytes := by obtain ⟨_, _, h⟩ := s.postHw_frame c x y z; rw [h]
@[simp] theorem State.postHw_mb (s : State) (c : Nat) (x y z : W32) : (s.postHw c x y z).mb = s.mb := by obtain ⟨_, _, h⟩ := s.postHw_frame c x y z; rw [h]
@[simp] theorem State.postHw_spi (s : State) (c : Nat) (x y z : W32) : (s.postHw c x y z).spi = s.spi := by obtain ⟨_, _, h⟩ := s.postHw_frame c x y z; rw [h]
@[simp] theorem State.postHw_acc (s : State) (c : Nat) (x y z : W32) : (s.postHw c x y z).acc = s.acc := by obtain ⟨_, _, h⟩ := s.postHw_frame c x y z; rw [h]
@[simp] theorem State.postHw_fault (s : State) (c : Nat) (x y z : W32) : (s.postHw c x y z).fault = s.fault := by obtain ⟨_, _, h⟩ := s.postHw_frame c x y z; rw [h]
@[simp] theorem State.postHw_boot (s : State) (c : Nat) (x y z : W32) : (s.postHw c x y z).boot = s.boot := by obtain ⟨_, _, h⟩ := s.postHw_frame c x y z; rw [h]
@[simp] theorem State.postHw_key (s : State) (c : Nat) (x y z : W32) : (s.postHw c x y z).key = s.key := by obtain ⟨_, _, h⟩ := s.postHw_frame c x y z; rw [h]
@[simp] theorem State.postHw_jtag (s : State) (c : Nat) (x y z : W32) : (s.postHw c x y z).jtag = s.jtag := by obtain ⟨_, _, h⟩ := s.postHw_frame c x y z; rw [h]
@[simp] theorem State.postHw_pwr (s : State) (c : Nat) (x y z : W32) : (s.postHw c x y z).pwr = s.pwr := by obtain ⟨_, _, h⟩ := s.postHw_frame c x y z; rw [h]
@[simp] theorem State.postHw_time (s : State) (c : Nat) (x y z : W32) : (s.postHw c x y z).time = s.time := by obtain ⟨_, _, h⟩ := s.postHw_frame c x y z; rw [h]
@[simp] theorem State.postHw_pair (s : State) (c : Nat) (x y z : W32) : (s.postHw c x y z).pair = s.pair := by obtain ⟨_, _, h⟩ := s.postHw_frame c x y z; rw [h]
@[simp] theorem State.postHw_port (s : State) (c : Nat) (x y z : W32) : (s.postHw c x y z).port = s.port := by obtain ⟨_, _, h⟩ := s.postHw_frame c x y z; rw [h]
@[simp] theorem State.postHw_cyc (s : State) (c : Nat) (x y z : W32) : (s.postHw c x y z).cyc = s.cyc := by obtain ⟨_, _, h⟩ := s.postHw_frame c x y z; rw [h]
@[simp] theorem State.postHw_solv (s : State) (c : Nat) (x y z : W32) : (s.postHw c x y z).solv = s.solv := by obtain ⟨_, _, h⟩ := s.postHw_frame c x y z; rw [h]
@[simp] theorem State.postHw_io (s : State) (c : Nat) (x y z : W32) : (s.postHw c x y z).io = s.io := by obtain ⟨_, _, h⟩ := s.postHw_frame c x y z; rw [h]
@[simp] theorem State.postHw_loop (s : State) (c : Nat) (x y z : W32) : (s.postHw c x y z).loop = s.loop := by obtain ⟨_, _, h⟩ := s.postHw_frame c x y z; rw [h]
@[simp] theorem State.postHw_drift (s : State) (c : Nat) (x y z : W32) : (s.postHw c x y z).drift = s.drift := by obtain ⟨_, _, h⟩ := s.postHw_frame c x y z; rw [h]
@[simp] theorem State.postHw_mtr (s : State) (c : Nat) (x y z : W32) : (s.postHw c x y z).mtr = s.mtr := by obtain ⟨_, _, h⟩ := s.postHw_frame c x y z; rw [h]
@[simp] theorem State.postHw_cal (s : State) (c : Nat) (x y z : W32) : (s.postHw c x y z).cal = s.cal := by obtain ⟨_, _, h⟩ := s.postHw_frame c x y z; rw [h]
@[simp] theorem State.postHw_halves (s : State) (c : Nat) (x y z : W32) : (s.postHw c x y z).halves = s.halves := by obtain ⟨_, _, h⟩ := s.postHw_frame c x y z; rw [h]
@[simp] theorem State.postHw_pending (s : State) (c : Nat) (x y z : W32) : (s.postHw c x y z).pending = s.pending := by obtain ⟨_, _, h⟩ := s.postHw_frame c x y z; rw [h]

/-- What it may change. -/
theorem State.postFirn_frame (s : State) (c : Nat) (x y z : W32) : ∃ vregs vlog, s.postFirn c x y z = { s with regs := vregs, log := vlog } := by
  exact s.postAs_frame _ c x y z
@[simp] theorem State.postFirn_mem (s : State) (c : Nat) (x y z : W32) : (s.postFirn c x y z).mem = s.mem := by obtain ⟨_, _, h⟩ := s.postFirn_frame c x y z; rw [h]
@[simp] theorem State.postFirn_poison (s : State) (c : Nat) (x y z : W32) : (s.postFirn c x y z).poison = s.poison := by obtain ⟨_, _, h⟩ := s.postFirn_frame c x y z; rw [h]
@[simp] theorem State.postFirn_bus (s : State) (c : Nat) (x y z : W32) : (s.postFirn c x y z).bus = s.bus := by obtain ⟨_, _, h⟩ := s.postFirn_frame c x y z; rw [h]
@[simp] theorem State.postFirn_fresh (s : State) (c : Nat) (x y z : W32) : (s.postFirn c x y z).fresh = s.fresh := by obtain ⟨_, _, h⟩ := s.postFirn_frame c x y z; rw [h]
@[simp] theorem State.postFirn_chip (s : State) (c : Nat) (x y z : W32) : (s.postFirn c x y z).chip = s.chip := by obtain ⟨_, _, h⟩ := s.postFirn_frame c x y z; rw [h]
@[simp] theorem State.postFirn_cfg (s : State) (c : Nat) (x y z : W32) : (s.postFirn c x y z).cfg = s.cfg := by obtain ⟨_, _, h⟩ := s.postFirn_frame c x y z; rw [h]
@[simp] theorem State.postFirn_cfgBytes (s : State) (c : Nat) (x y z : W32) : (s.postFirn c x y z).cfgBytes = s.cfgBytes := by obtain ⟨_, _, h⟩ := s.postFirn_frame c x y z; rw [h]
@[simp] theorem State.postFirn_mb (s : State) (c : Nat) (x y z : W32) : (s.postFirn c x y z).mb = s.mb := by obtain ⟨_, _, h⟩ := s.postFirn_frame c x y z; rw [h]
@[simp] theorem State.postFirn_spi (s : State) (c : Nat) (x y z : W32) : (s.postFirn c x y z).spi = s.spi := by obtain ⟨_, _, h⟩ := s.postFirn_frame c x y z; rw [h]
@[simp] theorem State.postFirn_acc (s : State) (c : Nat) (x y z : W32) : (s.postFirn c x y z).acc = s.acc := by obtain ⟨_, _, h⟩ := s.postFirn_frame c x y z; rw [h]
@[simp] theorem State.postFirn_fault (s : State) (c : Nat) (x y z : W32) : (s.postFirn c x y z).fault = s.fault := by obtain ⟨_, _, h⟩ := s.postFirn_frame c x y z; rw [h]
@[simp] theorem State.postFirn_boot (s : State) (c : Nat) (x y z : W32) : (s.postFirn c x y z).boot = s.boot := by obtain ⟨_, _, h⟩ := s.postFirn_frame c x y z; rw [h]
@[simp] theorem State.postFirn_key (s : State) (c : Nat) (x y z : W32) : (s.postFirn c x y z).key = s.key := by obtain ⟨_, _, h⟩ := s.postFirn_frame c x y z; rw [h]
@[simp] theorem State.postFirn_jtag (s : State) (c : Nat) (x y z : W32) : (s.postFirn c x y z).jtag = s.jtag := by obtain ⟨_, _, h⟩ := s.postFirn_frame c x y z; rw [h]
@[simp] theorem State.postFirn_pwr (s : State) (c : Nat) (x y z : W32) : (s.postFirn c x y z).pwr = s.pwr := by obtain ⟨_, _, h⟩ := s.postFirn_frame c x y z; rw [h]
@[simp] theorem State.postFirn_time (s : State) (c : Nat) (x y z : W32) : (s.postFirn c x y z).time = s.time := by obtain ⟨_, _, h⟩ := s.postFirn_frame c x y z; rw [h]
@[simp] theorem State.postFirn_pair (s : State) (c : Nat) (x y z : W32) : (s.postFirn c x y z).pair = s.pair := by obtain ⟨_, _, h⟩ := s.postFirn_frame c x y z; rw [h]
@[simp] theorem State.postFirn_port (s : State) (c : Nat) (x y z : W32) : (s.postFirn c x y z).port = s.port := by obtain ⟨_, _, h⟩ := s.postFirn_frame c x y z; rw [h]
@[simp] theorem State.postFirn_cyc (s : State) (c : Nat) (x y z : W32) : (s.postFirn c x y z).cyc = s.cyc := by obtain ⟨_, _, h⟩ := s.postFirn_frame c x y z; rw [h]
@[simp] theorem State.postFirn_solv (s : State) (c : Nat) (x y z : W32) : (s.postFirn c x y z).solv = s.solv := by obtain ⟨_, _, h⟩ := s.postFirn_frame c x y z; rw [h]
@[simp] theorem State.postFirn_io (s : State) (c : Nat) (x y z : W32) : (s.postFirn c x y z).io = s.io := by obtain ⟨_, _, h⟩ := s.postFirn_frame c x y z; rw [h]
@[simp] theorem State.postFirn_loop (s : State) (c : Nat) (x y z : W32) : (s.postFirn c x y z).loop = s.loop := by obtain ⟨_, _, h⟩ := s.postFirn_frame c x y z; rw [h]
@[simp] theorem State.postFirn_drift (s : State) (c : Nat) (x y z : W32) : (s.postFirn c x y z).drift = s.drift := by obtain ⟨_, _, h⟩ := s.postFirn_frame c x y z; rw [h]
@[simp] theorem State.postFirn_mtr (s : State) (c : Nat) (x y z : W32) : (s.postFirn c x y z).mtr = s.mtr := by obtain ⟨_, _, h⟩ := s.postFirn_frame c x y z; rw [h]
@[simp] theorem State.postFirn_cal (s : State) (c : Nat) (x y z : W32) : (s.postFirn c x y z).cal = s.cal := by obtain ⟨_, _, h⟩ := s.postFirn_frame c x y z; rw [h]
@[simp] theorem State.postFirn_halves (s : State) (c : Nat) (x y z : W32) : (s.postFirn c x y z).halves = s.halves := by obtain ⟨_, _, h⟩ := s.postFirn_frame c x y z; rw [h]
@[simp] theorem State.postFirn_pending (s : State) (c : Nat) (x y z : W32) : (s.postFirn c x y z).pending = s.pending := by obtain ⟨_, _, h⟩ := s.postFirn_frame c x y z; rw [h]

/-- What it may change. -/
theorem State.postGuard_frame (s : State) (c : Nat) (x y z : W32) : ∃ vregs vlog, s.postGuard c x y z = { s with regs := vregs, log := vlog } := by
  exact s.postAs_frame _ c x y z
@[simp] theorem State.postGuard_mem (s : State) (c : Nat) (x y z : W32) : (s.postGuard c x y z).mem = s.mem := by obtain ⟨_, _, h⟩ := s.postGuard_frame c x y z; rw [h]
@[simp] theorem State.postGuard_poison (s : State) (c : Nat) (x y z : W32) : (s.postGuard c x y z).poison = s.poison := by obtain ⟨_, _, h⟩ := s.postGuard_frame c x y z; rw [h]
@[simp] theorem State.postGuard_bus (s : State) (c : Nat) (x y z : W32) : (s.postGuard c x y z).bus = s.bus := by obtain ⟨_, _, h⟩ := s.postGuard_frame c x y z; rw [h]
@[simp] theorem State.postGuard_fresh (s : State) (c : Nat) (x y z : W32) : (s.postGuard c x y z).fresh = s.fresh := by obtain ⟨_, _, h⟩ := s.postGuard_frame c x y z; rw [h]
@[simp] theorem State.postGuard_chip (s : State) (c : Nat) (x y z : W32) : (s.postGuard c x y z).chip = s.chip := by obtain ⟨_, _, h⟩ := s.postGuard_frame c x y z; rw [h]
@[simp] theorem State.postGuard_cfg (s : State) (c : Nat) (x y z : W32) : (s.postGuard c x y z).cfg = s.cfg := by obtain ⟨_, _, h⟩ := s.postGuard_frame c x y z; rw [h]
@[simp] theorem State.postGuard_cfgBytes (s : State) (c : Nat) (x y z : W32) : (s.postGuard c x y z).cfgBytes = s.cfgBytes := by obtain ⟨_, _, h⟩ := s.postGuard_frame c x y z; rw [h]
@[simp] theorem State.postGuard_mb (s : State) (c : Nat) (x y z : W32) : (s.postGuard c x y z).mb = s.mb := by obtain ⟨_, _, h⟩ := s.postGuard_frame c x y z; rw [h]
@[simp] theorem State.postGuard_spi (s : State) (c : Nat) (x y z : W32) : (s.postGuard c x y z).spi = s.spi := by obtain ⟨_, _, h⟩ := s.postGuard_frame c x y z; rw [h]
@[simp] theorem State.postGuard_acc (s : State) (c : Nat) (x y z : W32) : (s.postGuard c x y z).acc = s.acc := by obtain ⟨_, _, h⟩ := s.postGuard_frame c x y z; rw [h]
@[simp] theorem State.postGuard_fault (s : State) (c : Nat) (x y z : W32) : (s.postGuard c x y z).fault = s.fault := by obtain ⟨_, _, h⟩ := s.postGuard_frame c x y z; rw [h]
@[simp] theorem State.postGuard_boot (s : State) (c : Nat) (x y z : W32) : (s.postGuard c x y z).boot = s.boot := by obtain ⟨_, _, h⟩ := s.postGuard_frame c x y z; rw [h]
@[simp] theorem State.postGuard_key (s : State) (c : Nat) (x y z : W32) : (s.postGuard c x y z).key = s.key := by obtain ⟨_, _, h⟩ := s.postGuard_frame c x y z; rw [h]
@[simp] theorem State.postGuard_jtag (s : State) (c : Nat) (x y z : W32) : (s.postGuard c x y z).jtag = s.jtag := by obtain ⟨_, _, h⟩ := s.postGuard_frame c x y z; rw [h]
@[simp] theorem State.postGuard_pwr (s : State) (c : Nat) (x y z : W32) : (s.postGuard c x y z).pwr = s.pwr := by obtain ⟨_, _, h⟩ := s.postGuard_frame c x y z; rw [h]
@[simp] theorem State.postGuard_time (s : State) (c : Nat) (x y z : W32) : (s.postGuard c x y z).time = s.time := by obtain ⟨_, _, h⟩ := s.postGuard_frame c x y z; rw [h]
@[simp] theorem State.postGuard_pair (s : State) (c : Nat) (x y z : W32) : (s.postGuard c x y z).pair = s.pair := by obtain ⟨_, _, h⟩ := s.postGuard_frame c x y z; rw [h]
@[simp] theorem State.postGuard_port (s : State) (c : Nat) (x y z : W32) : (s.postGuard c x y z).port = s.port := by obtain ⟨_, _, h⟩ := s.postGuard_frame c x y z; rw [h]
@[simp] theorem State.postGuard_cyc (s : State) (c : Nat) (x y z : W32) : (s.postGuard c x y z).cyc = s.cyc := by obtain ⟨_, _, h⟩ := s.postGuard_frame c x y z; rw [h]
@[simp] theorem State.postGuard_solv (s : State) (c : Nat) (x y z : W32) : (s.postGuard c x y z).solv = s.solv := by obtain ⟨_, _, h⟩ := s.postGuard_frame c x y z; rw [h]
@[simp] theorem State.postGuard_io (s : State) (c : Nat) (x y z : W32) : (s.postGuard c x y z).io = s.io := by obtain ⟨_, _, h⟩ := s.postGuard_frame c x y z; rw [h]
@[simp] theorem State.postGuard_loop (s : State) (c : Nat) (x y z : W32) : (s.postGuard c x y z).loop = s.loop := by obtain ⟨_, _, h⟩ := s.postGuard_frame c x y z; rw [h]
@[simp] theorem State.postGuard_drift (s : State) (c : Nat) (x y z : W32) : (s.postGuard c x y z).drift = s.drift := by obtain ⟨_, _, h⟩ := s.postGuard_frame c x y z; rw [h]
@[simp] theorem State.postGuard_mtr (s : State) (c : Nat) (x y z : W32) : (s.postGuard c x y z).mtr = s.mtr := by obtain ⟨_, _, h⟩ := s.postGuard_frame c x y z; rw [h]
@[simp] theorem State.postGuard_cal (s : State) (c : Nat) (x y z : W32) : (s.postGuard c x y z).cal = s.cal := by obtain ⟨_, _, h⟩ := s.postGuard_frame c x y z; rw [h]
@[simp] theorem State.postGuard_halves (s : State) (c : Nat) (x y z : W32) : (s.postGuard c x y z).halves = s.halves := by obtain ⟨_, _, h⟩ := s.postGuard_frame c x y z; rw [h]
@[simp] theorem State.postGuard_pending (s : State) (c : Nat) (x y z : W32) : (s.postGuard c x y z).pending = s.pending := by obtain ⟨_, _, h⟩ := s.postGuard_frame c x y z; rw [h]


/-! ### Completions -/

/-- What it may change. -/
theorem State.flipPhase_frame (s : State) (k : Nat) : ∃ vmb, s.flipPhase k = { s with mb := vmb } := by
  exact ⟨_, rfl⟩
@[simp] theorem State.flipPhase_mem (s : State) (k : Nat) : (s.flipPhase k).mem = s.mem := by obtain ⟨_, h⟩ := s.flipPhase_frame k; rw [h]
@[simp] theorem State.flipPhase_regs (s : State) (k : Nat) : (s.flipPhase k).regs = s.regs := by obtain ⟨_, h⟩ := s.flipPhase_frame k; rw [h]
@[simp] theorem State.flipPhase_poison (s : State) (k : Nat) : (s.flipPhase k).poison = s.poison := by obtain ⟨_, h⟩ := s.flipPhase_frame k; rw [h]
@[simp] theorem State.flipPhase_bus (s : State) (k : Nat) : (s.flipPhase k).bus = s.bus := by obtain ⟨_, h⟩ := s.flipPhase_frame k; rw [h]
@[simp] theorem State.flipPhase_fresh (s : State) (k : Nat) : (s.flipPhase k).fresh = s.fresh := by obtain ⟨_, h⟩ := s.flipPhase_frame k; rw [h]
@[simp] theorem State.flipPhase_chip (s : State) (k : Nat) : (s.flipPhase k).chip = s.chip := by obtain ⟨_, h⟩ := s.flipPhase_frame k; rw [h]
@[simp] theorem State.flipPhase_cfg (s : State) (k : Nat) : (s.flipPhase k).cfg = s.cfg := by obtain ⟨_, h⟩ := s.flipPhase_frame k; rw [h]
@[simp] theorem State.flipPhase_cfgBytes (s : State) (k : Nat) : (s.flipPhase k).cfgBytes = s.cfgBytes := by obtain ⟨_, h⟩ := s.flipPhase_frame k; rw [h]
@[simp] theorem State.flipPhase_spi (s : State) (k : Nat) : (s.flipPhase k).spi = s.spi := by obtain ⟨_, h⟩ := s.flipPhase_frame k; rw [h]
@[simp] theorem State.flipPhase_acc (s : State) (k : Nat) : (s.flipPhase k).acc = s.acc := by obtain ⟨_, h⟩ := s.flipPhase_frame k; rw [h]
@[simp] theorem State.flipPhase_fault (s : State) (k : Nat) : (s.flipPhase k).fault = s.fault := by obtain ⟨_, h⟩ := s.flipPhase_frame k; rw [h]
@[simp] theorem State.flipPhase_log (s : State) (k : Nat) : (s.flipPhase k).log = s.log := by obtain ⟨_, h⟩ := s.flipPhase_frame k; rw [h]
@[simp] theorem State.flipPhase_boot (s : State) (k : Nat) : (s.flipPhase k).boot = s.boot := by obtain ⟨_, h⟩ := s.flipPhase_frame k; rw [h]
@[simp] theorem State.flipPhase_key (s : State) (k : Nat) : (s.flipPhase k).key = s.key := by obtain ⟨_, h⟩ := s.flipPhase_frame k; rw [h]
@[simp] theorem State.flipPhase_jtag (s : State) (k : Nat) : (s.flipPhase k).jtag = s.jtag := by obtain ⟨_, h⟩ := s.flipPhase_frame k; rw [h]
@[simp] theorem State.flipPhase_pwr (s : State) (k : Nat) : (s.flipPhase k).pwr = s.pwr := by obtain ⟨_, h⟩ := s.flipPhase_frame k; rw [h]
@[simp] theorem State.flipPhase_time (s : State) (k : Nat) : (s.flipPhase k).time = s.time := by obtain ⟨_, h⟩ := s.flipPhase_frame k; rw [h]
@[simp] theorem State.flipPhase_pair (s : State) (k : Nat) : (s.flipPhase k).pair = s.pair := by obtain ⟨_, h⟩ := s.flipPhase_frame k; rw [h]
@[simp] theorem State.flipPhase_port (s : State) (k : Nat) : (s.flipPhase k).port = s.port := by obtain ⟨_, h⟩ := s.flipPhase_frame k; rw [h]
@[simp] theorem State.flipPhase_cyc (s : State) (k : Nat) : (s.flipPhase k).cyc = s.cyc := by obtain ⟨_, h⟩ := s.flipPhase_frame k; rw [h]
@[simp] theorem State.flipPhase_solv (s : State) (k : Nat) : (s.flipPhase k).solv = s.solv := by obtain ⟨_, h⟩ := s.flipPhase_frame k; rw [h]
@[simp] theorem State.flipPhase_io (s : State) (k : Nat) : (s.flipPhase k).io = s.io := by obtain ⟨_, h⟩ := s.flipPhase_frame k; rw [h]
@[simp] theorem State.flipPhase_loop (s : State) (k : Nat) : (s.flipPhase k).loop = s.loop := by obtain ⟨_, h⟩ := s.flipPhase_frame k; rw [h]
@[simp] theorem State.flipPhase_drift (s : State) (k : Nat) : (s.flipPhase k).drift = s.drift := by obtain ⟨_, h⟩ := s.flipPhase_frame k; rw [h]
@[simp] theorem State.flipPhase_mtr (s : State) (k : Nat) : (s.flipPhase k).mtr = s.mtr := by obtain ⟨_, h⟩ := s.flipPhase_frame k; rw [h]
@[simp] theorem State.flipPhase_cal (s : State) (k : Nat) : (s.flipPhase k).cal = s.cal := by obtain ⟨_, h⟩ := s.flipPhase_frame k; rw [h]
@[simp] theorem State.flipPhase_halves (s : State) (k : Nat) : (s.flipPhase k).halves = s.halves := by obtain ⟨_, h⟩ := s.flipPhase_frame k; rw [h]
@[simp] theorem State.flipPhase_pending (s : State) (k : Nat) : (s.flipPhase k).pending = s.pending := by obtain ⟨_, h⟩ := s.flipPhase_frame k; rw [h]

/-- What it may change. -/
theorem State.formed_frame (s : State) (c : Completion) : ∃ vmb, s.formed c = { s with mb := vmb } := by
  exact ⟨_, rfl⟩
@[simp] theorem State.formed_mem (s : State) (c : Completion) : (s.formed c).mem = s.mem := by obtain ⟨_, h⟩ := s.formed_frame c; rw [h]
@[simp] theorem State.formed_regs (s : State) (c : Completion) : (s.formed c).regs = s.regs := by obtain ⟨_, h⟩ := s.formed_frame c; rw [h]
@[simp] theorem State.formed_poison (s : State) (c : Completion) : (s.formed c).poison = s.poison := by obtain ⟨_, h⟩ := s.formed_frame c; rw [h]
@[simp] theorem State.formed_bus (s : State) (c : Completion) : (s.formed c).bus = s.bus := by obtain ⟨_, h⟩ := s.formed_frame c; rw [h]
@[simp] theorem State.formed_fresh (s : State) (c : Completion) : (s.formed c).fresh = s.fresh := by obtain ⟨_, h⟩ := s.formed_frame c; rw [h]
@[simp] theorem State.formed_chip (s : State) (c : Completion) : (s.formed c).chip = s.chip := by obtain ⟨_, h⟩ := s.formed_frame c; rw [h]
@[simp] theorem State.formed_cfg (s : State) (c : Completion) : (s.formed c).cfg = s.cfg := by obtain ⟨_, h⟩ := s.formed_frame c; rw [h]
@[simp] theorem State.formed_cfgBytes (s : State) (c : Completion) : (s.formed c).cfgBytes = s.cfgBytes := by obtain ⟨_, h⟩ := s.formed_frame c; rw [h]
@[simp] theorem State.formed_spi (s : State) (c : Completion) : (s.formed c).spi = s.spi := by obtain ⟨_, h⟩ := s.formed_frame c; rw [h]
@[simp] theorem State.formed_acc (s : State) (c : Completion) : (s.formed c).acc = s.acc := by obtain ⟨_, h⟩ := s.formed_frame c; rw [h]
@[simp] theorem State.formed_fault (s : State) (c : Completion) : (s.formed c).fault = s.fault := by obtain ⟨_, h⟩ := s.formed_frame c; rw [h]
@[simp] theorem State.formed_log (s : State) (c : Completion) : (s.formed c).log = s.log := by obtain ⟨_, h⟩ := s.formed_frame c; rw [h]
@[simp] theorem State.formed_boot (s : State) (c : Completion) : (s.formed c).boot = s.boot := by obtain ⟨_, h⟩ := s.formed_frame c; rw [h]
@[simp] theorem State.formed_key (s : State) (c : Completion) : (s.formed c).key = s.key := by obtain ⟨_, h⟩ := s.formed_frame c; rw [h]
@[simp] theorem State.formed_jtag (s : State) (c : Completion) : (s.formed c).jtag = s.jtag := by obtain ⟨_, h⟩ := s.formed_frame c; rw [h]
@[simp] theorem State.formed_pwr (s : State) (c : Completion) : (s.formed c).pwr = s.pwr := by obtain ⟨_, h⟩ := s.formed_frame c; rw [h]
@[simp] theorem State.formed_time (s : State) (c : Completion) : (s.formed c).time = s.time := by obtain ⟨_, h⟩ := s.formed_frame c; rw [h]
@[simp] theorem State.formed_pair (s : State) (c : Completion) : (s.formed c).pair = s.pair := by obtain ⟨_, h⟩ := s.formed_frame c; rw [h]
@[simp] theorem State.formed_port (s : State) (c : Completion) : (s.formed c).port = s.port := by obtain ⟨_, h⟩ := s.formed_frame c; rw [h]
@[simp] theorem State.formed_cyc (s : State) (c : Completion) : (s.formed c).cyc = s.cyc := by obtain ⟨_, h⟩ := s.formed_frame c; rw [h]
@[simp] theorem State.formed_solv (s : State) (c : Completion) : (s.formed c).solv = s.solv := by obtain ⟨_, h⟩ := s.formed_frame c; rw [h]
@[simp] theorem State.formed_io (s : State) (c : Completion) : (s.formed c).io = s.io := by obtain ⟨_, h⟩ := s.formed_frame c; rw [h]
@[simp] theorem State.formed_loop (s : State) (c : Completion) : (s.formed c).loop = s.loop := by obtain ⟨_, h⟩ := s.formed_frame c; rw [h]
@[simp] theorem State.formed_drift (s : State) (c : Completion) : (s.formed c).drift = s.drift := by obtain ⟨_, h⟩ := s.formed_frame c; rw [h]
@[simp] theorem State.formed_mtr (s : State) (c : Completion) : (s.formed c).mtr = s.mtr := by obtain ⟨_, h⟩ := s.formed_frame c; rw [h]
@[simp] theorem State.formed_cal (s : State) (c : Completion) : (s.formed c).cal = s.cal := by obtain ⟨_, h⟩ := s.formed_frame c; rw [h]
@[simp] theorem State.formed_halves (s : State) (c : Completion) : (s.formed c).halves = s.halves := by obtain ⟨_, h⟩ := s.formed_frame c; rw [h]
@[simp] theorem State.formed_pending (s : State) (c : Completion) : (s.formed c).pending = s.pending := by obtain ⟨_, h⟩ := s.formed_frame c; rw [h]

/-- What it may change. -/
theorem State.retireCmd_frame (s : State) (o : Outst) : ∃ vmb, s.retireCmd o = { s with mb := vmb } := by
  exact ⟨_, rfl⟩
@[simp] theorem State.retireCmd_mem (s : State) (o : Outst) : (s.retireCmd o).mem = s.mem := by obtain ⟨_, h⟩ := s.retireCmd_frame o; rw [h]
@[simp] theorem State.retireCmd_regs (s : State) (o : Outst) : (s.retireCmd o).regs = s.regs := by obtain ⟨_, h⟩ := s.retireCmd_frame o; rw [h]
@[simp] theorem State.retireCmd_poison (s : State) (o : Outst) : (s.retireCmd o).poison = s.poison := by obtain ⟨_, h⟩ := s.retireCmd_frame o; rw [h]
@[simp] theorem State.retireCmd_bus (s : State) (o : Outst) : (s.retireCmd o).bus = s.bus := by obtain ⟨_, h⟩ := s.retireCmd_frame o; rw [h]
@[simp] theorem State.retireCmd_fresh (s : State) (o : Outst) : (s.retireCmd o).fresh = s.fresh := by obtain ⟨_, h⟩ := s.retireCmd_frame o; rw [h]
@[simp] theorem State.retireCmd_chip (s : State) (o : Outst) : (s.retireCmd o).chip = s.chip := by obtain ⟨_, h⟩ := s.retireCmd_frame o; rw [h]
@[simp] theorem State.retireCmd_cfg (s : State) (o : Outst) : (s.retireCmd o).cfg = s.cfg := by obtain ⟨_, h⟩ := s.retireCmd_frame o; rw [h]
@[simp] theorem State.retireCmd_cfgBytes (s : State) (o : Outst) : (s.retireCmd o).cfgBytes = s.cfgBytes := by obtain ⟨_, h⟩ := s.retireCmd_frame o; rw [h]
@[simp] theorem State.retireCmd_spi (s : State) (o : Outst) : (s.retireCmd o).spi = s.spi := by obtain ⟨_, h⟩ := s.retireCmd_frame o; rw [h]
@[simp] theorem State.retireCmd_acc (s : State) (o : Outst) : (s.retireCmd o).acc = s.acc := by obtain ⟨_, h⟩ := s.retireCmd_frame o; rw [h]
@[simp] theorem State.retireCmd_fault (s : State) (o : Outst) : (s.retireCmd o).fault = s.fault := by obtain ⟨_, h⟩ := s.retireCmd_frame o; rw [h]
@[simp] theorem State.retireCmd_log (s : State) (o : Outst) : (s.retireCmd o).log = s.log := by obtain ⟨_, h⟩ := s.retireCmd_frame o; rw [h]
@[simp] theorem State.retireCmd_boot (s : State) (o : Outst) : (s.retireCmd o).boot = s.boot := by obtain ⟨_, h⟩ := s.retireCmd_frame o; rw [h]
@[simp] theorem State.retireCmd_key (s : State) (o : Outst) : (s.retireCmd o).key = s.key := by obtain ⟨_, h⟩ := s.retireCmd_frame o; rw [h]
@[simp] theorem State.retireCmd_jtag (s : State) (o : Outst) : (s.retireCmd o).jtag = s.jtag := by obtain ⟨_, h⟩ := s.retireCmd_frame o; rw [h]
@[simp] theorem State.retireCmd_pwr (s : State) (o : Outst) : (s.retireCmd o).pwr = s.pwr := by obtain ⟨_, h⟩ := s.retireCmd_frame o; rw [h]
@[simp] theorem State.retireCmd_time (s : State) (o : Outst) : (s.retireCmd o).time = s.time := by obtain ⟨_, h⟩ := s.retireCmd_frame o; rw [h]
@[simp] theorem State.retireCmd_pair (s : State) (o : Outst) : (s.retireCmd o).pair = s.pair := by obtain ⟨_, h⟩ := s.retireCmd_frame o; rw [h]
@[simp] theorem State.retireCmd_port (s : State) (o : Outst) : (s.retireCmd o).port = s.port := by obtain ⟨_, h⟩ := s.retireCmd_frame o; rw [h]
@[simp] theorem State.retireCmd_cyc (s : State) (o : Outst) : (s.retireCmd o).cyc = s.cyc := by obtain ⟨_, h⟩ := s.retireCmd_frame o; rw [h]
@[simp] theorem State.retireCmd_solv (s : State) (o : Outst) : (s.retireCmd o).solv = s.solv := by obtain ⟨_, h⟩ := s.retireCmd_frame o; rw [h]
@[simp] theorem State.retireCmd_io (s : State) (o : Outst) : (s.retireCmd o).io = s.io := by obtain ⟨_, h⟩ := s.retireCmd_frame o; rw [h]
@[simp] theorem State.retireCmd_loop (s : State) (o : Outst) : (s.retireCmd o).loop = s.loop := by obtain ⟨_, h⟩ := s.retireCmd_frame o; rw [h]
@[simp] theorem State.retireCmd_drift (s : State) (o : Outst) : (s.retireCmd o).drift = s.drift := by obtain ⟨_, h⟩ := s.retireCmd_frame o; rw [h]
@[simp] theorem State.retireCmd_mtr (s : State) (o : Outst) : (s.retireCmd o).mtr = s.mtr := by obtain ⟨_, h⟩ := s.retireCmd_frame o; rw [h]
@[simp] theorem State.retireCmd_cal (s : State) (o : Outst) : (s.retireCmd o).cal = s.cal := by obtain ⟨_, h⟩ := s.retireCmd_frame o; rw [h]
@[simp] theorem State.retireCmd_halves (s : State) (o : Outst) : (s.retireCmd o).halves = s.halves := by obtain ⟨_, h⟩ := s.retireCmd_frame o; rw [h]
@[simp] theorem State.retireCmd_pending (s : State) (o : Outst) : (s.retireCmd o).pending = s.pending := by obtain ⟨_, h⟩ := s.retireCmd_frame o; rw [h]

/-- What it may change. -/
theorem State.setWaiting_frame (s : State) (l : List Instr) : ∃ vmb, s.setWaiting l = { s with mb := vmb } := by
  exact ⟨_, rfl⟩
@[simp] theorem State.setWaiting_mem (s : State) (l : List Instr) : (s.setWaiting l).mem = s.mem := by obtain ⟨_, h⟩ := s.setWaiting_frame l; rw [h]
@[simp] theorem State.setWaiting_regs (s : State) (l : List Instr) : (s.setWaiting l).regs = s.regs := by obtain ⟨_, h⟩ := s.setWaiting_frame l; rw [h]
@[simp] theorem State.setWaiting_poison (s : State) (l : List Instr) : (s.setWaiting l).poison = s.poison := by obtain ⟨_, h⟩ := s.setWaiting_frame l; rw [h]
@[simp] theorem State.setWaiting_bus (s : State) (l : List Instr) : (s.setWaiting l).bus = s.bus := by obtain ⟨_, h⟩ := s.setWaiting_frame l; rw [h]
@[simp] theorem State.setWaiting_fresh (s : State) (l : List Instr) : (s.setWaiting l).fresh = s.fresh := by obtain ⟨_, h⟩ := s.setWaiting_frame l; rw [h]
@[simp] theorem State.setWaiting_chip (s : State) (l : List Instr) : (s.setWaiting l).chip = s.chip := by obtain ⟨_, h⟩ := s.setWaiting_frame l; rw [h]
@[simp] theorem State.setWaiting_cfg (s : State) (l : List Instr) : (s.setWaiting l).cfg = s.cfg := by obtain ⟨_, h⟩ := s.setWaiting_frame l; rw [h]
@[simp] theorem State.setWaiting_cfgBytes (s : State) (l : List Instr) : (s.setWaiting l).cfgBytes = s.cfgBytes := by obtain ⟨_, h⟩ := s.setWaiting_frame l; rw [h]
@[simp] theorem State.setWaiting_spi (s : State) (l : List Instr) : (s.setWaiting l).spi = s.spi := by obtain ⟨_, h⟩ := s.setWaiting_frame l; rw [h]
@[simp] theorem State.setWaiting_acc (s : State) (l : List Instr) : (s.setWaiting l).acc = s.acc := by obtain ⟨_, h⟩ := s.setWaiting_frame l; rw [h]
@[simp] theorem State.setWaiting_fault (s : State) (l : List Instr) : (s.setWaiting l).fault = s.fault := by obtain ⟨_, h⟩ := s.setWaiting_frame l; rw [h]
@[simp] theorem State.setWaiting_log (s : State) (l : List Instr) : (s.setWaiting l).log = s.log := by obtain ⟨_, h⟩ := s.setWaiting_frame l; rw [h]
@[simp] theorem State.setWaiting_boot (s : State) (l : List Instr) : (s.setWaiting l).boot = s.boot := by obtain ⟨_, h⟩ := s.setWaiting_frame l; rw [h]
@[simp] theorem State.setWaiting_key (s : State) (l : List Instr) : (s.setWaiting l).key = s.key := by obtain ⟨_, h⟩ := s.setWaiting_frame l; rw [h]
@[simp] theorem State.setWaiting_jtag (s : State) (l : List Instr) : (s.setWaiting l).jtag = s.jtag := by obtain ⟨_, h⟩ := s.setWaiting_frame l; rw [h]
@[simp] theorem State.setWaiting_pwr (s : State) (l : List Instr) : (s.setWaiting l).pwr = s.pwr := by obtain ⟨_, h⟩ := s.setWaiting_frame l; rw [h]
@[simp] theorem State.setWaiting_time (s : State) (l : List Instr) : (s.setWaiting l).time = s.time := by obtain ⟨_, h⟩ := s.setWaiting_frame l; rw [h]
@[simp] theorem State.setWaiting_pair (s : State) (l : List Instr) : (s.setWaiting l).pair = s.pair := by obtain ⟨_, h⟩ := s.setWaiting_frame l; rw [h]
@[simp] theorem State.setWaiting_port (s : State) (l : List Instr) : (s.setWaiting l).port = s.port := by obtain ⟨_, h⟩ := s.setWaiting_frame l; rw [h]
@[simp] theorem State.setWaiting_cyc (s : State) (l : List Instr) : (s.setWaiting l).cyc = s.cyc := by obtain ⟨_, h⟩ := s.setWaiting_frame l; rw [h]
@[simp] theorem State.setWaiting_solv (s : State) (l : List Instr) : (s.setWaiting l).solv = s.solv := by obtain ⟨_, h⟩ := s.setWaiting_frame l; rw [h]
@[simp] theorem State.setWaiting_io (s : State) (l : List Instr) : (s.setWaiting l).io = s.io := by obtain ⟨_, h⟩ := s.setWaiting_frame l; rw [h]
@[simp] theorem State.setWaiting_loop (s : State) (l : List Instr) : (s.setWaiting l).loop = s.loop := by obtain ⟨_, h⟩ := s.setWaiting_frame l; rw [h]
@[simp] theorem State.setWaiting_drift (s : State) (l : List Instr) : (s.setWaiting l).drift = s.drift := by obtain ⟨_, h⟩ := s.setWaiting_frame l; rw [h]
@[simp] theorem State.setWaiting_mtr (s : State) (l : List Instr) : (s.setWaiting l).mtr = s.mtr := by obtain ⟨_, h⟩ := s.setWaiting_frame l; rw [h]
@[simp] theorem State.setWaiting_cal (s : State) (l : List Instr) : (s.setWaiting l).cal = s.cal := by obtain ⟨_, h⟩ := s.setWaiting_frame l; rw [h]
@[simp] theorem State.setWaiting_halves (s : State) (l : List Instr) : (s.setWaiting l).halves = s.halves := by obtain ⟨_, h⟩ := s.setWaiting_frame l; rw [h]
@[simp] theorem State.setWaiting_pending (s : State) (l : List Instr) : (s.setWaiting l).pending = s.pending := by obtain ⟨_, h⟩ := s.setWaiting_frame l; rw [h]

/-- What it may change. -/
theorem State.advanceCq_frame (s : State) (k : Nat) : ∃ vregs vmb, s.advanceCq k = { s with regs := vregs, mb := vmb } := by
  unfold State.advanceCq; dsimp only
  obtain ⟨r, h⟩ := s.wr_frame (qpReg k 0x18) (w32 (((s.rd (qpReg k 0x18)).toNat + 1) % s.cqLen k))
  rw [h]
  split
  · obtain ⟨b, h⟩ := State.flipPhase_frame { s with regs := r } k
    exact ⟨r, b, h⟩
  · exact ⟨r, s.mb, rfl⟩
@[simp] theorem State.advanceCq_mem (s : State) (k : Nat) : (s.advanceCq k).mem = s.mem := by obtain ⟨_, _, h⟩ := s.advanceCq_frame k; rw [h]
@[simp] theorem State.advanceCq_poison (s : State) (k : Nat) : (s.advanceCq k).poison = s.poison := by obtain ⟨_, _, h⟩ := s.advanceCq_frame k; rw [h]
@[simp] theorem State.advanceCq_bus (s : State) (k : Nat) : (s.advanceCq k).bus = s.bus := by obtain ⟨_, _, h⟩ := s.advanceCq_frame k; rw [h]
@[simp] theorem State.advanceCq_fresh (s : State) (k : Nat) : (s.advanceCq k).fresh = s.fresh := by obtain ⟨_, _, h⟩ := s.advanceCq_frame k; rw [h]
@[simp] theorem State.advanceCq_chip (s : State) (k : Nat) : (s.advanceCq k).chip = s.chip := by obtain ⟨_, _, h⟩ := s.advanceCq_frame k; rw [h]
@[simp] theorem State.advanceCq_cfg (s : State) (k : Nat) : (s.advanceCq k).cfg = s.cfg := by obtain ⟨_, _, h⟩ := s.advanceCq_frame k; rw [h]
@[simp] theorem State.advanceCq_cfgBytes (s : State) (k : Nat) : (s.advanceCq k).cfgBytes = s.cfgBytes := by obtain ⟨_, _, h⟩ := s.advanceCq_frame k; rw [h]
@[simp] theorem State.advanceCq_spi (s : State) (k : Nat) : (s.advanceCq k).spi = s.spi := by obtain ⟨_, _, h⟩ := s.advanceCq_frame k; rw [h]
@[simp] theorem State.advanceCq_acc (s : State) (k : Nat) : (s.advanceCq k).acc = s.acc := by obtain ⟨_, _, h⟩ := s.advanceCq_frame k; rw [h]
@[simp] theorem State.advanceCq_fault (s : State) (k : Nat) : (s.advanceCq k).fault = s.fault := by obtain ⟨_, _, h⟩ := s.advanceCq_frame k; rw [h]
@[simp] theorem State.advanceCq_log (s : State) (k : Nat) : (s.advanceCq k).log = s.log := by obtain ⟨_, _, h⟩ := s.advanceCq_frame k; rw [h]
@[simp] theorem State.advanceCq_boot (s : State) (k : Nat) : (s.advanceCq k).boot = s.boot := by obtain ⟨_, _, h⟩ := s.advanceCq_frame k; rw [h]
@[simp] theorem State.advanceCq_key (s : State) (k : Nat) : (s.advanceCq k).key = s.key := by obtain ⟨_, _, h⟩ := s.advanceCq_frame k; rw [h]
@[simp] theorem State.advanceCq_jtag (s : State) (k : Nat) : (s.advanceCq k).jtag = s.jtag := by obtain ⟨_, _, h⟩ := s.advanceCq_frame k; rw [h]
@[simp] theorem State.advanceCq_pwr (s : State) (k : Nat) : (s.advanceCq k).pwr = s.pwr := by obtain ⟨_, _, h⟩ := s.advanceCq_frame k; rw [h]
@[simp] theorem State.advanceCq_time (s : State) (k : Nat) : (s.advanceCq k).time = s.time := by obtain ⟨_, _, h⟩ := s.advanceCq_frame k; rw [h]
@[simp] theorem State.advanceCq_pair (s : State) (k : Nat) : (s.advanceCq k).pair = s.pair := by obtain ⟨_, _, h⟩ := s.advanceCq_frame k; rw [h]
@[simp] theorem State.advanceCq_port (s : State) (k : Nat) : (s.advanceCq k).port = s.port := by obtain ⟨_, _, h⟩ := s.advanceCq_frame k; rw [h]
@[simp] theorem State.advanceCq_cyc (s : State) (k : Nat) : (s.advanceCq k).cyc = s.cyc := by obtain ⟨_, _, h⟩ := s.advanceCq_frame k; rw [h]
@[simp] theorem State.advanceCq_solv (s : State) (k : Nat) : (s.advanceCq k).solv = s.solv := by obtain ⟨_, _, h⟩ := s.advanceCq_frame k; rw [h]
@[simp] theorem State.advanceCq_io (s : State) (k : Nat) : (s.advanceCq k).io = s.io := by obtain ⟨_, _, h⟩ := s.advanceCq_frame k; rw [h]
@[simp] theorem State.advanceCq_loop (s : State) (k : Nat) : (s.advanceCq k).loop = s.loop := by obtain ⟨_, _, h⟩ := s.advanceCq_frame k; rw [h]
@[simp] theorem State.advanceCq_drift (s : State) (k : Nat) : (s.advanceCq k).drift = s.drift := by obtain ⟨_, _, h⟩ := s.advanceCq_frame k; rw [h]
@[simp] theorem State.advanceCq_mtr (s : State) (k : Nat) : (s.advanceCq k).mtr = s.mtr := by obtain ⟨_, _, h⟩ := s.advanceCq_frame k; rw [h]
@[simp] theorem State.advanceCq_cal (s : State) (k : Nat) : (s.advanceCq k).cal = s.cal := by obtain ⟨_, _, h⟩ := s.advanceCq_frame k; rw [h]
@[simp] theorem State.advanceCq_halves (s : State) (k : Nat) : (s.advanceCq k).halves = s.halves := by obtain ⟨_, _, h⟩ := s.advanceCq_frame k; rw [h]
@[simp] theorem State.advanceCq_pending (s : State) (k : Nat) : (s.advanceCq k).pending = s.pending := by obtain ⟨_, _, h⟩ := s.advanceCq_frame k; rw [h]

/-- What it may change. -/
theorem State.raiseQp_frame (s : State) (k : Nat) (q : Bool) : ∃ vregs vmb, s.raiseQp k q = { s with regs := vregs, mb := vmb } := by
  unfold State.raiseQp; split
  · exact ⟨s.regs, s.mb, rfl⟩
  · exact s.rawEvent_frame _
@[simp] theorem State.raiseQp_mem (s : State) (k : Nat) (q : Bool) : (s.raiseQp k q).mem = s.mem := by obtain ⟨_, _, h⟩ := s.raiseQp_frame k q; rw [h]
@[simp] theorem State.raiseQp_poison (s : State) (k : Nat) (q : Bool) : (s.raiseQp k q).poison = s.poison := by obtain ⟨_, _, h⟩ := s.raiseQp_frame k q; rw [h]
@[simp] theorem State.raiseQp_bus (s : State) (k : Nat) (q : Bool) : (s.raiseQp k q).bus = s.bus := by obtain ⟨_, _, h⟩ := s.raiseQp_frame k q; rw [h]
@[simp] theorem State.raiseQp_fresh (s : State) (k : Nat) (q : Bool) : (s.raiseQp k q).fresh = s.fresh := by obtain ⟨_, _, h⟩ := s.raiseQp_frame k q; rw [h]
@[simp] theorem State.raiseQp_chip (s : State) (k : Nat) (q : Bool) : (s.raiseQp k q).chip = s.chip := by obtain ⟨_, _, h⟩ := s.raiseQp_frame k q; rw [h]
@[simp] theorem State.raiseQp_cfg (s : State) (k : Nat) (q : Bool) : (s.raiseQp k q).cfg = s.cfg := by obtain ⟨_, _, h⟩ := s.raiseQp_frame k q; rw [h]
@[simp] theorem State.raiseQp_cfgBytes (s : State) (k : Nat) (q : Bool) : (s.raiseQp k q).cfgBytes = s.cfgBytes := by obtain ⟨_, _, h⟩ := s.raiseQp_frame k q; rw [h]
@[simp] theorem State.raiseQp_spi (s : State) (k : Nat) (q : Bool) : (s.raiseQp k q).spi = s.spi := by obtain ⟨_, _, h⟩ := s.raiseQp_frame k q; rw [h]
@[simp] theorem State.raiseQp_acc (s : State) (k : Nat) (q : Bool) : (s.raiseQp k q).acc = s.acc := by obtain ⟨_, _, h⟩ := s.raiseQp_frame k q; rw [h]
@[simp] theorem State.raiseQp_fault (s : State) (k : Nat) (q : Bool) : (s.raiseQp k q).fault = s.fault := by obtain ⟨_, _, h⟩ := s.raiseQp_frame k q; rw [h]
@[simp] theorem State.raiseQp_log (s : State) (k : Nat) (q : Bool) : (s.raiseQp k q).log = s.log := by obtain ⟨_, _, h⟩ := s.raiseQp_frame k q; rw [h]
@[simp] theorem State.raiseQp_boot (s : State) (k : Nat) (q : Bool) : (s.raiseQp k q).boot = s.boot := by obtain ⟨_, _, h⟩ := s.raiseQp_frame k q; rw [h]
@[simp] theorem State.raiseQp_key (s : State) (k : Nat) (q : Bool) : (s.raiseQp k q).key = s.key := by obtain ⟨_, _, h⟩ := s.raiseQp_frame k q; rw [h]
@[simp] theorem State.raiseQp_jtag (s : State) (k : Nat) (q : Bool) : (s.raiseQp k q).jtag = s.jtag := by obtain ⟨_, _, h⟩ := s.raiseQp_frame k q; rw [h]
@[simp] theorem State.raiseQp_pwr (s : State) (k : Nat) (q : Bool) : (s.raiseQp k q).pwr = s.pwr := by obtain ⟨_, _, h⟩ := s.raiseQp_frame k q; rw [h]
@[simp] theorem State.raiseQp_time (s : State) (k : Nat) (q : Bool) : (s.raiseQp k q).time = s.time := by obtain ⟨_, _, h⟩ := s.raiseQp_frame k q; rw [h]
@[simp] theorem State.raiseQp_pair (s : State) (k : Nat) (q : Bool) : (s.raiseQp k q).pair = s.pair := by obtain ⟨_, _, h⟩ := s.raiseQp_frame k q; rw [h]
@[simp] theorem State.raiseQp_port (s : State) (k : Nat) (q : Bool) : (s.raiseQp k q).port = s.port := by obtain ⟨_, _, h⟩ := s.raiseQp_frame k q; rw [h]
@[simp] theorem State.raiseQp_cyc (s : State) (k : Nat) (q : Bool) : (s.raiseQp k q).cyc = s.cyc := by obtain ⟨_, _, h⟩ := s.raiseQp_frame k q; rw [h]
@[simp] theorem State.raiseQp_solv (s : State) (k : Nat) (q : Bool) : (s.raiseQp k q).solv = s.solv := by obtain ⟨_, _, h⟩ := s.raiseQp_frame k q; rw [h]
@[simp] theorem State.raiseQp_io (s : State) (k : Nat) (q : Bool) : (s.raiseQp k q).io = s.io := by obtain ⟨_, _, h⟩ := s.raiseQp_frame k q; rw [h]
@[simp] theorem State.raiseQp_loop (s : State) (k : Nat) (q : Bool) : (s.raiseQp k q).loop = s.loop := by obtain ⟨_, _, h⟩ := s.raiseQp_frame k q; rw [h]
@[simp] theorem State.raiseQp_drift (s : State) (k : Nat) (q : Bool) : (s.raiseQp k q).drift = s.drift := by obtain ⟨_, _, h⟩ := s.raiseQp_frame k q; rw [h]
@[simp] theorem State.raiseQp_mtr (s : State) (k : Nat) (q : Bool) : (s.raiseQp k q).mtr = s.mtr := by obtain ⟨_, _, h⟩ := s.raiseQp_frame k q; rw [h]
@[simp] theorem State.raiseQp_cal (s : State) (k : Nat) (q : Bool) : (s.raiseQp k q).cal = s.cal := by obtain ⟨_, _, h⟩ := s.raiseQp_frame k q; rw [h]
@[simp] theorem State.raiseQp_halves (s : State) (k : Nat) (q : Bool) : (s.raiseQp k q).halves = s.halves := by obtain ⟨_, _, h⟩ := s.raiseQp_frame k q; rw [h]
@[simp] theorem State.raiseQp_pending (s : State) (k : Nat) (q : Bool) : (s.raiseQp k q).pending = s.pending := by obtain ⟨_, _, h⟩ := s.raiseQp_frame k q; rw [h]

/-- What it may change. -/
theorem State.postCq_frame (s : State) (k : Nat) (i : Issue) (st : Nat) (x y z : W32) : ∃ vmem vpoison vpair vregs vmb, s.postCq k i st x y z = { s with mem := vmem, poison := vpoison, pair := vpair, regs := vregs, mb := vmb } := by
  unfold State.postCq
  obtain ⟨m, p, d, h⟩ := s.wrMem_frame (s.cqSlot k) (cqEntry i.tag (s.mb.phase.getLsbD k) st x y z)
  rw [h]
  obtain ⟨r, b, h⟩ := State.advanceCq_frame { s with mem := m, poison := p, pair := d } k
  rw [h]
  obtain ⟨r, b, h⟩ := State.raiseQp_frame { s with mem := m, poison := p, pair := d, regs := r, mb := b } k i.noirq
  exact ⟨m, p, d, r, b, h⟩
@[simp] theorem State.postCq_bus (s : State) (k : Nat) (i : Issue) (st : Nat) (x y z : W32) : (s.postCq k i st x y z).bus = s.bus := by obtain ⟨_, _, _, _, _, h⟩ := s.postCq_frame k i st x y z; rw [h]
@[simp] theorem State.postCq_fresh (s : State) (k : Nat) (i : Issue) (st : Nat) (x y z : W32) : (s.postCq k i st x y z).fresh = s.fresh := by obtain ⟨_, _, _, _, _, h⟩ := s.postCq_frame k i st x y z; rw [h]
@[simp] theorem State.postCq_chip (s : State) (k : Nat) (i : Issue) (st : Nat) (x y z : W32) : (s.postCq k i st x y z).chip = s.chip := by obtain ⟨_, _, _, _, _, h⟩ := s.postCq_frame k i st x y z; rw [h]
@[simp] theorem State.postCq_cfg (s : State) (k : Nat) (i : Issue) (st : Nat) (x y z : W32) : (s.postCq k i st x y z).cfg = s.cfg := by obtain ⟨_, _, _, _, _, h⟩ := s.postCq_frame k i st x y z; rw [h]
@[simp] theorem State.postCq_cfgBytes (s : State) (k : Nat) (i : Issue) (st : Nat) (x y z : W32) : (s.postCq k i st x y z).cfgBytes = s.cfgBytes := by obtain ⟨_, _, _, _, _, h⟩ := s.postCq_frame k i st x y z; rw [h]
@[simp] theorem State.postCq_spi (s : State) (k : Nat) (i : Issue) (st : Nat) (x y z : W32) : (s.postCq k i st x y z).spi = s.spi := by obtain ⟨_, _, _, _, _, h⟩ := s.postCq_frame k i st x y z; rw [h]
@[simp] theorem State.postCq_acc (s : State) (k : Nat) (i : Issue) (st : Nat) (x y z : W32) : (s.postCq k i st x y z).acc = s.acc := by obtain ⟨_, _, _, _, _, h⟩ := s.postCq_frame k i st x y z; rw [h]
@[simp] theorem State.postCq_fault (s : State) (k : Nat) (i : Issue) (st : Nat) (x y z : W32) : (s.postCq k i st x y z).fault = s.fault := by obtain ⟨_, _, _, _, _, h⟩ := s.postCq_frame k i st x y z; rw [h]
@[simp] theorem State.postCq_log (s : State) (k : Nat) (i : Issue) (st : Nat) (x y z : W32) : (s.postCq k i st x y z).log = s.log := by obtain ⟨_, _, _, _, _, h⟩ := s.postCq_frame k i st x y z; rw [h]
@[simp] theorem State.postCq_boot (s : State) (k : Nat) (i : Issue) (st : Nat) (x y z : W32) : (s.postCq k i st x y z).boot = s.boot := by obtain ⟨_, _, _, _, _, h⟩ := s.postCq_frame k i st x y z; rw [h]
@[simp] theorem State.postCq_key (s : State) (k : Nat) (i : Issue) (st : Nat) (x y z : W32) : (s.postCq k i st x y z).key = s.key := by obtain ⟨_, _, _, _, _, h⟩ := s.postCq_frame k i st x y z; rw [h]
@[simp] theorem State.postCq_jtag (s : State) (k : Nat) (i : Issue) (st : Nat) (x y z : W32) : (s.postCq k i st x y z).jtag = s.jtag := by obtain ⟨_, _, _, _, _, h⟩ := s.postCq_frame k i st x y z; rw [h]
@[simp] theorem State.postCq_pwr (s : State) (k : Nat) (i : Issue) (st : Nat) (x y z : W32) : (s.postCq k i st x y z).pwr = s.pwr := by obtain ⟨_, _, _, _, _, h⟩ := s.postCq_frame k i st x y z; rw [h]
@[simp] theorem State.postCq_time (s : State) (k : Nat) (i : Issue) (st : Nat) (x y z : W32) : (s.postCq k i st x y z).time = s.time := by obtain ⟨_, _, _, _, _, h⟩ := s.postCq_frame k i st x y z; rw [h]
@[simp] theorem State.postCq_port (s : State) (k : Nat) (i : Issue) (st : Nat) (x y z : W32) : (s.postCq k i st x y z).port = s.port := by obtain ⟨_, _, _, _, _, h⟩ := s.postCq_frame k i st x y z; rw [h]
@[simp] theorem State.postCq_cyc (s : State) (k : Nat) (i : Issue) (st : Nat) (x y z : W32) : (s.postCq k i st x y z).cyc = s.cyc := by obtain ⟨_, _, _, _, _, h⟩ := s.postCq_frame k i st x y z; rw [h]
@[simp] theorem State.postCq_solv (s : State) (k : Nat) (i : Issue) (st : Nat) (x y z : W32) : (s.postCq k i st x y z).solv = s.solv := by obtain ⟨_, _, _, _, _, h⟩ := s.postCq_frame k i st x y z; rw [h]
@[simp] theorem State.postCq_io (s : State) (k : Nat) (i : Issue) (st : Nat) (x y z : W32) : (s.postCq k i st x y z).io = s.io := by obtain ⟨_, _, _, _, _, h⟩ := s.postCq_frame k i st x y z; rw [h]
@[simp] theorem State.postCq_loop (s : State) (k : Nat) (i : Issue) (st : Nat) (x y z : W32) : (s.postCq k i st x y z).loop = s.loop := by obtain ⟨_, _, _, _, _, h⟩ := s.postCq_frame k i st x y z; rw [h]
@[simp] theorem State.postCq_drift (s : State) (k : Nat) (i : Issue) (st : Nat) (x y z : W32) : (s.postCq k i st x y z).drift = s.drift := by obtain ⟨_, _, _, _, _, h⟩ := s.postCq_frame k i st x y z; rw [h]
@[simp] theorem State.postCq_mtr (s : State) (k : Nat) (i : Issue) (st : Nat) (x y z : W32) : (s.postCq k i st x y z).mtr = s.mtr := by obtain ⟨_, _, _, _, _, h⟩ := s.postCq_frame k i st x y z; rw [h]
@[simp] theorem State.postCq_cal (s : State) (k : Nat) (i : Issue) (st : Nat) (x y z : W32) : (s.postCq k i st x y z).cal = s.cal := by obtain ⟨_, _, _, _, _, h⟩ := s.postCq_frame k i st x y z; rw [h]
@[simp] theorem State.postCq_halves (s : State) (k : Nat) (i : Issue) (st : Nat) (x y z : W32) : (s.postCq k i st x y z).halves = s.halves := by obtain ⟨_, _, _, _, _, h⟩ := s.postCq_frame k i st x y z; rw [h]
@[simp] theorem State.postCq_pending (s : State) (k : Nat) (i : Issue) (st : Nat) (x y z : W32) : (s.postCq k i st x y z).pending = s.pending := by obtain ⟨_, _, _, _, _, h⟩ := s.postCq_frame k i st x y z; rw [h]

/-- What it may change. -/
theorem State.postImm_frame (s : State) (i : Issue) (st : Nat) (x y z : W32) : ∃ vregs vmb, s.postImm i st x y z = { s with regs := vregs, mb := vmb } := by
  unfold State.postImm; dsimp only
  obtain ⟨r, h⟩ := s.wrAll_frame ((List.range 4).map fun j => (0x11FF0 + 4 * j, w32 (leAt (cqEntry i.tag false st x y z) (4 * j) 4)))
  rw [h]
  obtain ⟨r1, h⟩ := State.setBit_frame { s with regs := r } 0x10048 2 false
  rw [h]
  obtain ⟨r2, h⟩ := State.setBit_frame { s with regs := r1 } 0x10048 1 true
  rw [h]
  split
  · exact ⟨r2, s.mb, rfl⟩
  · obtain ⟨q, b, e⟩ := State.event_frame { s with regs := r2 } 9
    exact ⟨q, b, e⟩
@[simp] theorem State.postImm_mem (s : State) (i : Issue) (st : Nat) (x y z : W32) : (s.postImm i st x y z).mem = s.mem := by obtain ⟨_, _, h⟩ := s.postImm_frame i st x y z; rw [h]
@[simp] theorem State.postImm_poison (s : State) (i : Issue) (st : Nat) (x y z : W32) : (s.postImm i st x y z).poison = s.poison := by obtain ⟨_, _, h⟩ := s.postImm_frame i st x y z; rw [h]
@[simp] theorem State.postImm_bus (s : State) (i : Issue) (st : Nat) (x y z : W32) : (s.postImm i st x y z).bus = s.bus := by obtain ⟨_, _, h⟩ := s.postImm_frame i st x y z; rw [h]
@[simp] theorem State.postImm_fresh (s : State) (i : Issue) (st : Nat) (x y z : W32) : (s.postImm i st x y z).fresh = s.fresh := by obtain ⟨_, _, h⟩ := s.postImm_frame i st x y z; rw [h]
@[simp] theorem State.postImm_chip (s : State) (i : Issue) (st : Nat) (x y z : W32) : (s.postImm i st x y z).chip = s.chip := by obtain ⟨_, _, h⟩ := s.postImm_frame i st x y z; rw [h]
@[simp] theorem State.postImm_cfg (s : State) (i : Issue) (st : Nat) (x y z : W32) : (s.postImm i st x y z).cfg = s.cfg := by obtain ⟨_, _, h⟩ := s.postImm_frame i st x y z; rw [h]
@[simp] theorem State.postImm_cfgBytes (s : State) (i : Issue) (st : Nat) (x y z : W32) : (s.postImm i st x y z).cfgBytes = s.cfgBytes := by obtain ⟨_, _, h⟩ := s.postImm_frame i st x y z; rw [h]
@[simp] theorem State.postImm_spi (s : State) (i : Issue) (st : Nat) (x y z : W32) : (s.postImm i st x y z).spi = s.spi := by obtain ⟨_, _, h⟩ := s.postImm_frame i st x y z; rw [h]
@[simp] theorem State.postImm_acc (s : State) (i : Issue) (st : Nat) (x y z : W32) : (s.postImm i st x y z).acc = s.acc := by obtain ⟨_, _, h⟩ := s.postImm_frame i st x y z; rw [h]
@[simp] theorem State.postImm_fault (s : State) (i : Issue) (st : Nat) (x y z : W32) : (s.postImm i st x y z).fault = s.fault := by obtain ⟨_, _, h⟩ := s.postImm_frame i st x y z; rw [h]
@[simp] theorem State.postImm_log (s : State) (i : Issue) (st : Nat) (x y z : W32) : (s.postImm i st x y z).log = s.log := by obtain ⟨_, _, h⟩ := s.postImm_frame i st x y z; rw [h]
@[simp] theorem State.postImm_boot (s : State) (i : Issue) (st : Nat) (x y z : W32) : (s.postImm i st x y z).boot = s.boot := by obtain ⟨_, _, h⟩ := s.postImm_frame i st x y z; rw [h]
@[simp] theorem State.postImm_key (s : State) (i : Issue) (st : Nat) (x y z : W32) : (s.postImm i st x y z).key = s.key := by obtain ⟨_, _, h⟩ := s.postImm_frame i st x y z; rw [h]
@[simp] theorem State.postImm_jtag (s : State) (i : Issue) (st : Nat) (x y z : W32) : (s.postImm i st x y z).jtag = s.jtag := by obtain ⟨_, _, h⟩ := s.postImm_frame i st x y z; rw [h]
@[simp] theorem State.postImm_pwr (s : State) (i : Issue) (st : Nat) (x y z : W32) : (s.postImm i st x y z).pwr = s.pwr := by obtain ⟨_, _, h⟩ := s.postImm_frame i st x y z; rw [h]
@[simp] theorem State.postImm_time (s : State) (i : Issue) (st : Nat) (x y z : W32) : (s.postImm i st x y z).time = s.time := by obtain ⟨_, _, h⟩ := s.postImm_frame i st x y z; rw [h]
@[simp] theorem State.postImm_pair (s : State) (i : Issue) (st : Nat) (x y z : W32) : (s.postImm i st x y z).pair = s.pair := by obtain ⟨_, _, h⟩ := s.postImm_frame i st x y z; rw [h]
@[simp] theorem State.postImm_port (s : State) (i : Issue) (st : Nat) (x y z : W32) : (s.postImm i st x y z).port = s.port := by obtain ⟨_, _, h⟩ := s.postImm_frame i st x y z; rw [h]
@[simp] theorem State.postImm_cyc (s : State) (i : Issue) (st : Nat) (x y z : W32) : (s.postImm i st x y z).cyc = s.cyc := by obtain ⟨_, _, h⟩ := s.postImm_frame i st x y z; rw [h]
@[simp] theorem State.postImm_solv (s : State) (i : Issue) (st : Nat) (x y z : W32) : (s.postImm i st x y z).solv = s.solv := by obtain ⟨_, _, h⟩ := s.postImm_frame i st x y z; rw [h]
@[simp] theorem State.postImm_io (s : State) (i : Issue) (st : Nat) (x y z : W32) : (s.postImm i st x y z).io = s.io := by obtain ⟨_, _, h⟩ := s.postImm_frame i st x y z; rw [h]
@[simp] theorem State.postImm_loop (s : State) (i : Issue) (st : Nat) (x y z : W32) : (s.postImm i st x y z).loop = s.loop := by obtain ⟨_, _, h⟩ := s.postImm_frame i st x y z; rw [h]
@[simp] theorem State.postImm_drift (s : State) (i : Issue) (st : Nat) (x y z : W32) : (s.postImm i st x y z).drift = s.drift := by obtain ⟨_, _, h⟩ := s.postImm_frame i st x y z; rw [h]
@[simp] theorem State.postImm_mtr (s : State) (i : Issue) (st : Nat) (x y z : W32) : (s.postImm i st x y z).mtr = s.mtr := by obtain ⟨_, _, h⟩ := s.postImm_frame i st x y z; rw [h]
@[simp] theorem State.postImm_cal (s : State) (i : Issue) (st : Nat) (x y z : W32) : (s.postImm i st x y z).cal = s.cal := by obtain ⟨_, _, h⟩ := s.postImm_frame i st x y z; rw [h]
@[simp] theorem State.postImm_halves (s : State) (i : Issue) (st : Nat) (x y z : W32) : (s.postImm i st x y z).halves = s.halves := by obtain ⟨_, _, h⟩ := s.postImm_frame i st x y z; rw [h]
@[simp] theorem State.postImm_pending (s : State) (i : Issue) (st : Nat) (x y z : W32) : (s.postImm i st x y z).pending = s.pending := by obtain ⟨_, _, h⟩ := s.postImm_frame i st x y z; rw [h]

/-- What it may change. -/
theorem State.complete_frame (s : State) (i : Issue) (st : Nat) (x y z : W32) : ∃ vmem vpoison vpair vregs vmb, s.complete i st x y z = { s with mem := vmem, poison := vpoison, pair := vpair, regs := vregs, mb := vmb } := by
  unfold State.complete; dsimp only
  obtain ⟨b, h⟩ := s.formed_frame ⟨i.src, i.tag, st, x, y, z⟩
  rw [h]
  split
  · obtain ⟨r, b, e⟩ := State.postImm_frame { s with mb := b } i st x y z
    exact ⟨s.mem, s.poison, s.pair, r, b, e⟩
  · exact ⟨s.mem, s.poison, s.pair, s.regs, b, rfl⟩
  · split
    · obtain ⟨m, p, d, r, b, e⟩ := State.postCq_frame { s with mb := b } _ i st x y z
      exact ⟨m, p, d, r, b, e⟩
    · exact ⟨s.mem, s.poison, s.pair, s.regs, b, rfl⟩
@[simp] theorem State.complete_bus (s : State) (i : Issue) (st : Nat) (x y z : W32) : (s.complete i st x y z).bus = s.bus := by obtain ⟨_, _, _, _, _, h⟩ := s.complete_frame i st x y z; rw [h]
@[simp] theorem State.complete_fresh (s : State) (i : Issue) (st : Nat) (x y z : W32) : (s.complete i st x y z).fresh = s.fresh := by obtain ⟨_, _, _, _, _, h⟩ := s.complete_frame i st x y z; rw [h]
@[simp] theorem State.complete_chip (s : State) (i : Issue) (st : Nat) (x y z : W32) : (s.complete i st x y z).chip = s.chip := by obtain ⟨_, _, _, _, _, h⟩ := s.complete_frame i st x y z; rw [h]
@[simp] theorem State.complete_cfg (s : State) (i : Issue) (st : Nat) (x y z : W32) : (s.complete i st x y z).cfg = s.cfg := by obtain ⟨_, _, _, _, _, h⟩ := s.complete_frame i st x y z; rw [h]
@[simp] theorem State.complete_cfgBytes (s : State) (i : Issue) (st : Nat) (x y z : W32) : (s.complete i st x y z).cfgBytes = s.cfgBytes := by obtain ⟨_, _, _, _, _, h⟩ := s.complete_frame i st x y z; rw [h]
@[simp] theorem State.complete_spi (s : State) (i : Issue) (st : Nat) (x y z : W32) : (s.complete i st x y z).spi = s.spi := by obtain ⟨_, _, _, _, _, h⟩ := s.complete_frame i st x y z; rw [h]
@[simp] theorem State.complete_acc (s : State) (i : Issue) (st : Nat) (x y z : W32) : (s.complete i st x y z).acc = s.acc := by obtain ⟨_, _, _, _, _, h⟩ := s.complete_frame i st x y z; rw [h]
@[simp] theorem State.complete_fault (s : State) (i : Issue) (st : Nat) (x y z : W32) : (s.complete i st x y z).fault = s.fault := by obtain ⟨_, _, _, _, _, h⟩ := s.complete_frame i st x y z; rw [h]
@[simp] theorem State.complete_log (s : State) (i : Issue) (st : Nat) (x y z : W32) : (s.complete i st x y z).log = s.log := by obtain ⟨_, _, _, _, _, h⟩ := s.complete_frame i st x y z; rw [h]
@[simp] theorem State.complete_boot (s : State) (i : Issue) (st : Nat) (x y z : W32) : (s.complete i st x y z).boot = s.boot := by obtain ⟨_, _, _, _, _, h⟩ := s.complete_frame i st x y z; rw [h]
@[simp] theorem State.complete_key (s : State) (i : Issue) (st : Nat) (x y z : W32) : (s.complete i st x y z).key = s.key := by obtain ⟨_, _, _, _, _, h⟩ := s.complete_frame i st x y z; rw [h]
@[simp] theorem State.complete_jtag (s : State) (i : Issue) (st : Nat) (x y z : W32) : (s.complete i st x y z).jtag = s.jtag := by obtain ⟨_, _, _, _, _, h⟩ := s.complete_frame i st x y z; rw [h]
@[simp] theorem State.complete_pwr (s : State) (i : Issue) (st : Nat) (x y z : W32) : (s.complete i st x y z).pwr = s.pwr := by obtain ⟨_, _, _, _, _, h⟩ := s.complete_frame i st x y z; rw [h]
@[simp] theorem State.complete_time (s : State) (i : Issue) (st : Nat) (x y z : W32) : (s.complete i st x y z).time = s.time := by obtain ⟨_, _, _, _, _, h⟩ := s.complete_frame i st x y z; rw [h]
@[simp] theorem State.complete_port (s : State) (i : Issue) (st : Nat) (x y z : W32) : (s.complete i st x y z).port = s.port := by obtain ⟨_, _, _, _, _, h⟩ := s.complete_frame i st x y z; rw [h]
@[simp] theorem State.complete_cyc (s : State) (i : Issue) (st : Nat) (x y z : W32) : (s.complete i st x y z).cyc = s.cyc := by obtain ⟨_, _, _, _, _, h⟩ := s.complete_frame i st x y z; rw [h]
@[simp] theorem State.complete_solv (s : State) (i : Issue) (st : Nat) (x y z : W32) : (s.complete i st x y z).solv = s.solv := by obtain ⟨_, _, _, _, _, h⟩ := s.complete_frame i st x y z; rw [h]
@[simp] theorem State.complete_io (s : State) (i : Issue) (st : Nat) (x y z : W32) : (s.complete i st x y z).io = s.io := by obtain ⟨_, _, _, _, _, h⟩ := s.complete_frame i st x y z; rw [h]
@[simp] theorem State.complete_loop (s : State) (i : Issue) (st : Nat) (x y z : W32) : (s.complete i st x y z).loop = s.loop := by obtain ⟨_, _, _, _, _, h⟩ := s.complete_frame i st x y z; rw [h]
@[simp] theorem State.complete_drift (s : State) (i : Issue) (st : Nat) (x y z : W32) : (s.complete i st x y z).drift = s.drift := by obtain ⟨_, _, _, _, _, h⟩ := s.complete_frame i st x y z; rw [h]
@[simp] theorem State.complete_mtr (s : State) (i : Issue) (st : Nat) (x y z : W32) : (s.complete i st x y z).mtr = s.mtr := by obtain ⟨_, _, _, _, _, h⟩ := s.complete_frame i st x y z; rw [h]
@[simp] theorem State.complete_cal (s : State) (i : Issue) (st : Nat) (x y z : W32) : (s.complete i st x y z).cal = s.cal := by obtain ⟨_, _, _, _, _, h⟩ := s.complete_frame i st x y z; rw [h]
@[simp] theorem State.complete_halves (s : State) (i : Issue) (st : Nat) (x y z : W32) : (s.complete i st x y z).halves = s.halves := by obtain ⟨_, _, _, _, _, h⟩ := s.complete_frame i st x y z; rw [h]
@[simp] theorem State.complete_pending (s : State) (i : Issue) (st : Nat) (x y z : W32) : (s.complete i st x y z).pending = s.pending := by obtain ⟨_, _, _, _, _, h⟩ := s.complete_frame i st x y z; rw [h]

/-- What it may change. -/
theorem State.done_frame (s : State) (i : Issue) (st : Nat) : ∃ vmem vpoison vpair vregs vmb, s.done i st = { s with mem := vmem, poison := vpoison, pair := vpair, regs := vregs, mb := vmb } := by
  exact s.complete_frame i st 0 0 0
@[simp] theorem State.done_bus (s : State) (i : Issue) (st : Nat) : (s.done i st).bus = s.bus := by obtain ⟨_, _, _, _, _, h⟩ := s.done_frame i st; rw [h]
@[simp] theorem State.done_fresh (s : State) (i : Issue) (st : Nat) : (s.done i st).fresh = s.fresh := by obtain ⟨_, _, _, _, _, h⟩ := s.done_frame i st; rw [h]
@[simp] theorem State.done_chip (s : State) (i : Issue) (st : Nat) : (s.done i st).chip = s.chip := by obtain ⟨_, _, _, _, _, h⟩ := s.done_frame i st; rw [h]
@[simp] theorem State.done_cfg (s : State) (i : Issue) (st : Nat) : (s.done i st).cfg = s.cfg := by obtain ⟨_, _, _, _, _, h⟩ := s.done_frame i st; rw [h]
@[simp] theorem State.done_cfgBytes (s : State) (i : Issue) (st : Nat) : (s.done i st).cfgBytes = s.cfgBytes := by obtain ⟨_, _, _, _, _, h⟩ := s.done_frame i st; rw [h]
@[simp] theorem State.done_spi (s : State) (i : Issue) (st : Nat) : (s.done i st).spi = s.spi := by obtain ⟨_, _, _, _, _, h⟩ := s.done_frame i st; rw [h]
@[simp] theorem State.done_acc (s : State) (i : Issue) (st : Nat) : (s.done i st).acc = s.acc := by obtain ⟨_, _, _, _, _, h⟩ := s.done_frame i st; rw [h]
@[simp] theorem State.done_fault (s : State) (i : Issue) (st : Nat) : (s.done i st).fault = s.fault := by obtain ⟨_, _, _, _, _, h⟩ := s.done_frame i st; rw [h]
@[simp] theorem State.done_log (s : State) (i : Issue) (st : Nat) : (s.done i st).log = s.log := by obtain ⟨_, _, _, _, _, h⟩ := s.done_frame i st; rw [h]
@[simp] theorem State.done_boot (s : State) (i : Issue) (st : Nat) : (s.done i st).boot = s.boot := by obtain ⟨_, _, _, _, _, h⟩ := s.done_frame i st; rw [h]
@[simp] theorem State.done_key (s : State) (i : Issue) (st : Nat) : (s.done i st).key = s.key := by obtain ⟨_, _, _, _, _, h⟩ := s.done_frame i st; rw [h]
@[simp] theorem State.done_jtag (s : State) (i : Issue) (st : Nat) : (s.done i st).jtag = s.jtag := by obtain ⟨_, _, _, _, _, h⟩ := s.done_frame i st; rw [h]
@[simp] theorem State.done_pwr (s : State) (i : Issue) (st : Nat) : (s.done i st).pwr = s.pwr := by obtain ⟨_, _, _, _, _, h⟩ := s.done_frame i st; rw [h]
@[simp] theorem State.done_time (s : State) (i : Issue) (st : Nat) : (s.done i st).time = s.time := by obtain ⟨_, _, _, _, _, h⟩ := s.done_frame i st; rw [h]
@[simp] theorem State.done_port (s : State) (i : Issue) (st : Nat) : (s.done i st).port = s.port := by obtain ⟨_, _, _, _, _, h⟩ := s.done_frame i st; rw [h]
@[simp] theorem State.done_cyc (s : State) (i : Issue) (st : Nat) : (s.done i st).cyc = s.cyc := by obtain ⟨_, _, _, _, _, h⟩ := s.done_frame i st; rw [h]
@[simp] theorem State.done_solv (s : State) (i : Issue) (st : Nat) : (s.done i st).solv = s.solv := by obtain ⟨_, _, _, _, _, h⟩ := s.done_frame i st; rw [h]
@[simp] theorem State.done_io (s : State) (i : Issue) (st : Nat) : (s.done i st).io = s.io := by obtain ⟨_, _, _, _, _, h⟩ := s.done_frame i st; rw [h]
@[simp] theorem State.done_loop (s : State) (i : Issue) (st : Nat) : (s.done i st).loop = s.loop := by obtain ⟨_, _, _, _, _, h⟩ := s.done_frame i st; rw [h]
@[simp] theorem State.done_drift (s : State) (i : Issue) (st : Nat) : (s.done i st).drift = s.drift := by obtain ⟨_, _, _, _, _, h⟩ := s.done_frame i st; rw [h]
@[simp] theorem State.done_mtr (s : State) (i : Issue) (st : Nat) : (s.done i st).mtr = s.mtr := by obtain ⟨_, _, _, _, _, h⟩ := s.done_frame i st; rw [h]
@[simp] theorem State.done_cal (s : State) (i : Issue) (st : Nat) : (s.done i st).cal = s.cal := by obtain ⟨_, _, _, _, _, h⟩ := s.done_frame i st; rw [h]
@[simp] theorem State.done_halves (s : State) (i : Issue) (st : Nat) : (s.done i st).halves = s.halves := by obtain ⟨_, _, _, _, _, h⟩ := s.done_frame i st; rw [h]
@[simp] theorem State.done_pending (s : State) (i : Issue) (st : Nat) : (s.done i st).pending = s.pending := by obtain ⟨_, _, _, _, _, h⟩ := s.done_frame i st; rw [h]

/-- What it may change. -/
theorem State.settlePair_frame (s : State) (k : Nat) : ∃ vregs, s.settlePair k = { s with regs := vregs } := by
  unfold State.settlePair; split
  · exact ⟨s.regs, rfl⟩
  · obtain ⟨r, h⟩ := s.setBit_frame (qpReg k 0x1C) 1 false
    rw [h]
    obtain ⟨r, h⟩ := State.setErr_frame { s with regs := r } k false
    rw [h]
    exact State.setFld_frame { s with regs := r } _ _ _ _
@[simp] theorem State.settlePair_mem (s : State) (k : Nat) : (s.settlePair k).mem = s.mem := by obtain ⟨_, h⟩ := s.settlePair_frame k; rw [h]
@[simp] theorem State.settlePair_poison (s : State) (k : Nat) : (s.settlePair k).poison = s.poison := by obtain ⟨_, h⟩ := s.settlePair_frame k; rw [h]
@[simp] theorem State.settlePair_bus (s : State) (k : Nat) : (s.settlePair k).bus = s.bus := by obtain ⟨_, h⟩ := s.settlePair_frame k; rw [h]
@[simp] theorem State.settlePair_fresh (s : State) (k : Nat) : (s.settlePair k).fresh = s.fresh := by obtain ⟨_, h⟩ := s.settlePair_frame k; rw [h]
@[simp] theorem State.settlePair_chip (s : State) (k : Nat) : (s.settlePair k).chip = s.chip := by obtain ⟨_, h⟩ := s.settlePair_frame k; rw [h]
@[simp] theorem State.settlePair_cfg (s : State) (k : Nat) : (s.settlePair k).cfg = s.cfg := by obtain ⟨_, h⟩ := s.settlePair_frame k; rw [h]
@[simp] theorem State.settlePair_cfgBytes (s : State) (k : Nat) : (s.settlePair k).cfgBytes = s.cfgBytes := by obtain ⟨_, h⟩ := s.settlePair_frame k; rw [h]
@[simp] theorem State.settlePair_mb (s : State) (k : Nat) : (s.settlePair k).mb = s.mb := by obtain ⟨_, h⟩ := s.settlePair_frame k; rw [h]
@[simp] theorem State.settlePair_spi (s : State) (k : Nat) : (s.settlePair k).spi = s.spi := by obtain ⟨_, h⟩ := s.settlePair_frame k; rw [h]
@[simp] theorem State.settlePair_acc (s : State) (k : Nat) : (s.settlePair k).acc = s.acc := by obtain ⟨_, h⟩ := s.settlePair_frame k; rw [h]
@[simp] theorem State.settlePair_fault (s : State) (k : Nat) : (s.settlePair k).fault = s.fault := by obtain ⟨_, h⟩ := s.settlePair_frame k; rw [h]
@[simp] theorem State.settlePair_log (s : State) (k : Nat) : (s.settlePair k).log = s.log := by obtain ⟨_, h⟩ := s.settlePair_frame k; rw [h]
@[simp] theorem State.settlePair_boot (s : State) (k : Nat) : (s.settlePair k).boot = s.boot := by obtain ⟨_, h⟩ := s.settlePair_frame k; rw [h]
@[simp] theorem State.settlePair_key (s : State) (k : Nat) : (s.settlePair k).key = s.key := by obtain ⟨_, h⟩ := s.settlePair_frame k; rw [h]
@[simp] theorem State.settlePair_jtag (s : State) (k : Nat) : (s.settlePair k).jtag = s.jtag := by obtain ⟨_, h⟩ := s.settlePair_frame k; rw [h]
@[simp] theorem State.settlePair_pwr (s : State) (k : Nat) : (s.settlePair k).pwr = s.pwr := by obtain ⟨_, h⟩ := s.settlePair_frame k; rw [h]
@[simp] theorem State.settlePair_time (s : State) (k : Nat) : (s.settlePair k).time = s.time := by obtain ⟨_, h⟩ := s.settlePair_frame k; rw [h]
@[simp] theorem State.settlePair_pair (s : State) (k : Nat) : (s.settlePair k).pair = s.pair := by obtain ⟨_, h⟩ := s.settlePair_frame k; rw [h]
@[simp] theorem State.settlePair_port (s : State) (k : Nat) : (s.settlePair k).port = s.port := by obtain ⟨_, h⟩ := s.settlePair_frame k; rw [h]
@[simp] theorem State.settlePair_cyc (s : State) (k : Nat) : (s.settlePair k).cyc = s.cyc := by obtain ⟨_, h⟩ := s.settlePair_frame k; rw [h]
@[simp] theorem State.settlePair_solv (s : State) (k : Nat) : (s.settlePair k).solv = s.solv := by obtain ⟨_, h⟩ := s.settlePair_frame k; rw [h]
@[simp] theorem State.settlePair_io (s : State) (k : Nat) : (s.settlePair k).io = s.io := by obtain ⟨_, h⟩ := s.settlePair_frame k; rw [h]
@[simp] theorem State.settlePair_loop (s : State) (k : Nat) : (s.settlePair k).loop = s.loop := by obtain ⟨_, h⟩ := s.settlePair_frame k; rw [h]
@[simp] theorem State.settlePair_drift (s : State) (k : Nat) : (s.settlePair k).drift = s.drift := by obtain ⟨_, h⟩ := s.settlePair_frame k; rw [h]
@[simp] theorem State.settlePair_mtr (s : State) (k : Nat) : (s.settlePair k).mtr = s.mtr := by obtain ⟨_, h⟩ := s.settlePair_frame k; rw [h]
@[simp] theorem State.settlePair_cal (s : State) (k : Nat) : (s.settlePair k).cal = s.cal := by obtain ⟨_, h⟩ := s.settlePair_frame k; rw [h]
@[simp] theorem State.settlePair_halves (s : State) (k : Nat) : (s.settlePair k).halves = s.halves := by obtain ⟨_, h⟩ := s.settlePair_frame k; rw [h]
@[simp] theorem State.settlePair_pending (s : State) (k : Nat) : (s.settlePair k).pending = s.pending := by obtain ⟨_, h⟩ := s.settlePair_frame k; rw [h]

/-- What it may change. -/
theorem State.settleSrc_frame (s : State) (c : CmdSrc) : ∃ vregs, s.settleSrc c = { s with regs := vregs } := by
  unfold State.settleSrc; split
  · exact s.settlePair_frame _
  · exact ⟨s.regs, rfl⟩
@[simp] theorem State.settleSrc_mem (s : State) (c : CmdSrc) : (s.settleSrc c).mem = s.mem := by obtain ⟨_, h⟩ := s.settleSrc_frame c; rw [h]
@[simp] theorem State.settleSrc_poison (s : State) (c : CmdSrc) : (s.settleSrc c).poison = s.poison := by obtain ⟨_, h⟩ := s.settleSrc_frame c; rw [h]
@[simp] theorem State.settleSrc_bus (s : State) (c : CmdSrc) : (s.settleSrc c).bus = s.bus := by obtain ⟨_, h⟩ := s.settleSrc_frame c; rw [h]
@[simp] theorem State.settleSrc_fresh (s : State) (c : CmdSrc) : (s.settleSrc c).fresh = s.fresh := by obtain ⟨_, h⟩ := s.settleSrc_frame c; rw [h]
@[simp] theorem State.settleSrc_chip (s : State) (c : CmdSrc) : (s.settleSrc c).chip = s.chip := by obtain ⟨_, h⟩ := s.settleSrc_frame c; rw [h]
@[simp] theorem State.settleSrc_cfg (s : State) (c : CmdSrc) : (s.settleSrc c).cfg = s.cfg := by obtain ⟨_, h⟩ := s.settleSrc_frame c; rw [h]
@[simp] theorem State.settleSrc_cfgBytes (s : State) (c : CmdSrc) : (s.settleSrc c).cfgBytes = s.cfgBytes := by obtain ⟨_, h⟩ := s.settleSrc_frame c; rw [h]
@[simp] theorem State.settleSrc_mb (s : State) (c : CmdSrc) : (s.settleSrc c).mb = s.mb := by obtain ⟨_, h⟩ := s.settleSrc_frame c; rw [h]
@[simp] theorem State.settleSrc_spi (s : State) (c : CmdSrc) : (s.settleSrc c).spi = s.spi := by obtain ⟨_, h⟩ := s.settleSrc_frame c; rw [h]
@[simp] theorem State.settleSrc_acc (s : State) (c : CmdSrc) : (s.settleSrc c).acc = s.acc := by obtain ⟨_, h⟩ := s.settleSrc_frame c; rw [h]
@[simp] theorem State.settleSrc_fault (s : State) (c : CmdSrc) : (s.settleSrc c).fault = s.fault := by obtain ⟨_, h⟩ := s.settleSrc_frame c; rw [h]
@[simp] theorem State.settleSrc_log (s : State) (c : CmdSrc) : (s.settleSrc c).log = s.log := by obtain ⟨_, h⟩ := s.settleSrc_frame c; rw [h]
@[simp] theorem State.settleSrc_boot (s : State) (c : CmdSrc) : (s.settleSrc c).boot = s.boot := by obtain ⟨_, h⟩ := s.settleSrc_frame c; rw [h]
@[simp] theorem State.settleSrc_key (s : State) (c : CmdSrc) : (s.settleSrc c).key = s.key := by obtain ⟨_, h⟩ := s.settleSrc_frame c; rw [h]
@[simp] theorem State.settleSrc_jtag (s : State) (c : CmdSrc) : (s.settleSrc c).jtag = s.jtag := by obtain ⟨_, h⟩ := s.settleSrc_frame c; rw [h]
@[simp] theorem State.settleSrc_pwr (s : State) (c : CmdSrc) : (s.settleSrc c).pwr = s.pwr := by obtain ⟨_, h⟩ := s.settleSrc_frame c; rw [h]
@[simp] theorem State.settleSrc_time (s : State) (c : CmdSrc) : (s.settleSrc c).time = s.time := by obtain ⟨_, h⟩ := s.settleSrc_frame c; rw [h]
@[simp] theorem State.settleSrc_pair (s : State) (c : CmdSrc) : (s.settleSrc c).pair = s.pair := by obtain ⟨_, h⟩ := s.settleSrc_frame c; rw [h]
@[simp] theorem State.settleSrc_port (s : State) (c : CmdSrc) : (s.settleSrc c).port = s.port := by obtain ⟨_, h⟩ := s.settleSrc_frame c; rw [h]
@[simp] theorem State.settleSrc_cyc (s : State) (c : CmdSrc) : (s.settleSrc c).cyc = s.cyc := by obtain ⟨_, h⟩ := s.settleSrc_frame c; rw [h]
@[simp] theorem State.settleSrc_solv (s : State) (c : CmdSrc) : (s.settleSrc c).solv = s.solv := by obtain ⟨_, h⟩ := s.settleSrc_frame c; rw [h]
@[simp] theorem State.settleSrc_io (s : State) (c : CmdSrc) : (s.settleSrc c).io = s.io := by obtain ⟨_, h⟩ := s.settleSrc_frame c; rw [h]
@[simp] theorem State.settleSrc_loop (s : State) (c : CmdSrc) : (s.settleSrc c).loop = s.loop := by obtain ⟨_, h⟩ := s.settleSrc_frame c; rw [h]
@[simp] theorem State.settleSrc_drift (s : State) (c : CmdSrc) : (s.settleSrc c).drift = s.drift := by obtain ⟨_, h⟩ := s.settleSrc_frame c; rw [h]
@[simp] theorem State.settleSrc_mtr (s : State) (c : CmdSrc) : (s.settleSrc c).mtr = s.mtr := by obtain ⟨_, h⟩ := s.settleSrc_frame c; rw [h]
@[simp] theorem State.settleSrc_cal (s : State) (c : CmdSrc) : (s.settleSrc c).cal = s.cal := by obtain ⟨_, h⟩ := s.settleSrc_frame c; rw [h]
@[simp] theorem State.settleSrc_halves (s : State) (c : CmdSrc) : (s.settleSrc c).halves = s.halves := by obtain ⟨_, h⟩ := s.settleSrc_frame c; rw [h]
@[simp] theorem State.settleSrc_pending (s : State) (c : CmdSrc) : (s.settleSrc c).pending = s.pending := by obtain ⟨_, h⟩ := s.settleSrc_frame c; rw [h]

/-- What it may change. -/
theorem State.finish_frame (s : State) (o : Outst) (st : Nat) (x y z : W32) : ∃ vmem vpoison vpair vregs vmb, s.finish o st x y z = { s with mem := vmem, poison := vpoison, pair := vpair, regs := vregs, mb := vmb } := by
  unfold State.finish; dsimp only
  obtain ⟨b, h⟩ := s.retireCmd_frame o
  rw [h]
  split
  · exact ⟨s.mem, s.poison, s.pair, s.regs, b, rfl⟩
  · obtain ⟨m, p, d, r, b, e⟩ := State.complete_frame { s with mb := b } o.iss st x y z
    rw [e]
    obtain ⟨q, h⟩ := State.settleSrc_frame { s with mem := m, poison := p, pair := d, regs := r, mb := b } o.iss.src
    exact ⟨m, p, d, q, b, h⟩
@[simp] theorem State.finish_bus (s : State) (o : Outst) (st : Nat) (x y z : W32) : (s.finish o st x y z).bus = s.bus := by obtain ⟨_, _, _, _, _, h⟩ := s.finish_frame o st x y z; rw [h]
@[simp] theorem State.finish_fresh (s : State) (o : Outst) (st : Nat) (x y z : W32) : (s.finish o st x y z).fresh = s.fresh := by obtain ⟨_, _, _, _, _, h⟩ := s.finish_frame o st x y z; rw [h]
@[simp] theorem State.finish_chip (s : State) (o : Outst) (st : Nat) (x y z : W32) : (s.finish o st x y z).chip = s.chip := by obtain ⟨_, _, _, _, _, h⟩ := s.finish_frame o st x y z; rw [h]
@[simp] theorem State.finish_cfg (s : State) (o : Outst) (st : Nat) (x y z : W32) : (s.finish o st x y z).cfg = s.cfg := by obtain ⟨_, _, _, _, _, h⟩ := s.finish_frame o st x y z; rw [h]
@[simp] theorem State.finish_cfgBytes (s : State) (o : Outst) (st : Nat) (x y z : W32) : (s.finish o st x y z).cfgBytes = s.cfgBytes := by obtain ⟨_, _, _, _, _, h⟩ := s.finish_frame o st x y z; rw [h]
@[simp] theorem State.finish_spi (s : State) (o : Outst) (st : Nat) (x y z : W32) : (s.finish o st x y z).spi = s.spi := by obtain ⟨_, _, _, _, _, h⟩ := s.finish_frame o st x y z; rw [h]
@[simp] theorem State.finish_acc (s : State) (o : Outst) (st : Nat) (x y z : W32) : (s.finish o st x y z).acc = s.acc := by obtain ⟨_, _, _, _, _, h⟩ := s.finish_frame o st x y z; rw [h]
@[simp] theorem State.finish_fault (s : State) (o : Outst) (st : Nat) (x y z : W32) : (s.finish o st x y z).fault = s.fault := by obtain ⟨_, _, _, _, _, h⟩ := s.finish_frame o st x y z; rw [h]
@[simp] theorem State.finish_log (s : State) (o : Outst) (st : Nat) (x y z : W32) : (s.finish o st x y z).log = s.log := by obtain ⟨_, _, _, _, _, h⟩ := s.finish_frame o st x y z; rw [h]
@[simp] theorem State.finish_boot (s : State) (o : Outst) (st : Nat) (x y z : W32) : (s.finish o st x y z).boot = s.boot := by obtain ⟨_, _, _, _, _, h⟩ := s.finish_frame o st x y z; rw [h]
@[simp] theorem State.finish_key (s : State) (o : Outst) (st : Nat) (x y z : W32) : (s.finish o st x y z).key = s.key := by obtain ⟨_, _, _, _, _, h⟩ := s.finish_frame o st x y z; rw [h]
@[simp] theorem State.finish_jtag (s : State) (o : Outst) (st : Nat) (x y z : W32) : (s.finish o st x y z).jtag = s.jtag := by obtain ⟨_, _, _, _, _, h⟩ := s.finish_frame o st x y z; rw [h]
@[simp] theorem State.finish_pwr (s : State) (o : Outst) (st : Nat) (x y z : W32) : (s.finish o st x y z).pwr = s.pwr := by obtain ⟨_, _, _, _, _, h⟩ := s.finish_frame o st x y z; rw [h]
@[simp] theorem State.finish_time (s : State) (o : Outst) (st : Nat) (x y z : W32) : (s.finish o st x y z).time = s.time := by obtain ⟨_, _, _, _, _, h⟩ := s.finish_frame o st x y z; rw [h]
@[simp] theorem State.finish_port (s : State) (o : Outst) (st : Nat) (x y z : W32) : (s.finish o st x y z).port = s.port := by obtain ⟨_, _, _, _, _, h⟩ := s.finish_frame o st x y z; rw [h]
@[simp] theorem State.finish_cyc (s : State) (o : Outst) (st : Nat) (x y z : W32) : (s.finish o st x y z).cyc = s.cyc := by obtain ⟨_, _, _, _, _, h⟩ := s.finish_frame o st x y z; rw [h]
@[simp] theorem State.finish_solv (s : State) (o : Outst) (st : Nat) (x y z : W32) : (s.finish o st x y z).solv = s.solv := by obtain ⟨_, _, _, _, _, h⟩ := s.finish_frame o st x y z; rw [h]
@[simp] theorem State.finish_io (s : State) (o : Outst) (st : Nat) (x y z : W32) : (s.finish o st x y z).io = s.io := by obtain ⟨_, _, _, _, _, h⟩ := s.finish_frame o st x y z; rw [h]
@[simp] theorem State.finish_loop (s : State) (o : Outst) (st : Nat) (x y z : W32) : (s.finish o st x y z).loop = s.loop := by obtain ⟨_, _, _, _, _, h⟩ := s.finish_frame o st x y z; rw [h]
@[simp] theorem State.finish_drift (s : State) (o : Outst) (st : Nat) (x y z : W32) : (s.finish o st x y z).drift = s.drift := by obtain ⟨_, _, _, _, _, h⟩ := s.finish_frame o st x y z; rw [h]
@[simp] theorem State.finish_mtr (s : State) (o : Outst) (st : Nat) (x y z : W32) : (s.finish o st x y z).mtr = s.mtr := by obtain ⟨_, _, _, _, _, h⟩ := s.finish_frame o st x y z; rw [h]
@[simp] theorem State.finish_cal (s : State) (o : Outst) (st : Nat) (x y z : W32) : (s.finish o st x y z).cal = s.cal := by obtain ⟨_, _, _, _, _, h⟩ := s.finish_frame o st x y z; rw [h]
@[simp] theorem State.finish_halves (s : State) (o : Outst) (st : Nat) (x y z : W32) : (s.finish o st x y z).halves = s.halves := by obtain ⟨_, _, _, _, _, h⟩ := s.finish_frame o st x y z; rw [h]
@[simp] theorem State.finish_pending (s : State) (o : Outst) (st : Nat) (x y z : W32) : (s.finish o st x y z).pending = s.pending := by obtain ⟨_, _, _, _, _, h⟩ := s.finish_frame o st x y z; rw [h]

@[simp] theorem State.startAsync_mem (s : State) (c : Instr) (i : Issue) (r : Nat) : (s.startAsync c i r).mem = s.mem := rfl
@[simp] theorem State.startAsync_regs (s : State) (c : Instr) (i : Issue) (r : Nat) : (s.startAsync c i r).regs = s.regs := rfl
@[simp] theorem State.startAsync_poison (s : State) (c : Instr) (i : Issue) (r : Nat) : (s.startAsync c i r).poison = s.poison := rfl
@[simp] theorem State.startAsync_bus (s : State) (c : Instr) (i : Issue) (r : Nat) : (s.startAsync c i r).bus = s.bus := rfl
@[simp] theorem State.startAsync_fresh (s : State) (c : Instr) (i : Issue) (r : Nat) : (s.startAsync c i r).fresh = s.fresh := rfl
@[simp] theorem State.startAsync_chip (s : State) (c : Instr) (i : Issue) (r : Nat) : (s.startAsync c i r).chip = s.chip := rfl
@[simp] theorem State.startAsync_cfg (s : State) (c : Instr) (i : Issue) (r : Nat) : (s.startAsync c i r).cfg = s.cfg := rfl
@[simp] theorem State.startAsync_cfgBytes (s : State) (c : Instr) (i : Issue) (r : Nat) : (s.startAsync c i r).cfgBytes = s.cfgBytes := rfl
@[simp] theorem State.startAsync_spi (s : State) (c : Instr) (i : Issue) (r : Nat) : (s.startAsync c i r).spi = s.spi := rfl
@[simp] theorem State.startAsync_acc (s : State) (c : Instr) (i : Issue) (r : Nat) : (s.startAsync c i r).acc = s.acc := rfl
@[simp] theorem State.startAsync_fault (s : State) (c : Instr) (i : Issue) (r : Nat) : (s.startAsync c i r).fault = s.fault := rfl
@[simp] theorem State.startAsync_log (s : State) (c : Instr) (i : Issue) (r : Nat) : (s.startAsync c i r).log = s.log := rfl
@[simp] theorem State.startAsync_boot (s : State) (c : Instr) (i : Issue) (r : Nat) : (s.startAsync c i r).boot = s.boot := rfl
@[simp] theorem State.startAsync_key (s : State) (c : Instr) (i : Issue) (r : Nat) : (s.startAsync c i r).key = s.key := rfl
@[simp] theorem State.startAsync_jtag (s : State) (c : Instr) (i : Issue) (r : Nat) : (s.startAsync c i r).jtag = s.jtag := rfl
@[simp] theorem State.startAsync_pwr (s : State) (c : Instr) (i : Issue) (r : Nat) : (s.startAsync c i r).pwr = s.pwr := rfl
@[simp] theorem State.startAsync_time (s : State) (c : Instr) (i : Issue) (r : Nat) : (s.startAsync c i r).time = s.time := rfl
@[simp] theorem State.startAsync_pair (s : State) (c : Instr) (i : Issue) (r : Nat) : (s.startAsync c i r).pair = s.pair := rfl
@[simp] theorem State.startAsync_port (s : State) (c : Instr) (i : Issue) (r : Nat) : (s.startAsync c i r).port = s.port := rfl
@[simp] theorem State.startAsync_cyc (s : State) (c : Instr) (i : Issue) (r : Nat) : (s.startAsync c i r).cyc = s.cyc := rfl
@[simp] theorem State.startAsync_solv (s : State) (c : Instr) (i : Issue) (r : Nat) : (s.startAsync c i r).solv = s.solv := rfl
@[simp] theorem State.startAsync_io (s : State) (c : Instr) (i : Issue) (r : Nat) : (s.startAsync c i r).io = s.io := rfl
@[simp] theorem State.startAsync_loop (s : State) (c : Instr) (i : Issue) (r : Nat) : (s.startAsync c i r).loop = s.loop := rfl
@[simp] theorem State.startAsync_drift (s : State) (c : Instr) (i : Issue) (r : Nat) : (s.startAsync c i r).drift = s.drift := rfl
@[simp] theorem State.startAsync_mtr (s : State) (c : Instr) (i : Issue) (r : Nat) : (s.startAsync c i r).mtr = s.mtr := rfl
@[simp] theorem State.startAsync_cal (s : State) (c : Instr) (i : Issue) (r : Nat) : (s.startAsync c i r).cal = s.cal := rfl
@[simp] theorem State.startAsync_halves (s : State) (c : Instr) (i : Issue) (r : Nat) : (s.startAsync c i r).halves = s.halves := rfl
@[simp] theorem State.startAsync_pending (s : State) (c : Instr) (i : Issue) (r : Nat) : (s.startAsync c i r).pending = s.pending := rfl
/-- What it may change. -/
theorem State.finishId_frame (s : State) (n st : Nat) (x y z : W32) : ∃ vmem vpoison vpair vregs vmb, s.finishId n st x y z = { s with mem := vmem, poison := vpoison, pair := vpair, regs := vregs, mb := vmb } := by
  unfold State.finishId; split
  · exact s.finish_frame _ st x y z
  · exact ⟨s.mem, s.poison, s.pair, s.regs, s.mb, rfl⟩
@[simp] theorem State.finishId_bus (s : State) (n st : Nat) (x y z : W32) : (s.finishId n st x y z).bus = s.bus := by obtain ⟨_, _, _, _, _, h⟩ := s.finishId_frame n st x y z; rw [h]
@[simp] theorem State.finishId_fresh (s : State) (n st : Nat) (x y z : W32) : (s.finishId n st x y z).fresh = s.fresh := by obtain ⟨_, _, _, _, _, h⟩ := s.finishId_frame n st x y z; rw [h]
@[simp] theorem State.finishId_chip (s : State) (n st : Nat) (x y z : W32) : (s.finishId n st x y z).chip = s.chip := by obtain ⟨_, _, _, _, _, h⟩ := s.finishId_frame n st x y z; rw [h]
@[simp] theorem State.finishId_cfg (s : State) (n st : Nat) (x y z : W32) : (s.finishId n st x y z).cfg = s.cfg := by obtain ⟨_, _, _, _, _, h⟩ := s.finishId_frame n st x y z; rw [h]
@[simp] theorem State.finishId_cfgBytes (s : State) (n st : Nat) (x y z : W32) : (s.finishId n st x y z).cfgBytes = s.cfgBytes := by obtain ⟨_, _, _, _, _, h⟩ := s.finishId_frame n st x y z; rw [h]
@[simp] theorem State.finishId_spi (s : State) (n st : Nat) (x y z : W32) : (s.finishId n st x y z).spi = s.spi := by obtain ⟨_, _, _, _, _, h⟩ := s.finishId_frame n st x y z; rw [h]
@[simp] theorem State.finishId_acc (s : State) (n st : Nat) (x y z : W32) : (s.finishId n st x y z).acc = s.acc := by obtain ⟨_, _, _, _, _, h⟩ := s.finishId_frame n st x y z; rw [h]
@[simp] theorem State.finishId_fault (s : State) (n st : Nat) (x y z : W32) : (s.finishId n st x y z).fault = s.fault := by obtain ⟨_, _, _, _, _, h⟩ := s.finishId_frame n st x y z; rw [h]
@[simp] theorem State.finishId_log (s : State) (n st : Nat) (x y z : W32) : (s.finishId n st x y z).log = s.log := by obtain ⟨_, _, _, _, _, h⟩ := s.finishId_frame n st x y z; rw [h]
@[simp] theorem State.finishId_boot (s : State) (n st : Nat) (x y z : W32) : (s.finishId n st x y z).boot = s.boot := by obtain ⟨_, _, _, _, _, h⟩ := s.finishId_frame n st x y z; rw [h]
@[simp] theorem State.finishId_key (s : State) (n st : Nat) (x y z : W32) : (s.finishId n st x y z).key = s.key := by obtain ⟨_, _, _, _, _, h⟩ := s.finishId_frame n st x y z; rw [h]
@[simp] theorem State.finishId_jtag (s : State) (n st : Nat) (x y z : W32) : (s.finishId n st x y z).jtag = s.jtag := by obtain ⟨_, _, _, _, _, h⟩ := s.finishId_frame n st x y z; rw [h]
@[simp] theorem State.finishId_pwr (s : State) (n st : Nat) (x y z : W32) : (s.finishId n st x y z).pwr = s.pwr := by obtain ⟨_, _, _, _, _, h⟩ := s.finishId_frame n st x y z; rw [h]
@[simp] theorem State.finishId_time (s : State) (n st : Nat) (x y z : W32) : (s.finishId n st x y z).time = s.time := by obtain ⟨_, _, _, _, _, h⟩ := s.finishId_frame n st x y z; rw [h]
@[simp] theorem State.finishId_port (s : State) (n st : Nat) (x y z : W32) : (s.finishId n st x y z).port = s.port := by obtain ⟨_, _, _, _, _, h⟩ := s.finishId_frame n st x y z; rw [h]
@[simp] theorem State.finishId_cyc (s : State) (n st : Nat) (x y z : W32) : (s.finishId n st x y z).cyc = s.cyc := by obtain ⟨_, _, _, _, _, h⟩ := s.finishId_frame n st x y z; rw [h]
@[simp] theorem State.finishId_solv (s : State) (n st : Nat) (x y z : W32) : (s.finishId n st x y z).solv = s.solv := by obtain ⟨_, _, _, _, _, h⟩ := s.finishId_frame n st x y z; rw [h]
@[simp] theorem State.finishId_io (s : State) (n st : Nat) (x y z : W32) : (s.finishId n st x y z).io = s.io := by obtain ⟨_, _, _, _, _, h⟩ := s.finishId_frame n st x y z; rw [h]
@[simp] theorem State.finishId_loop (s : State) (n st : Nat) (x y z : W32) : (s.finishId n st x y z).loop = s.loop := by obtain ⟨_, _, _, _, _, h⟩ := s.finishId_frame n st x y z; rw [h]
@[simp] theorem State.finishId_drift (s : State) (n st : Nat) (x y z : W32) : (s.finishId n st x y z).drift = s.drift := by obtain ⟨_, _, _, _, _, h⟩ := s.finishId_frame n st x y z; rw [h]
@[simp] theorem State.finishId_mtr (s : State) (n st : Nat) (x y z : W32) : (s.finishId n st x y z).mtr = s.mtr := by obtain ⟨_, _, _, _, _, h⟩ := s.finishId_frame n st x y z; rw [h]
@[simp] theorem State.finishId_cal (s : State) (n st : Nat) (x y z : W32) : (s.finishId n st x y z).cal = s.cal := by obtain ⟨_, _, _, _, _, h⟩ := s.finishId_frame n st x y z; rw [h]
@[simp] theorem State.finishId_halves (s : State) (n st : Nat) (x y z : W32) : (s.finishId n st x y z).halves = s.halves := by obtain ⟨_, _, _, _, _, h⟩ := s.finishId_frame n st x y z; rw [h]
@[simp] theorem State.finishId_pending (s : State) (n st : Nat) (x y z : W32) : (s.finishId n st x y z).pending = s.pending := by obtain ⟨_, _, _, _, _, h⟩ := s.finishId_frame n st x y z; rw [h]


end Sys2Proof.Machine
end

