-- ==== Sys2Proof/Laws/Regs.lean ====
section
/-! SUPPORT. Registers and memory: what a read after each shared operation gives, and that each keeps the canonical form
(State.sound). -/

namespace Sys2Proof.Machine

/-! ### Registers -/

/-- A register after a write. -/
theorem State.rd_wr (s : State) (a b : Nat) (v : W32) : (s.wr a v).rd b = if b = a then v else s.rd b := by
  unfold State.rd State.wr
  dsimp only
  split
  · rename_i h
    subst h
    rw [kget_kput, if_pos rfl]
  · rename_i h
    exact kget_kput_ne _ _ _ v h

@[simp] theorem State.rd_wr_self (s : State) (a : Nat) (v : W32) : (s.wr a v).rd a = v := by
  rw [State.rd_wr, if_pos rfl]

theorem State.rd_wr_ne (s : State) {a b : Nat} (v : W32) (h : b ≠ a) : (s.wr a v).rd b = s.rd b := by
  rw [State.rd_wr, if_neg h]

/-- Updates of other parts of the state leave every register alone. -/
theorem State.rd_of_regs {s t : State} (h : t.regs = s.regs) (a : Nat) : t.rd a = s.rd a := by
  unfold State.rd
  rw [h]

theorem State.rd_setFld_ne (s : State) {a b : Nat} (hi lo x : Nat) (h : b ≠ a) : (s.setFld a hi lo x).rd b = s.rd b :=
  State.rd_wr_ne s _ h

theorem State.rd_setBit_ne (s : State) {a b : Nat} (i : Nat) (v : Bool) (h : b ≠ a) : (s.setBit a i v).rd b = s.rd b :=
  State.rd_wr_ne s _ h

theorem State.rd_count_ne (s : State) {a b : Nat} (n : Nat) (h : b ≠ a) : (s.count a n).rd b = s.rd b :=
  State.rd_wr_ne s _ h

@[simp] theorem State.rd_setFld_self (s : State) (a hi lo x : Nat) : (s.setFld a hi lo x).rd a = putFld (s.rd a) hi lo x :=
  State.rd_wr_self s a _

@[simp] theorem State.rd_count_self (s : State) (a n : Nat) : (s.count a n).rd a = w32 ((s.rd a).toNat + n) :=
  State.rd_wr_self s a _

theorem State.rd_wr64_ne (s : State) {a b : Nat} (v : W64) (h : b ≠ a) (h4 : b ≠ a + 4) : (s.wr64 a v).rd b = s.rd b := by
  unfold State.wr64
  rw [State.rd_wr_ne _ _ h4, State.rd_wr_ne _ _ h]

/-- A 64-bit value joins again from its halves. -/
theorem join64_halves (v : W64) : join64 (lo32 v) (hi32 v) = v := by
  unfold join64 lo32 hi32
  apply BitVec.eq_of_toNat_eq
  have h := v.isLt
  simp only [BitVec.toNat_ofNat]
  omega

@[simp] theorem State.rd64_wr64_self (s : State) (a : Nat) (v : W64) : (s.wr64 a v).rd64 a = v := by
  unfold State.rd64 State.wr64
  rw [State.rd_wr_ne _ _ (by omega : a ≠ a + 4), State.rd_wr_self, State.rd_wr_self, join64_halves]

/-- A list of writes leaves a register alone that it does not name. -/
theorem State.rd_wrAll_ne (l : List (Nat × W32)) (s : State) {b : Nat} (h : ∀ p ∈ l, b ≠ p.1) : (s.wrAll l).rd b = s.rd b := by
  induction l generalizing s with
  | nil => rfl
  | cons p t ih =>
    have e : s.wrAll (p :: t) = (s.wr p.1 p.2).wrAll t := rfl
    rw [e, ih _ fun q hq => h q (List.mem_cons_of_mem _ hq), State.rd_wr_ne _ _ (h p List.mem_cons_self)]

/-! ### Events, postings and completions write only their own registers -/

theorem State.rd_rawEvent_ne (s : State) (v : Nat) {b : Nat} (h : b ≠ 0x10014) (h2 : b ≠ 0x13000) : (s.rawEvent v).rd b = s.rd b := by
  unfold State.rawEvent
  dsimp only
  split
  · split
    · rw [State.rd_setBit_ne _ _ _ h2, State.rd_setBit_ne _ _ _ h]
    · exact (State.rd_of_regs (State.sendMsix_regs _ v) b).trans (State.rd_setBit_ne _ _ _ h)
  · exact State.rd_setBit_ne _ _ _ h

theorem State.rd_event_ne (s : State) (v : Nat) {b : Nat} (h : b ≠ 0x10014) (h2 : b ≠ 0x13000) : (s.event v).rd b = s.rd b :=
  s.rd_rawEvent_ne _ h h2

theorem State.rd_status_ne (s : State) (i : Nat) (v : Bool) {b : Nat} (h0 : b ≠ 0x10010) (h : b ≠ 0x10014) (h2 : b ≠ 0x13000) :
    (s.status i v).rd b = s.rd b := by
  unfold State.status
  split
  · rfl
  · rw [State.rd_event_ne _ _ h h2, State.rd_setBit_ne _ _ _ h0]

theorem State.rd_mbErr_ne (s : State) (c q : Nat) (v : Bool) {b : Nat} (h0 : b ≠ 0x1001C) (h : b ≠ 0x10014) (h2 : b ≠ 0x13000) :
    (s.mbErr c q v).rd b = s.rd b := by
  unfold State.mbErr
  dsimp only
  rw [State.rd_event_ne _ _ h h2, State.rd_wr_ne _ _ h0]

theorem State.rd_postAs_ne (s : State) (m : Master) (c : Nat) (x y z : W32) {b : Nat} (h : b ≠ 0xB0020)
    (h2 : b ≠ bankKey 0xB0050 (masterId m)) : (s.postAs m c x y z).rd b = s.rd b := by
  unfold State.postAs
  dsimp only
  split
  · exact State.rd_of_regs (State.fifoPush_regs s _) b
  · rw [State.rd_setBit_ne _ _ _ h2, State.rd_count_ne _ _ h]
    exact State.rd_of_regs (State.noteLost_regs s _) b

/-- The banked copies lie above every register. -/
theorem bankKey_high (a m : Nat) : 0x1000000 ≤ bankKey a m := by
  have h : 0x1000000 * 1 ≤ 0x1000000 * (m + 1) := Nat.mul_le_mul_left _ (Nat.le_add_left 1 m)
  unfold bankKey
  exact Nat.le_trans h (Nat.le_add_left _ a)

/-- A posting leaves every register below the banked copies alone but LOG_LOSTCNT. -/
theorem State.rd_post_low (s : State) (m : Master) (c : Nat) (x y z : W32) {b : Nat} (h : b ≠ 0xB0020) (h2 : b < 0x1000000) :
    (s.postAs m c x y z).rd b = s.rd b :=
  s.rd_postAs_ne m c x y z h fun e => Nat.not_lt.mpr (bankKey_high 0xB0050 (masterId m)) (e ▸ h2)

theorem State.rd_postFirn_low (s : State) (c : Nat) (x y z : W32) {b : Nat} (h : b ≠ 0xB0020) (h2 : b < 0x1000000) :
    (s.postFirn c x y z).rd b = s.rd b :=
  s.rd_post_low .firn c x y z h h2

theorem State.rd_postHw_low (s : State) (c : Nat) (x y z : W32) {b : Nat} (h : b ≠ 0xB0020) (h2 : b < 0x1000000) :
    (s.postHw c x y z).rd b = s.rd b :=
  s.rd_post_low .hweng c x y z h h2

theorem State.rd_postGuard_low (s : State) (c : Nat) (x y z : W32) {b : Nat} (h : b ≠ 0xB0020) (h2 : b < 0x1000000) :
    (s.postGuard c x y z).rd b = s.rd b :=
  s.rd_post_low .guard c x y z h h2

/-- A write of memory changes no register. -/
theorem State.rd_wrMem (s : State) (a : Nat) (l : Bytes) (b : Nat) : (s.wrMem a l).rd b = s.rd b :=
  State.rd_of_regs (State.wrMem_regs s a l) b

theorem State.rd_advanceCq_ne (s : State) (k : Nat) {b : Nat} (h : b ≠ qpReg k 0x18) : (s.advanceCq k).rd b = s.rd b := by
  unfold State.advanceCq
  dsimp only
  split
  · exact (State.rd_of_regs (State.flipPhase_regs _ k) b).trans (State.rd_wr_ne _ _ h)
  · exact State.rd_wr_ne _ _ h

theorem State.rd_raiseQp_ne (s : State) (k : Nat) (q : Bool) {b : Nat} (h : b ≠ 0x10014) (h2 : b ≠ 0x13000) :
    (s.raiseQp k q).rd b = s.rd b := by
  unfold State.raiseQp
  split
  · rfl
  · exact State.rd_rawEvent_ne _ _ h h2

theorem State.rd_postCq_ne (s : State) (k : Nat) (hk : k < 8) (i : Issue) (st : Nat) (x y z : W32) {b : Nat}
    (h : b < 0x10000 ∨ 0x20000 ≤ b) : (s.postCq k i st x y z).rd b = s.rd b := by
  unfold State.postCq
  have h1 : b ≠ qpReg k 0x18 := by unfold qpReg; omega
  rw [State.rd_raiseQp_ne _ _ _ (by omega) (by omega), State.rd_advanceCq_ne _ _ h1, State.rd_wrMem]

theorem State.rd_postImm_ne (s : State) (i : Issue) (st : Nat) (x y z : W32) {b : Nat} (h : b < 0x10000 ∨ 0x20000 ≤ b) :
    (s.postImm i st x y z).rd b = s.rd b := by
  unfold State.postImm
  dsimp only
  have h0 : b ≠ 0x10048 := by omega
  have h2 : b ≠ 0x10014 := by omega
  have h3 : b ≠ 0x13000 := by omega
  have hw : ∀ p ∈ (List.range 4).map fun j => (0x11FF0 + 4 * j, w32 (leAt (cqEntry i.tag false st x y z) (4 * j) 4)), b ≠ p.1 := by
    intro p hp
    obtain ⟨j, hj, e⟩ := List.mem_map.mp hp
    have := List.mem_range.mp hj
    rw [← e]
    dsimp only
    omega
  split
  · rw [State.rd_setBit_ne _ _ _ h0, State.rd_setBit_ne _ _ _ h0, State.rd_wrAll_ne _ _ hw]
  · rw [State.rd_event_ne _ _ h2 h3, State.rd_setBit_ne _ _ _ h0, State.rd_setBit_ne _ _ _ h0, State.rd_wrAll_ne _ _ hw]

/-- A completion writes no register outside the mailbox. -/
theorem State.rd_complete (s : State) (i : Issue) (st : Nat) (x y z : W32) {b : Nat} (h : b < 0x10000 ∨ 0x20000 ≤ b) :
    (s.complete i st x y z).rd b = s.rd b := by
  unfold State.complete
  dsimp only
  split
  · exact (State.rd_postImm_ne _ i st x y z h).trans (State.rd_of_regs (State.formed_regs s _) b)
  · exact State.rd_of_regs (State.formed_regs s _) b
  · rename_i k _
    split
    · exact (State.rd_postCq_ne _ k.val k.isLt i st x y z h).trans (State.rd_of_regs (State.formed_regs s _) b)
    · exact State.rd_of_regs (State.formed_regs s _) b

theorem State.rd_done (s : State) (i : Issue) (st : Nat) {b : Nat} (h : b < 0x10000 ∨ 0x20000 ≤ b) : (s.done i st).rd b = s.rd b :=
  s.rd_complete i st 0 0 0 h

/-! ### What stays of the mailbox's own state -/

/-- An event changes nothing of the mailbox but its messages. -/
theorem State.rawEvent_mailbox (s : State) (v : Nat) : ∃ q, (s.rawEvent v).mb = { s.mb with msix := q } := by
  unfold State.rawEvent
  dsimp only
  split
  · split
    · exact ⟨s.mb.msix, by rw [State.setBit_mb, State.setBit_mb]⟩
    · exact ⟨_, by unfold State.sendMsix; rw [State.setBit_mb]⟩
  · exact ⟨s.mb.msix, by rw [State.setBit_mb]⟩

/-- Posting an entry changes the messages and the PHASE. -/
theorem State.postCq_mailbox (s : State) (k : Nat) (i : Issue) (st : Nat) (x y z : W32) :
    ∃ p q, (s.postCq k i st x y z).mb = { s.mb with phase := p, msix := q } := by
  have h : ∀ u : State, ∃ p, (u.advanceCq k).mb = { u.mb with phase := p } := by
    intro u
    unfold State.advanceCq
    dsimp only
    split
    · exact ⟨_, by unfold State.flipPhase; rw [State.wr_mb]⟩
    · exact ⟨u.mb.phase, by rw [State.wr_mb]⟩
  have g : ∀ u : State, ∃ q, (u.raiseQp k i.noirq).mb = { u.mb with msix := q } := by
    intro u
    unfold State.raiseQp
    split
    · exact ⟨u.mb.msix, rfl⟩
    · exact u.rawEvent_mailbox _
  unfold State.postCq
  obtain ⟨q, hq⟩ := g ((s.wrMem (s.cqSlot k) (cqEntry i.tag (s.mb.phase.getLsbD k) st x y z)).advanceCq k)
  obtain ⟨p, hp⟩ := h (s.wrMem (s.cqSlot k) (cqEntry i.tag (s.mb.phase.getLsbD k) st x y z))
  exact ⟨p, q, by rw [hq, hp, State.wrMem_mb]⟩

/-- A completion is the last one formed; beside it only messages and a PHASE may change. -/
theorem State.complete_mailbox (s : State) (i : Issue) (st : Nat) (x y z : W32) :
    ∃ p q, (s.complete i st x y z).mb = { s.mb with last := some ⟨i.src, i.tag, st, x, y, z⟩, phase := p, msix := q } := by
  unfold State.complete
  dsimp only
  split
  · unfold State.postImm
    dsimp only
    split
    · exact ⟨s.mb.phase, s.mb.msix, by rw [State.setBit_mb, State.setBit_mb, State.wrAll_mb]; rfl⟩
    · obtain ⟨q, h⟩ := State.rawEvent_mailbox _ _
      exact ⟨s.mb.phase, q, by unfold State.event; rw [h, State.setBit_mb, State.setBit_mb, State.wrAll_mb]; rfl⟩
  · exact ⟨s.mb.phase, s.mb.msix, rfl⟩
  · split
    · obtain ⟨p, q, h⟩ := State.postCq_mailbox _ _ i st x y z
      exact ⟨p, q, by rw [h]; rfl⟩
    · exact ⟨s.mb.phase, s.mb.msix, rfl⟩

/-- A completion is the last one formed, and changes no outstanding command. -/
theorem State.complete_mb (s : State) (i : Issue) (st : Nat) (x y z : W32) :
    (s.complete i st x y z).mb.last = some ⟨i.src, i.tag, st, x, y, z⟩ ∧
    (s.complete i st x y z).mb.outstanding = s.mb.outstanding := by
  obtain ⟨p, q, h⟩ := s.complete_mailbox i st x y z
  rw [h]
  exact ⟨rfl, rfl⟩

@[simp] theorem State.complete_last (s : State) (i : Issue) (st : Nat) (x y z : W32) :
    (s.complete i st x y z).mb.last = some ⟨i.src, i.tag, st, x, y, z⟩ := (s.complete_mb i st x y z).1

@[simp] theorem State.complete_outstanding (s : State) (i : Issue) (st : Nat) (x y z : W32) :
    (s.complete i st x y z).mb.outstanding = s.mb.outstanding := (s.complete_mb i st x y z).2

@[simp] theorem State.done_last (s : State) (i : Issue) (st : Nat) : (s.done i st).mb.last = some ⟨i.src, i.tag, st, 0, 0, 0⟩ :=
  s.complete_last i st 0 0 0

@[simp] theorem State.done_outstanding (s : State) (i : Issue) (st : Nat) : (s.done i st).mb.outstanding = s.mb.outstanding :=
  s.complete_outstanding i st 0 0 0

/-! ### Memory -/

/-- A byte of memory after a byte is set. -/
theorem State.byteAt_putByte (s : State) (a b : Nat) (v : Byte) : (s.putByte a v).byteAt b = if b = a then v else s.byteAt b :=
  kget_kput 0 s.mem b a v

/-- The bytes that a fold of stores leaves alone. -/
theorem State.byteAt_storeFold (a : Nat) (l : List (Nat × Byte)) (s : State) {b : Nat} (h : ∀ p ∈ l, b ≠ a + p.1) :
    (l.foldl (fun t p => t.putByte (a + p.1) p.2) s).byteAt b = s.byteAt b := by
  induction l generalizing s with
  | nil => rfl
  | cons p t ih =>
    rw [List.foldl_cons, ih _ fun q hq => h q (List.mem_cons_of_mem _ hq), State.byteAt_putByte, if_neg (h p List.mem_cons_self)]

/-- Every byte outside a written run keeps its value. -/
theorem State.byteAt_wrMem_outside (s : State) (a : Nat) (l : Bytes) {b : Nat} (h : b < a ∨ a + l.length ≤ b) :
    (s.wrMem a l).byteAt b = s.byteAt b := by
  have e : (s.wrMem a l).mem = (s.store a l).mem := by
    unfold State.wrMem
    rw [State.markDirty_mem, State.unpoison_mem]
  unfold State.byteAt
  rw [e]
  refine State.byteAt_storeFold a _ s fun p hp => ?_
  have := (List.of_mem_zip (List.mem_filter.mp hp).1).1
  rw [List.mem_range] at this
  omega

/-! ### The canonical form -/

theorem State.sound_of {s t : State} (h : s.sound) (hm : t.mem = s.mem) (hr : t.regs = s.regs) : t.sound := by
  unfold State.sound
  rw [hm, hr]
  exact h

theorem State.wr_sound {s : State} (h : s.sound) (a : Nat) (v : W32) : (s.wr a v).sound :=
  ⟨h.1, canonical_kput regReset s.regs a v h.2⟩

theorem State.setFld_sound {s : State} (h : s.sound) (a hi lo x : Nat) : (s.setFld a hi lo x).sound := State.wr_sound h _ _

theorem State.setBit_sound {s : State} (h : s.sound) (a i : Nat) (b : Bool) : (s.setBit a i b).sound := State.wr_sound h _ _

theorem State.count_sound {s : State} (h : s.sound) (a n : Nat) : (s.count a n).sound := State.wr_sound h _ _

theorem State.wr64_sound {s : State} (h : s.sound) (a : Nat) (v : W64) : (s.wr64 a v).sound :=
  State.wr_sound (State.wr_sound h _ _) _ _

theorem State.setErr_sound {s : State} (h : s.sound) (k : Nat) (b : Bool) : (s.setErr k b).sound :=
  State.setBit_sound (State.setBit_sound h _ _ _) _ _ _

theorem State.wrAll_sound (l : List (Nat × W32)) {s : State} (h : s.sound) : (s.wrAll l).sound := by
  induction l generalizing s with
  | nil => exact h
  | cons p t ih => exact ih (State.wr_sound h p.1 p.2)

theorem State.putByte_sound {s : State} (h : s.sound) (a : Nat) (b : Byte) : (s.putByte a b).sound :=
  ⟨canonical_kput (fun _ => 0) s.mem a b h.1, h.2⟩

theorem State.putBytes_sound (l : Bytes) {s : State} (h : s.sound) (a : Nat) : (s.putBytes a l).sound := by
  induction l generalizing s a with
  | nil => exact h
  | cons b t ih => exact ih (State.putByte_sound h a b) (a + 1)

theorem State.storeFold_sound (a : Nat) (l : List (Nat × Byte)) {s : State} (h : s.sound) :
    (l.foldl (fun t p => t.putByte (a + p.1) p.2) s).sound := by
  induction l generalizing s with
  | nil => exact h
  | cons p t ih => exact ih (State.putByte_sound h _ _)

theorem State.wrMem_sound {s : State} (h : s.sound) (a : Nat) (l : Bytes) : (s.wrMem a l).sound := by
  have hs : (s.store a l).sound := State.storeFold_sound a _ h
  unfold State.wrMem
  refine State.sound_of hs ?_ ?_
  · rw [State.markDirty_mem, State.unpoison_mem]
  · rw [State.markDirty_regs, State.unpoison_regs]

theorem State.wrLe_sound {s : State} (h : s.sound) (a n x : Nat) : (s.wrLe a n x).sound := State.wrMem_sound h _ _

theorem State.rawEvent_sound {s : State} (h : s.sound) (v : Nat) : (s.rawEvent v).sound := by
  unfold State.rawEvent
  dsimp only
  split
  · split
    · exact State.setBit_sound (State.setBit_sound h _ _ _) _ _ _
    · exact State.sound_of (State.setBit_sound h 0x10014 v true) (State.sendMsix_mem _ v) (State.sendMsix_regs _ v)
  · exact State.setBit_sound h _ _ _

theorem State.event_sound {s : State} (h : s.sound) (n : Nat) : (s.event n).sound := State.rawEvent_sound h _

theorem State.status_sound {s : State} (h : s.sound) (i : Nat) (b : Bool) : (s.status i b).sound := by
  unfold State.status
  split
  · exact h
  · exact State.event_sound (State.setBit_sound h _ _ _) _

theorem State.mbErr_sound {s : State} (h : s.sound) (c q : Nat) (b : Bool) : (s.mbErr c q b).sound :=
  State.event_sound (State.wr_sound h _ _) _

theorem State.postAs_sound {s : State} (h : s.sound) (m : Master) (c : Nat) (x y z : W32) : (s.postAs m c x y z).sound := by
  unfold State.postAs
  dsimp only
  split
  · exact State.sound_of h (State.fifoPush_mem s _) (State.fifoPush_regs s _)
  · exact State.setBit_sound (State.count_sound (State.sound_of h (State.noteLost_mem s _) (State.noteLost_regs s _)) _ _) _ _ _

theorem State.advanceCq_sound {s : State} (h : s.sound) (k : Nat) : (s.advanceCq k).sound := by
  unfold State.advanceCq
  dsimp only
  split
  · exact State.sound_of (State.wr_sound h _ _) (State.flipPhase_mem _ k) (State.flipPhase_regs _ k)
  · exact State.wr_sound h _ _

theorem State.raiseQp_sound {s : State} (h : s.sound) (k : Nat) (q : Bool) : (s.raiseQp k q).sound := by
  unfold State.raiseQp
  split
  · exact h
  · exact State.rawEvent_sound h _

theorem State.postCq_sound {s : State} (h : s.sound) (k : Nat) (i : Issue) (st : Nat) (x y z : W32) :
    (s.postCq k i st x y z).sound :=
  State.raiseQp_sound (State.advanceCq_sound (State.wrMem_sound h _ _) k) k i.noirq

theorem State.formed_sound {s : State} (h : s.sound) (c : Completion) : (s.formed c).sound :=
  State.sound_of h (State.formed_mem s c) (State.formed_regs s c)

theorem State.postImm_sound {s : State} (h : s.sound) (i : Issue) (st : Nat) (x y z : W32) : (s.postImm i st x y z).sound := by
  unfold State.postImm
  dsimp only
  split
  · exact State.setBit_sound (State.setBit_sound (State.wrAll_sound _ h) _ _ _) _ _ _
  · exact State.event_sound (State.setBit_sound (State.setBit_sound (State.wrAll_sound _ h) _ _ _) _ _ _) _

theorem State.complete_sound {s : State} (h : s.sound) (i : Issue) (st : Nat) (x y z : W32) : (s.complete i st x y z).sound := by
  unfold State.complete
  dsimp only
  split
  · exact State.postImm_sound (State.formed_sound h _) _ _ _ _ _
  · exact State.formed_sound h _
  · split
    · exact State.postCq_sound (State.formed_sound h _) _ _ _ _ _ _
    · exact State.formed_sound h _

theorem State.done_sound {s : State} (h : s.sound) (i : Issue) (st : Nat) : (s.done i st).sound := State.complete_sound h i st 0 0 0

theorem State.settlePair_sound {s : State} (h : s.sound) (k : Nat) : (s.settlePair k).sound := by
  unfold State.settlePair
  split
  · exact h
  · exact State.setFld_sound (State.setErr_sound (State.setBit_sound h _ _ _) _ _) _ _ _ _

theorem State.settleSrc_sound {s : State} (h : s.sound) (c : CmdSrc) : (s.settleSrc c).sound := by
  unfold State.settleSrc
  split
  · exact State.settlePair_sound h _
  · exact h

theorem State.finish_sound {s : State} (h : s.sound) (o : Outst) (st : Nat) (x y z : W32) : (s.finish o st x y z).sound := by
  have hr : (s.retireCmd o).sound := State.sound_of h (State.retireCmd_mem s o) (State.retireCmd_regs s o)
  unfold State.finish
  dsimp only
  split
  · exact hr
  · exact State.settleSrc_sound (State.complete_sound hr _ _ _ _ _) _

theorem State.finishId_sound {s : State} (h : s.sound) (n st : Nat) (x y z : W32) : (s.finishId n st x y z).sound := by
  unfold State.finishId
  split
  · exact State.finish_sound h _ _ _ _ _
  · exact h

theorem State.finishAll_sound {s : State} (h : s.sound) (p : Instr → Bool) (st : Nat) (x y z : W32) :
    (s.finishAll p st x y z).sound := by
  unfold State.finishAll
  generalize s.waiters p = l
  induction l generalizing s with
  | nil => exact h
  | cons o t ih => exact ih (State.finish_sound h o st x y z)

theorem State.startAsync_sound {s : State} (h : s.sound) (c : Instr) (i : Issue) (r : Nat) : (s.startAsync c i r).sound :=
  State.sound_of h rfl rfl

theorem State.reach_sound {s : State} (h : s.sound) (t : Nat) : (s.reach t).sound :=
  State.sound_of h (State.reach_mem s t) (State.reach_regs s t)

theorem State.dropWaiting_sound {s : State} (h : s.sound) (p : Nat → Bool) : (s.dropWaiting p).sound := by
  unfold State.dropWaiting
  dsimp only
  generalize (s.mb.waiting.filter fun c => !(cmdOf c).any fun q => p q.1) = w
  have hc : (s.setWaiting w).sound := State.sound_of h (State.setWaiting_mem s w) (State.setWaiting_regs s w)
  generalize s.setWaiting w = u at hc
  generalize List.filterMap cmdOf _ = l
  induction l generalizing u with
  | nil => exact hc
  | cons p t ih => exact ih _ (State.settleSrc_sound (State.done_sound hc _ _) _)

/-- A host command keeps the form when its body does. -/
theorem State.hostCmd_sound {s : State} (h : s.sound) (c : CmdRow) (i : Issue) (body : State → State)
    (hb : (body s).sound) : (s.hostCmd c i body).sound := by
  unfold State.hostCmd
  split
  · exact State.done_sound h _ _
  · exact hb

/-- Checks keep the form when what follows them does. -/
theorem State.checked_sound {s : State} (h : s.sound) (i : Issue) (l : List (Bool × Nat)) (body : State → State)
    (hb : (body s).sound) : (s.checked i l body).sound := by
  unfold State.checked
  split
  · exact State.done_sound h _ _
  · exact hb

/-- The machine after reset has the canonical form. -/
theorem State.reset_canonical : Memory.wf State.reset.mem = true ∧ Registers.wf State.reset.regs = true := ⟨rfl, rfl⟩

end Sys2Proof.Machine
end

