-- ==== Sys2Proof/Tests/Slice0.lean ====
section
/-! SUPPORT. Checks of the model's author: small states, the ill-formed terms that WellFormed refuses, worked examples of
the spec, and for every statement with hypotheses a state and operands that meet them. -/

namespace Sys2Proof.Tests

open Sys2Proof Sys2Proof.Machine

set_option Elab.async false

/-- A public key of P-256 (RFC 6979, A.2.5), and its signatures of the slot image, the program and the debug response below. -/
def signKey : Bytes := beBytes 32 0x60fed4ba255a9d31c961eb74c6356d68c049b8923b61fa6ce669622e60f29fb6 ++
  beBytes 32 0x7903fe1008b8bc99a41ae9e95628bc64f2f1b20c2d7e9f5177a3c294d4462299
def imgSig : Bytes := beBytes 32 0xefd48b2aacb6a8fd1140dd9cd45e81d69d2c877b56aaf991c34d0ea84eaf3716 ++
  beBytes 32 0x10ba101e0a2e116db61b9eefd22a430c131ce2d594dbfb22103b19f3201d8187
def progSig : Bytes := beBytes 32 0xefd48b2aacb6a8fd1140dd9cd45e81d69d2c877b56aaf991c34d0ea84eaf3716 ++
  beBytes 32 0x52cfa8a1cb804440519b3a2e1ebc8f40a934888a198fee1d526fd18fef56cb28
def respSig : Bytes := beBytes 32 0xefd48b2aacb6a8fd1140dd9cd45e81d69d2c877b56aaf991c34d0ea84eaf3716 ++
  beBytes 32 0x27686fe3f5003dda7dda6c03c3da6326dff544510ae9bb1d86270a1044312311
/-- CYC0, NET0, MTR and SEQ may read and write the registers of blocks 2 to 11. -/
def tileRights : List AccEntry :=
  [2, 6, 8, 9].flatMap fun m => (List.range 10).map fun b => ⟨0x12 + b, m, 0, 0, 0xFFFF, 3⟩
/-- A STATION with its roles on tiles 2 to 9, tile 10 the reserve, and access tables that give both hosts the window's
shared SRAM, the port DMA and SEQ the same, and four tiles the blocks' registers. -/
def ready : State := ({ State.reset with
  boot := { State.reset.boot with romKeys := [signKey, signKey] }
  acc := [⟨0, 11, 0, 0x1000000, 0x1FFFFFF, 3⟩, ⟨0, 12, 0, 0x1000000, 0x1FFFFFF, 3⟩,
    ⟨0, 14, 0, 0x1000000, 0x1FFFFFF, 3⟩, ⟨0, 9, 0, 0x1000000, 0x1FFFFFF, 3⟩] ++ tileRights } : State).wrAll
  [(0xE0114, 0x98765432), (0xE0118, 0x000A0000)]
/-- The same of a HEAD. -/
def head : State := { ready with
  chip := { ready.chip with straps := { ready.chip.straps with pers := 1 } }, cfg := some { personality := 1 } }
/-- A command of the PCIe host through the immediate mailbox. -/
def iss : Issue := { src := .imm, host := .hostp, plen := 64 }
/-- The same on queue pair 0. -/
def issQ : Issue := { iss with src := .qp 0 }
/-- A buffer at offset 0x10000 of the window. -/
def buf (n : Nat) : Buf := ⟨0x10000, w32 n⟩
/-- The state with these bytes in that buffer. -/
def State.holds (s : State) (b : Bytes) : State := s.putBytes (s.window + 0x10000) b
/-- The header of a field frame from unit 2 to all. -/
def hdr : FrameHeader := { dst := 0x3FFF, src := 2, sysid := 0, len := 0, payload := 64, port := 0, at_ := 0 }
/-- A frame of 64 bytes on the wire. -/
def rxf : RxFrame := { bytes := List.replicate 60 0, wire := 64, at_ := 0 }
/-- Queue pair 0 laid out with 16 entries in each queue. -/
def qpSet : State := ready.wrAll [(0x10104, 0x1000), (0x10108, 0x404)]
/-- Queue pair 0 active for the PCIe host. -/
def qpOn : State :=
  let s := qpSet.wr 0x1011C 0x1103
  { s with mb := { s.mb with qpWin := [(0, 0x1000000)], phase := 1 } }
/-- Firn serves the mailbox. -/
def serving : State := ready.setBit 0x10010 0 true
/-- Firn serves queue pair 0, which holds one entry of zeros. -/
def serving1 : State := (qpOn.setBit 0x10010 0 true).wr 0x10110 1
/-- The SHA-256 digest of no bytes (FIPS 180-4). -/
def digest0 : Bytes := [0xe3, 0xb0, 0xc4, 0x42, 0x98, 0xfc, 0x1c, 0x14, 0x9a, 0xfb, 0xf4, 0xc8, 0x99, 0x6f, 0xb9, 0x24,
  0x27, 0xae, 0x41, 0xe4, 0x64, 0x9b, 0x93, 0x4c, 0xa4, 0x95, 0x99, 0x1b, 0x78, 0x52, 0xb8, 0x55]
/-- A slot image (KIND 1) of five empty sections for STATION and HEAD, VERSION 1. -/
def img : Bytes :=
  [0x55, 0x42, 0x4D, 0x53, 1, 0, 1, 6] ++ leBytes 4 448 ++ leBytes 4 1 ++ List.replicate 7 0 ++ [5] ++ List.replicate 40 0 ++
    ([1, 2, 3, 4, 5].flatMap fun t => [t, 0, 0, 0] ++ leBytes 4 384 ++ List.replicate 8 0 ++ digest0 ++ List.replicate 16 0) ++
    imgSig
/-- The cells of a list of bytes from an address on. -/
def cells (a : Nat) (b : Bytes) : List Host.Cell := (b.zipIdx.filter fun p => p.1 != 0).map fun p => (a + p.2, p.1)
/-- The image stands in slot 1, which is STAGED. -/
def staged : State := { ready.setSlotState 1 slStaged with mem := cells 0x10600000 img }
/-- The image stands in slot 0, which runs and is GOOD. -/
def good : State := { ready.setSlotState 0 slGood with mem := cells 0x10000000 img }
/-- The unit's neighbour upstream and downstream of port 0 has address 2; the Avalanche key is 16 bytes of 1. -/
def near : State := { ready with
  cfg := some { upAddr := 2, downAddr := [2], avActivate := true },
  key := { ready.key with slots := [(0, ⟨List.replicate 32 1, 0, 0, 0, 1, 0, true, false, true⟩), (2, ⟨List.replicate 32 1, 0, 1, 0, 1, 1, true, false, true⟩)] } }
/-- A reception of image 7 into slot 1. -/
def rx7 : AvRx := ⟨7, 4096, 6, 1, 0, 0, 1, 2, [], [], 0, [], 0⟩
/-- That reception is in progress. -/
def receiving7 : State := { near.setSlotState 1 slWriting with boot := { near.boot with rx := some rx7 } }
/-- A transfer of image 7 from slot 0 on port 0. -/
def tx7 : AvTx := ⟨0, annBody 7 4096 6 1 0 0, 0, 0, 0, false, true, 0⟩
/-- Shared SRAM holds a descriptor of one problem in the buffer, and the problem's record of zeros but for its result
record's offset. -/
def problem : State := { ready with
  acc := ready.acc ++ [⟨0, 2, 0, 0x1000000, 0x1FFFFFF, 3⟩]
  mem := cells 0x1010000 ([1] ++ List.replicate 15 0 ++ leBytes 4 0x1020000) ++ cells 0x1020038 (leBytes 4 0x1030000) }
/-- A batch of that problem. -/
def batch1 : Batch := ⟨1, .hostp, 0, 0, false, false, [0x1020000], [0], 0, 0, 0, false, false, [0]⟩
/-- The batch waits; logical lane 0 is on lane 0. -/
def queued : State := { problem.wr 0x20100 0x100 with solv := { problem.solv with batches := [batch1], nextId := 2 } }
/-- The problem runs on lane 0. -/
def run1 : SolvRun := ⟨1, 0, 0x1020000, 0, 0, false, [], 0x3D10000000000000, 0x3D10000000000000, false, false,
  problem.rdMem 0x1020000 64, [], [], problem.rdMem 0x1030000 64⟩
def running1 : State := { queued with solv := { queued.solv with batches := [{ batch1 with waiting := [], started := true }], runs := [(0, run1)] } }
/-- A network configuration of one branch 0 with one price and of one station, address 2. -/
def net1 : Bytes :=
  leBytes 2 1 ++ leBytes 2 1 ++ leBytes 2 1 ++ [0, 1] ++ leBytes 4 1000 ++ leBytes 4 93200 ++ leBytes 4 1000 ++ leBytes 4 501 ++
    List.replicate 8 0 ++ leBytes 4 48 ++ leBytes 4 112 ++ leBytes 4 128 ++ List.replicate 4 0 ++
    [0, 0, 1, 1, 0, 255, 255, 255] ++ List.replicate 8 0 ++
    ([1, 0, 2, 1, 1, 1].flatMap fun k => leBytes 8 (if k = 0 then 0 else if k = 1 then 0x3FF0000000000000 else 0x4000000000000000)) ++
    [2, 0, 0, 0, 0, 0, 1, 1] ++ leBytes 4 128 ++ List.replicate 4 0 ++ List.replicate 8 0
/-- A template of one price for a problem of one variable at 0x1030000. -/
def tmpl1 : Bytes :=
  leBytes 2 1 ++ leBytes 2 0 ++ leBytes 2 0 ++ [1, 1] ++ leBytes 4 0 ++ leBytes 4 0x1030000 ++ leBytes 4 0x1040000 ++
    leBytes 4 0x1050000 ++ List.replicate 8 0 ++ leBytes 8 0x3FF0000000000000 ++ List.replicate 8 0
/-- That problem's record. -/
def rec1 : Bytes :=
  [1, 0, 1, 1, 0, 0, 10, 0] ++ List.replicate 8 0 ++ List.replicate 8 255 ++ leBytes 8 0x3FF0000000000000 ++
    leBytes 8 0x3EB0C6F7A0B5ED8D ++ leBytes 8 0x3EB0C6F7A0B5ED8D ++ leBytes 8 0x3EB0C6F7A0B5ED8D ++ leBytes 4 0x1050000 ++
    leBytes 4 0 ++ leBytes 8 0x3FF0000000000000 ++ List.replicate 32 0
/-- The HEAD of that network, synchronised, its rounds started at period 0. -/
def headNet : State := (({ head with drift := { head.drift with sched := some (4, 1, 0), hd := { head.drift.hd with net := some net1, started := some 0 } } } : State).setFld 0x60004 2 0 2).setFld 0x80008 13 0 1
/-- The same in round 1 of period 0. -/
def inRound : State := headNet.setHd fun h => { h with round := 1, ran := true, prices := [(0, 1, 0, [9])] }
/-- A STATION with that template in force and its round announced. -/
def info1 : RoundInfo := ⟨0, 1, 1, false, 0, 4, 1000, 93200, 1000, 1000000000, 1, 0⟩
def stn : State := (({ ready with mem := cells 0x1030000 rec1, drift := { ready.drift with sched := some (4, 1, 0), st := { ready.drift.st with tmpl := some (1, tmpl1), info := some info1, place := (1, 0) } } } : State).setFld 0x60004 2 0 2).setFld 0x80008 13 0 2
/-- A bank with UMIN -100, UMAX 100 and RATE 1. -/
def bank1 : Bytes := List.replicate 72 0 ++ leBytes 8 0xC059000000000000 ++ leBytes 8 0x4059000000000000 ++ leBytes 8 0x3FF0000000000000
/-- A loop configuration: period 10 ticks, PV from the input image. -/
def lcfg1 : Bytes := [10] ++ List.replicate 23 0 ++ [1] ++ List.replicate 39 0
/-- Loop 0 has a configuration and both banks, and is OFF. -/
def loopOff : State := { ready with loop := { ready.loop with parts := [(0, bank1), (1, bank1), (2, lcfg1)] } }
/-- Loop 0 is in MAN. -/
def loopMan : State := loopOff.setLmode 0 1
/-- A tune of loop 0 that has run. -/
def tune1 : Tune := { loop := 0, nc := 2, d := 0x3FF0000000000000, h := 0, prev := some 1, periods := 2, tFirst := some 0, tLast := 2000000000, sum := 0x4010000000000000 }
/-- The samples of six phases at rest. -/
def rest : List (List (Dbl × Dbl × Dbl)) := List.replicate 6 (List.replicate 800 (0, 0, 0))
/-- A cycle program of task 0 on CYC0, a symbol 9 of four bytes in its working memory, a publication, a command group and
two subscriptions. -/
def task0 : TaskDef := ⟨0, 0, 0, 16, 100, 0, 0, 64, 0, 64, 0, 64, [], []⟩
def sym9 : Sym := ⟨9, 6, 4, 2, 1, [(0, 0)]⟩
def rem1 : Remote := ⟨1, 1, 2, 1, 0, 100, 0, 0, 5, 3, 0, 0⟩
def rem2 : Remote := { rem1 with ty := 2, group := 2 }
def rem3 : Remote := { rem1 with ty := 3, group := 3 }
def rem4 : Remote := { rem1 with ty := 4, group := 4, rx := 1 }
def prog1 : Program where
  bytes := [0, 0, 0, 0, 0, 0, 0, 6]
  ver := 5
  base := 0
  lineage := 1
  gen := 1
  retLen := 64
  workLen := 64
  tasks := [task0]
  remotes := [rem1, rem2, rem3, rem4]
  rodata := List.replicate 8 0
  code := []
  extra := { syms := [sym9] }
/-- The same program in a signed container. -/
def signed1 : Program := { prog1 with bytes := [0x55, 0x42, 0x4D, 0x53, 1, 0, 2, 6] ++ leBytes 4 128 ++ leBytes 4 5 ++ List.replicate 48 0 ++ progSig }
/-- A debug response for the scope 5 to the challenge of zeros. -/
def resp1 : Bytes := List.replicate 16 0 ++ [5, 0, 0, 0] ++ List.replicate 4 0 ++ respSig
/-- A root of 32 bytes of 1, wrapped under a device key of zeros. -/
def wrapped1 : Bytes :=
  let ks := aesKeys (List.replicate 32 0)
  let ct := xorB (List.replicate 32 1) (gcmStream ks (List.replicate 12 0) (List.replicate 32 1))
  List.replicate 12 0 ++ [9, 0, 0, 0] ++ ct ++ gcmTag ks (List.replicate 12 0) [9, 0, 0, 0] ct
/-- The program is active: STOPPED, RUNNING. -/
def cycOff : State := { (ready.setCycState 1).wr 0x40300 0x40000000 with cyc := { ready.cyc with act := some prog1, stored := some (1, 1, 64) } }
def cycOn : State := cycOff.setCycState 2
/-- The container of a program like it. -/
def cont1 : Bytes :=
  [0x55, 0x42, 0x4D, 0x53, 1, 0, 2, 6] ++ leBytes 4 768 ++ leBytes 4 5 ++ List.replicate 7 0 ++ [7] ++ List.replicate 40 0 ++
    ([(0x50, 512, 32), (0x51, 576, 48), (0x52, 640, 1), (0x54, 704, 0), (0x55, 704, 0), (0x56, 704, 0), (0x57, 704, 0)].flatMap
      fun t => [BitVec.ofNat 8 t.1, 0, 0, 0] ++ leBytes 4 t.2.1 ++ leBytes 4 t.2.2 ++ List.replicate 52 0) ++
    (leBytes 4 5 ++ List.replicate 6 0 ++ [1, 0] ++ leBytes 4 1 ++ leBytes 4 1 ++ leBytes 4 64 ++ leBytes 4 64 ++ List.replicate 36 0) ++
    ([0, 0, 0, 16] ++ leBytes 4 100 ++ leBytes 4 0 ++ leBytes 4 0 ++ leBytes 4 64 ++ leBytes 4 0 ++ leBytes 4 64 ++ leBytes 4 0 ++
      leBytes 4 64 ++ List.replicate 28 0) ++ List.replicate 128 0
/-- A TIME_PTP_CONFIG buffer with every field in its range. -/
def ptp1 : Bytes :=
  [1, 0] ++ List.replicate 15 0 ++ [2, 0, 0] ++ leBytes 4 100 ++ [1, 1, 0, 0] ++ leBytes 4 1 ++ [0, 0, 0, 0] ++ leBytes 4 1 ++ List.replicate 8 0
/-- A NET_PORT_CONFIG buffer. -/
def port1 : Bytes := [1, 0, 1, 0, 0x10, 0, 0, 0, 1, 0] ++ List.replicate 46 0
/-- Ports 0 and 2 have a link, port 0 forwards to port 2, and slot 5 holds a MACsec key; the switch is on. -/
def net : State := { ((near.setBit (pReg 0 0x104) 0 true).setBit (pReg 2 0x104) 0 true).setBit 0x80004 0 true with
  port := { near.port with cfg := [(0, { fwd := 0x16 })] }
  key := { near.key with slots := near.key.slots ++ [(5, ⟨List.replicate 32 1, 0, 1, 2, 1, 1, true, false, false⟩)] } }
/-- The same with MACsec required on port 0. -/
def netSec : State := { net with port := { net.port with cfg := [(0, { fwd := 0x16, required := true })] } }
/-- A frame to a group. -/
def frame1 : Bytes := [0x01, 0, 0x5E, 0, 0, 1, 2, 0, 0, 0, 0, 7, 0x08, 0] ++ List.replicate 46 0
def qf1 : QFrame := { bytes := frame1, origin := .own }
/-- A paired unit in a state of PAIR_STATE, its partner (address 2) STANDBY and synced, the pair link up. -/
def pairIn (n : Nat) : State := { ((ready.setFld aPairState 3 0 n).setBit (pReg 3 0x104) 0 true).setFld 0x80008 13 0 1 with
  pair := { ready.pair with cfg := { mode := 1, unitId := 1, partner := 2, swapH := 1 }, alive := true, pState := 3, pFlags := 2 } }
/-- The same with PAIR_IL_IN high. -/
def pairHigh (n : Nat) : State := (pairIn n).setBit aIl 1 true
def line1 : List (W32 × Bytes) := [(0x1000000, List.replicate 64 7)]
/-- Loops 1 to 56 have a request to leave OFF, and loop 0, which has a configuration, is OFF. -/
def crowd : State := { ready with loop := { ready.loop with
  parts := loopOff.loop.parts, runs := (List.range 56).map fun k => (k + 1, { req := some (1, false, none) }) } }
theorem crowd_live : (List.range 256).filter crowd.loopLive = (List.range 56).map (· + 1) := by decide +kernel
theorem crowd_full : crowd.loadFails 0 = some 56 := by
  unfold State.loadFails
  rw [crowd_live]
  decide +kernel

/-! ### Ill-formed commands are refused (WellFormed) -/

theorem test_illFormed_doorbell : (Instr.doorbellWrite .hostp 8 0).wellFormed = false := by decide
theorem test_illFormed_page : (Instr.pageProgram 0 []).wellFormed = false := by decide
theorem test_illFormed_lane : (Instr.problemEnd 34 ⟨0, 0⟩).wellFormed = false := by decide
theorem test_illFormed_values : (Instr.publish hdr ⟨1, 0, []⟩).wellFormed = false := by decide
theorem test_illFormed_port : (Instr.frameReceive 5 rxf).wellFormed = false := by decide
theorem test_illFormed_cutPort : (Instr.cutThrough 2 rxf).wellFormed = false := by decide
theorem test_illFormed_lines : (Instr.mirrorData hdr ⟨1, 0, [(0x1000000, [1])]⟩).wellFormed = false := by decide
theorem test_illFormed_regions : (Instr.mirrorTable hdr ⟨[]⟩).wellFormed = false := by decide
theorem test_illFormed_sensors : (Instr.thermalSample ⟨List.replicate 17 0⟩).wellFormed = false := by decide
theorem test_illFormed_announce : (Instr.avAnnounce hdr ⟨7, 4096, 6, 1, 0, 0, []⟩).wellFormed = false := by decide
theorem test_illFormed_fragment : (Instr.avFrag hdr ⟨7, 0, 3, List.replicate 1024 0, []⟩).wellFormed = false := by decide +kernel
theorem test_illFormed_bid : (Instr.bid hdr ⟨0, 1, 0, 0, 1, 0, 0, 0, List.replicate 33 0⟩).wellFormed = false := by decide
theorem test_illFormed_tamper : (Instr.tamper 8 { live := 0 }).wellFormed = false := by decide
theorem test_illFormed_slot : (Instr.keyBad 128).wellFormed = false := by decide
theorem test_illFormed_address : (Instr.rcRead .hostp 0x1000000 0).wellFormed = false := by decide
theorem test_illFormed_plen : (Instr.sysInfo { iss with plen := 65536 }).wellFormed = false := by decide
theorem test_wellFormed : (Instr.doorbellWrite .hostp 7 0).wellFormed = true := by decide

/-! ### The manual's worked examples -/

/-- The values 2 and 0.25 in binary64 style: an integer over a power of two. -/
def dbl (n : Int) (k : Nat := 0) : Dbl := dDiv (dOfInt n) (w64 ((1023 + k) * 2 ^ 52))

/-- 04, the two-variable QP: its record. -/
def qp2 : Bytes := [1, 0, 2, 2, 0, 0] ++ leBytes 2 2 ++ leBytes 8 0 ++ leBytes 8 noDeadline ++
  bytesOfDbls [dbl 1, dbl 1, dbl 1 10, dbl 1 10] ++ leBytes 4 0x1050000 ++ leBytes 4 0 ++
  bytesOfDbls ([dbl 2, dbl 2, dbl 3, dbl (-6), dbl (-7)] ++ [dbl 1, dbl 0, dbl 0, dbl 1, dbl 0, dbl 0, dbl 1, dbl 1])
def qp2Run : RunEnd := laneRun ⟨0x40000, qp2, [], [], List.replicate 96 0, 0x3D10000000000000, 0x3D10000000000000⟩
  (fun _ => false) (fun _ => false)
/-- MAXITER after 181 SOLVCLK, with the residuals and the iterate of the example's result record. -/
theorem test_qpExample : qp2Run.status = 0x0101 ∧ qp2Run.cyc = 181 ∧ qp2Run.prim = 0x3FD4000000000000 ∧
    qp2Run.dual = 0x3FC0000000000000 ∧ qp2Run.x = [0x3FF5000000000000, 0x3FF2000000000000] ∧
    qp2Run.y = [0x3FF1000000000000, 0x3FEC000000000000] := by decide +kernel

/-- 05, round 2 on a 64-station chain: the heat price at stage 0 goes from 48.0 to 51.0, its residual term is 2.0. -/
def heatPrice : NetBranch := ⟨7, 1, 1, [0], [[dbl 48, dbl 0, dbl 400, dbl 4, dbl 1 2, dbl 1]]⟩
theorem test_priceExample : priceStep heatPrice 0 (dbl 1 2) (dbl 48) (dbl 46) (dbl 12) [[dbl 25 1]] = (dbl 50, dbl 51, dbl 2) := by
  decide +kernel

/-- 06, the tuned supply-temperature loop: four periods of 180 s, and a peak-to-peak sum of 12.8, an amplitude of 1.6. -/
theorem test_tuneExample : ({ tune1 with nc := 4, tFirst := some 186000000000, tLast := 906000000000 } : Tune).tu = 180000000000 := by
  decide

/-- 08, channel 3 lags by 0.052° at 50 Hz: its DELAY goes down by 6. P and Q are the cosine and the sine of 60.052°. -/
theorem test_calExample :
    ready.calResult { id := 0, channel := 3, kind := 3, ref := dbl 60, seconds := 1, p := 0x3FDFF31E7FB4DAE5, q := 0x3FEBBA31D11E9F82 } (dbl 50) =
      (0, 0xFFFFFFFA, 0) := by decide +kernel

/-- 08, the water tables at 46.5 °C: 990.1465 kg/m³. -/
theorem test_waterExample : waterAt rhoTable (dOfRat 465 10) = dOfRat 9901465 10000 := by decide +kernel

/-- 10: 2000-01-01 is a Saturday, and 2099-12-31 is the last day. -/
theorem test_firstDay : fieldsOf 0 = [0, 0, 0, 6, 0x01, 0x01, 0x00] := by decide +kernel
theorem test_lastSecond : fieldsOf (calSpan - 1) = [0x59, 0x59, 0x23, 4, 0x31, 0x12, 0x99] := by decide +kernel
theorem test_leapDay : secsOf 0x00 0x00 0x00 0x29 0x02 0x24 ≠ none ∧ secsOf 0x00 0x00 0x00 0x29 0x02 0x23 = none := by decide +kernel

/-- CRC-32C of the nine digits, the check value that its catalogue gives. -/
theorem test_crc : crc32c [0x31, 0x32, 0x33, 0x34, 0x35, 0x36, 0x37, 0x38, 0x39] = 0xE3069283 := by decide +kernel
theorem test_sha : sha256 [] = digest0 := by decide +kernel

/-- The test case 14 of the GCM specification. -/
theorem test_gcm : gcmOpen (List.replicate 32 0) (List.replicate 12 0) [] (beBytes 16 0xCEA7403D4D606B6E074EC5D3BAF39D18)
    (beBytes 16 0xD0D1C8A799996BF0265B98B5D48AB919) = some (List.replicate 16 0) := by decide +kernel

/-! ### One command -/

/-- R76: SYS_NOP returns its first twelve bytes. -/
theorem test_nop :
    (match exec (.sysNop { iss with plen := 3 } [1, 2, 3]) ready with | .next t => t.mb.last | _ => none) =
      some ⟨.imm, iss.tag, eOk, 0x00030201, 0, 0⟩ := by decide +kernel
/-- An empty queue idles; a command leaves the queue. -/
theorem test_idle : step ready = .next ready := rfl
theorem test_reset_sound : Memory.wf State.reset.mem = true ∧ Registers.wf State.reset.regs = true := by decide +kernel

/-! ### For every statement with hypotheses, a state and operands that meet them, clause by clause -/


/-- A command meets the premise that it answers a next state, with one waiting behind it. -/
theorem witness_commandsKeepTheQueue :
    ∃ t, exec .writeEnable { ready with pending := [.spiReset] } = .next t := ⟨_, rfl⟩
theorem witness_emptyQueueIdles :
    (let s : State := ready
     s.pending = []) := by decide +kernel

theorem witness_stepKeepsCanonicalMaps :
    (let s : State := ready
     let t : State := ready
     s.sound ∧ step s = .next t) := by
  first | decide +kernel | exact ⟨⟨by decide +kernel, by decide +kernel⟩, rfl⟩

theorem witness_refusedCommandsOnlyComplete :
    (let s : State := ready
     let i : Issue := { iss with entryErr := some 2 }
     let st : Nat := 2
     s.gate { op := 0x0100, plen := 0 } i = some st) ∧
    (let s : State := ready
     let i : Issue := { iss with plen := 0 }
     let st : Nat := 2
     s.gate { op := 0x0102, plen := 4 } i = some st) ∧
    (let s : State := ready
     let i : Issue := { iss with plen := 0 }
     let st : Nat := 2
     s.gate { op := 0x0107, plen := 5, frozenNo := true } i = some st) ∧
    (let s : State := ready
     let i : Issue := { iss with plen := 0 }
     let st : Nat := 2
     s.gate { op := 0x0109, plen := 10 } i = some st) ∧
    (let s : State := ready
     let i : Issue := { iss with plen := 0 }
     let st : Nat := 2
     s.gate { op := 0x0201, plen := 9 } i = some st) ∧
    (let s : State := ready
     let i : Issue := { iss with plen := 0 }
     let st : Nat := 2
     s.gate { op := 0x0206, plen := 1, async := true } i = some st) ∧
    (let s : State := ready
     let i : Issue := { iss with plen := 0 }
     let st : Nat := 11
     s.gate { op := 0x0301, plen := 8, pers := some 1, frozenNo := true } i = some st) ∧
    (let s : State := ready
     let i : Issue := { iss with plen := 0 }
     let st : Nat := 2
     s.gate { op := 0x0304, plen := 3, pers := some 0, frozenNo := true } i = some st) ∧
    (let s : State := ready
     let i : Issue := { iss with plen := 0 }
     let st : Nat := 2
     s.gate { op := 0x0F01, plen := 2, frozenNo := true, async := true } i = some st) ∧
    (let s : State := ready
     let i : Issue := { iss with plen := 0 }
     let st : Nat := 2
     s.gate { op := 0x0F03, plen := 1 } i = some st) := by
  repeat refine ⟨by decide +kernel, ?_⟩
  decide +kernel

theorem witness_gateStatusFollowsTheRules :
    (let s : State := ready.setBit 0x10010 2 true
     let c : CmdRow := { op := 0x0401, plen := 11 }
     s.recovery = true ∧ recoveryCmd c.op = false) ∧
    (let s : State := { ready with cfg := some { personality := 1 } }
     let c : CmdRow := { op := 0x0401, plen := 11 }
     s.recovery = false ∧ s.persMismatch = true ∧ mismatchClass c.op = false) ∧
    (let s : State := ready
     let c : CmdRow := { op := 0x0401, plen := 11, pers := some 1 }
     s.recovery = false ∧ s.persMismatch = false ∧ (∃ p, c.pers = some p ∧ p ≠ s.pers)) ∧
    (let s : State := ready.setBit 0xA0008 0 true
     let c : CmdRow := { op := 0x0403, plen := 2, frozenNo := true }
     s.recovery = false ∧ s.persMismatch = false ∧ (∀ p, c.pers = some p → p = s.pers) ∧ s.frozen = true ∧
     c.frozenNo = true) ∧
    (let s : State := (List.range 32).foldl (fun t _ => t.startAsync (.sysInfo iss) iss) ready
     let c : CmdRow := { op := 0x0403, plen := 2, async := true }
     s.recovery = false ∧ s.persMismatch = false ∧ (∀ p, c.pers = some p → p = s.pers) ∧ c.frozenNo = false ∧
     c.async = true ∧ 32 ≤ s.mb.outstanding.length) ∧
    (let s : State := ready
     let c : CmdRow := { op := 0x0401, plen := 11 }
     let i : Issue := { iss with plen := 10 }
     s.recovery = false ∧ s.persMismatch = false ∧ (∀ p, c.pers = some p → p = s.pers) ∧ c.frozenNo = false ∧
     c.async = false ∧ i.entryErr = none ∧ i.plen < c.plen) ∧
    (let s : State := ready
     let c : CmdRow := { op := 0x0401, plen := 11 }
     let i : Issue := iss
     s.recovery = false ∧ s.persMismatch = false ∧ (∀ p, c.pers = some p → p = s.pers) ∧ s.frozen = false ∧
     c.async = false ∧ i.entryErr = none ∧ c.plen ≤ i.plen ∧ s.roleLost c.op = false) := by
  repeat refine ⟨by decide +kernel, ?_⟩
  decide +kernel

theorem witness_completionGoesToTheQueue :
    (let s : State := qpOn
     let k : Fin 8 := 0
     let i : Issue := issQ
     let j : Nat := 0
     i.src = .qp k ∧ s.qpActive k.val = true ∧ s.fld (qpReg k.val 0x1C) 13 12 = ownerCode i.host ∧
     (∀ j < 16, s.populated (s.cqSlot k.val + j) = true ∧ s.poisoned (s.cqSlot k.val + j) = false) ∧ j < 16) := by decide +kernel

theorem witness_completionFrame :
    (let a : Nat := 0
     (a < 0x10000 ∨ 0x20000 ≤ a)) ∧
    (let s : State := qpOn
     let i : Issue := issQ
     let k : Fin 8 := 0
     let a : Nat := 0
     i.src = .qp k ∧ (a < s.cqSlot k.val ∨ s.cqSlot k.val + 16 ≤ a)) ∧
    (let i : Issue := iss
     i.src = .imm) := by
  repeat refine ⟨by decide +kernel, ?_⟩
  decide +kernel

theorem witness_immediateCompletion :
    (let s : State := ready
     let i : Issue := iss
     i.src = .imm ∧ s.mb.routes = [] ∧ i.noirq = false) := by decide +kernel

theorem witness_eventsRaiseOneMessage :
    (let s : State := ready.setBit 0x10014 0 true
     let v : Fin 16 := 0
     s.bit 0x10014 v.val = true) ∧
    (let s : State := (ready.setBit 0x10018 0 true).setBit 0x1200C 0 false
     let v : Fin 16 := 0
     s.bit 0x10014 v.val = false ∧ s.bit 0x10018 v.val = true ∧ s.bit (0x1200C + 16 * v.val) 0 = false) ∧
    (let s : State := ready.setBit 0x10018 0 true
     let v : Fin 16 := 0
     s.bit 0x10014 v.val = false ∧ s.bit 0x10018 v.val = true ∧ s.bit (0x1200C + 16 * v.val) 0 = true) := by
  repeat refine ⟨by decide +kernel, ?_⟩
  decide +kernel

theorem witness_systemQueriesAnswer :
    (let s : State := ready
     let i : Issue := iss
     s.admits { op := 0x0100, plen := 0 } i) ∧
    (let s : State := ready
     let i : Issue := iss
     s.admits { op := 0x0101, plen := 0 } i) ∧
    (let s : State := ready
     let i : Issue := iss
     let t : Byte := 0
     let m : Byte := 0
     let r : Byte := 0
     s.admits { op := 0x0103, plen := 3 } i ∧ s.targetShape t.toNat ≠ none ∧ m.toNat ≤ 15 ∧ r.toNat ≤ 15) ∧
    (let s : State := ready
     let i : Issue := iss
     s.admits { op := 0x0106, plen := 0 } i) ∧
    (let s : State := { ready with cfgBytes := [(0, [7])] }
     let i : Issue := iss
     let r : W16 := 0
     let buf : Buf := buf 64
     let b : Bytes := [7]
     s.admits { op := 0x0108, plen := 10 } i ∧ kfind s.cfgBytes r.toNat = some b ∧ s.bufOk i.host true buf = true ∧
     b.length ≤ buf.len.toNat) := by
  repeat refine ⟨by decide +kernel, ?_⟩
  decide +kernel

theorem witness_systemSettingsTakeEffect :
    (let s : State := ready
     let i : Issue := iss
     let b : W32 := 0x01000000
     s.admits { op := 0x0102, plen := 4 } i ∧ b.toNat % 0x100000 = 0 ∧ b.toNat ≤ 0x01000000 ∧
     s.windowHolds b.toNat = true) ∧
    (let s : State := State.reset
     let i : Issue := iss
     let tg : Byte := 0
     let m : Byte := 11
     let r : Byte := 0
     let rt : Byte := 0x03
     let a : W32 := 0x1000000
     let b : W32 := 0x1FFFFFF
     s.admits { op := 0x0104, plen := 12 } i ∧ s.targetShape tg.toNat ≠ none ∧ (m.toNat = 11 ∨ m.toNat = 12) ∧
     r.toNat ≤ 15 ∧ s.conf.hostLock = false ∧ s.entryOk ⟨tg.toNat, m.toNat, r.toNat, a.toNat, b.toNat, rt⟩ = true ∧
     (s.accEntry tg.toNat m.toNat r.toNat).rights.getLsbD 7 = false) ∧
    (let s : State := ready
     let i : Issue := iss
     let src : Byte := 0
     let vec : Byte := 0
     s.admits { op := 0x0105, plen := 2 } i ∧ (src.toNat = 0 ∨ (9 ≤ src.toNat ∧ src.toNat ≤ 15)) ∧ vec.toNat ≤ 15) ∧
    (let s : State := ready
     let i : Issue := iss
     let n : W32 := 3600
     let now : Byte := 1
     s.admits { op := 0x0107, plen := 5, frozenNo := true } i ∧ (n.toNat = 0 ∨ (3600 ≤ n.toNat ∧ n.toNat ≤ 2592000)) ∧
     now.toNat ≤ 1 ∧ s.rotPhase = 0 ∧ s.hasRsv = true) ∧
    (let s : State := ready
     let i : Issue := { iss with env := { record := some { personality := 0 }, recFormat := BitVec.ofNat 16 (ready.fld 0xC0020 31 16) } }
     let r : W16 := 0
     let buf : Buf := buf 64
     let c : CfgRecord := { personality := 0 }
     s.admits { op := 0x0109, plen := 10 } i ∧ s.bufOk i.host false buf = true ∧
     i.env.recFormat.toNat = s.fld 0xC0020 31 16 ∧ i.env.record = some c ∧ s.recordOk c = true ∧
     (((kdel s.cfgBytes r.toNat).map fun (p : Nat × Bytes) => p.2.length).sum + buf.len.toNat ≤ storeRoom)) ∧
    (let s : State := ready
     let op : W16 := 0
     s.recovery = false ∧ (s.persMismatch = false ∨ mismatchClass op.toNat = true)) ∧
    (let s : State := { ready with cfg := some { personality := 1 } }
     let op : W16 := 0x0500
     s.recovery = false ∧ s.persMismatch = true ∧ mismatchClass op.toNat = false) ∧
    (let s : State := ready.setBit 0x10010 2 true
     s.recovery = true) := by
  repeat refine ⟨by decide +kernel, ?_⟩
  decide +kernel

theorem witness_doorbellIsJudgedInOrder :
    (let s : State := ready
     let h : HostId := .hostp
     let p : Byte := 0
     let k := p.toNat
     let mine := s.qpActive k = true ∧ s.fld (qpReg k 0x1C) 13 12 = ownerCode h
     p.toNat ≤ 7 ∧ s.hostOn h = true ∧ ¬ mine) ∧
    (let s : State := qpOn
     let h : HostId := .hostp
     let p : Byte := 0
     let v : W32 := 16
     let k := p.toNat
     let tail := fldOf v 15 0
     let mine := s.qpActive k = true ∧ s.fld (qpReg k 0x1C) 13 12 = ownerCode h
     p.toNat ≤ 7 ∧ s.hostOn h = true ∧ mine ∧ s.sqLen k ≤ tail) ∧
    (let s : State := qpOn
     let h : HostId := .hostp
     let p : Byte := 0
     let v : W32 := 0x00010000
     let k := p.toNat
     let tail := fldOf v 15 0
     let head := fldOf v 31 16
     let mine := s.qpActive k = true ∧ s.fld (qpReg k 0x1C) 13 12 = ownerCode h
     let inRange := head < s.cqLen k ∧ inQueueOrder (s.cqLen k) (s.rd (qpReg k 0x14)).toNat head (s.rd (qpReg k 0x18)).toNat = true
     p.toNat ≤ 7 ∧ s.hostOn h = true ∧ mine ∧ tail < s.sqLen k ∧ ¬ inRange) ∧
    (let s : State := qpOn
     let h : HostId := .hostp
     let p : Byte := 0
     let v : W32 := 0
     let k := p.toNat
     let tail := fldOf v 15 0
     let head := fldOf v 31 16
     let mine := s.qpActive k = true ∧ s.fld (qpReg k 0x1C) 13 12 = ownerCode h
     let inRange := head < s.cqLen k ∧ inQueueOrder (s.cqLen k) (s.rd (qpReg k 0x14)).toNat head (s.rd (qpReg k 0x18)).toNat = true
     p.toNat ≤ 7 ∧ s.hostOn h = true ∧ mine ∧ tail < s.sqLen k ∧ inRange) := by
  repeat refine ⟨by decide +kernel, ?_⟩
  decide +kernel

theorem witness_queuePairsStartAndEnd :
    (let s : State := qpSet
     let h : HostId := .hostp
     let p : Byte := 0
     let v : W32 := 1
     let k := p.toNat
     let u := s.wr (qpReg k 0x1C) ((s.rd (qpReg k 0x1C) &&& 0xFFFFF0E6) ||| (v &&& 0xF19))
     let o : Nat := 0xC
     p.toNat ≤ 7 ∧ s.hostOn h = true ∧ s.bit (qpReg k 0x1C) 0 = false ∧ v.getLsbD 0 = true ∧ u.recovery = false ∧
     u.qpOk h k = true ∧ o ∈ [0xC, 0x10, 0x14, 0x18]) ∧
    (let s : State := ready
     let h : HostId := .hostp
     let p : Byte := 0
     let v : W32 := 1
     let k := p.toNat
     let u := s.wr (qpReg k 0x1C) ((s.rd (qpReg k 0x1C) &&& 0xFFFFF0E6) ||| (v &&& 0xF19))
     p.toNat ≤ 7 ∧ s.hostOn h = true ∧ s.bit (qpReg k 0x1C) 0 = false ∧ v.getLsbD 0 = true ∧ u.recovery = false ∧
     u.qpOk h k = false) ∧
    (let s : State := qpOn
     let h : HostId := .hostp
     let p : Byte := 0
     let v : W32 := 0
     let k := p.toNat
     p.toNat ≤ 7 ∧ s.hostOn h = true ∧ s.bit (qpReg k 0x1C) 0 = true ∧ v.getLsbD 0 = false ∧ s.pairBusy k = false) ∧
    (let s : State := qpOn.startAsync (.sysInfo issQ) issQ
     let h : HostId := .hostp
     let p : Byte := 0
     let v : W32 := 0
     let k := p.toNat
     p.toNat ≤ 7 ∧ s.hostOn h = true ∧ s.bit (qpReg k 0x1C) 0 = true ∧ v.getLsbD 0 = false ∧ s.pairBusy k = true) := by
  repeat refine ⟨by decide +kernel, ?_⟩
  decide +kernel

theorem witness_firnFetchesInTurn :
    (let s : State := { serving with log := { serving.log with waitWrites := [{ code := 0x0C80, source := .hostp, tunset := false, time := 0, p0 := 0, p1 := 0, p2 := 0, waiter := some iss }] } }
     s.serving = true ∧ s.chip.draining = none ∧ s.logWrites ≠ []) ∧
    (let s : State := serving
     s.serving = true ∧ s.chip.draining = none ∧ s.logWrites = [] ∧ s.mb.waiting = [] ∧ s.pick = none) ∧
    (let s : State := ready
     s.serving = false) ∧
    (let s : State := { serving1 with acc := [] }
     let k : Fin 8 := 0
     s.serving = true ∧ s.chip.draining = none ∧ s.logWrites = [] ∧ s.mb.waiting = [] ∧ s.pick = some k.val ∧
     s.sramOk (hostMaster (s.ownerOf k.val)) false (s.entryAt k.val) 64 = false) ∧
    (let s : State := serving1
     let k : Fin 8 := 0
     s.serving = true ∧ s.chip.draining = none ∧ s.logWrites = [] ∧ s.mb.waiting = [] ∧ s.pick = some k.val ∧
     s.sramOk (hostMaster (s.ownerOf k.val)) false (s.entryAt k.val) 64 = true) := by
  repeat refine ⟨by decide +kernel, ?_⟩
  decide +kernel

theorem witness_mailboxRegistersRespond :
    (let s : State := ready.setBit 0x10048 2 true
     let h : HostId := .hostp
     s.hostOn h = true ∧ s.bit 0x10048 2 = true) ∧
    (let s : State := ready
     let h : HostId := .hostp
     s.hostOn h = true ∧ s.bit 0x10048 2 = false) ∧
    (let s : State := ready
     let h : HostId := .hostp
     let a : Nat := 4
     s.hostOn h = true ∧ a ≠ 0x1001C) ∧
    (let s : State := ready
     let h : HostId := .hostp
     let r : W32 := 5
     s.hostOn h = true ∧ r ≠ 0) ∧
    (let s : State := ready
     let h : HostId := .hostp
     let r : W16 := 0
     let b : Nat := 0
     s.hostOn h = true ∧ b < 16 ∧ r.getLsbD b = false) ∧
    (let s : State := ready
     let h : HostId := .hostp
     let r : W16 := 0xFFFF
     let b : Nat := 0
     s.hostOn h = true ∧ b < 16 ∧ r.getLsbD b = true) := by
  repeat refine ⟨by decide +kernel, ?_⟩
  decide +kernel

theorem witness_hostLinksAct :
    (let s : State := qpOn
     let k : Fin 8 := 0
     s.fld (qpReg k.val 0x1C) 13 12 = 1) ∧
    (let s : State := ready
     s.hostOn .hostp = true) ∧
    (let s : State := ready
     let h : HostId := .hostp
     s.hostOn h = true) ∧
    (let s : State := ready
     let h : HostId := .hostp
     let o : W32 := 0
     let d : Bytes := [1, 2]
     s.hostOn h = true ∧ o.toNat + d.length ≤ 0x1000000 ∧
     s.sramOk (hostMaster h) true (s.window + o.toNat) d.length = true ∧
     s.cleanRun true (s.window + o.toNat) d.length = true) ∧
    (let s : State := ready.setBit aDomOn 0x14 false
     let h : HostId := .hostp
     s.hostOn h = false) ∧
    (let s : State := ready.setBit aDomOn 0x14 false
     let h : HostId := .hostp
     s.hostOn h = false) ∧
    (let s : State := ready
     s.spiOn = true) ∧
    (let s : State := qpOn.setFld 0x1011C 13 12 2
     let k : Fin 8 := 0
     s.spiOn = true ∧ s.fld (qpReg k.val 0x1C) 13 12 = 2) := by
  repeat refine ⟨by decide +kernel, ?_⟩
  decide +kernel

theorem witness_resetsStartTheChip :
    (let straps : Straps := { ready.chip.straps with pers := 3 }
     (straps.pers = 2 ∨ straps.pers = 3 ∨ 2 ≤ straps.bootsel.toNat)) ∧
    (let straps : Straps := { ready.chip.straps with bootsel := 1 }
     straps.pers.toNat ≤ 1 ∧ straps.bootsel = 1) ∧
    (let s : State := { ready with chip := { ready.chip with straps := { ready.chip.straps with bootsel := 1 } } }
     let c : Byte := 2
     2 ≤ c.toNat ∧ c.toNat ≤ 5 ∧ s.chip.straps.pers.toNat ≤ 1 ∧ s.chip.straps.bootsel = 1) ∧
    (let a : Nat := 0x10600000
     0x10000000 ≤ a ∧ a < 0x12000000) ∧
    (let a : Nat := 0x1000000
     (a < 0x10000000 ∨ 0x12000000 ≤ a)) := by
  repeat refine ⟨by decide +kernel, ?_⟩
  decide +kernel

theorem witness_normalStartReachesReady :
    (let s : State := ready
     let straps : Straps := ready.chip.straps
     let env : BootEnv := {}
     straps.pers.toNat ≤ 1 ∧ straps.bootsel = 0 ∧ env.migrated = none ∧ s.boot.oldCfg = none ∧ s.conf.autostart = 0) := by decide +kernel

theorem witness_restartsAreAnnounced :
    (let s : State := ready
     let i : Issue := iss
     s.admits { op := 0x010A, plen := 1 } i ∧ s.logWrites = [] ∧ s.mb.outstanding = []) ∧
    (let s : State := { ready with mb := { ready.mb with outstanding := [{ id := 0, cmd := .logFlush iss, iss := iss }] } }
     let i : Issue := iss
     s.admits { op := 0x010A, plen := 1 } i ∧ (s.logWrites ≠ [] ∨ s.mb.outstanding ≠ [])) ∧
    (let s : State := { ready with boot := { ready.boot with goodDone := true } }
     let at_ : Nat := 0
     (s.reach at_).onTrial = false ∧ (s.reach at_).mb.outstanding = [] ∧ (s.reach at_).mb.waiting = [] ∧
     s.chip.restarts = []) ∧
    (let s : State := { ready with boot := { ready.boot with goodDone := true } }
     s.onTrial = false ∧ (s.raise 0).onTrial = false) ∧
    (let s : State := ready
     (s.raise 0).onTrial = true) ∧
    (let s : State := ready
     s.onTrial = true) ∧
    (let s : State := { ready.setBit 0x10010 1 true with chip := { ready.chip with draining := some {} } }
     let e : BootEnv := {}
     s.chip.draining = some e ∧ (s.reach s.chip.drainEnd).logWrites = [] ∧ (s.reach s.chip.drainEnd).mb.outstanding = []) ∧
    (let s : State := ready.setBit 0x10010 1 true
     s.bit 0x10010 1 = true ∧ s.chip.draining = none) := by
  repeat refine ⟨by decide +kernel, ?_⟩
  decide +kernel

theorem witness_imagesAreWrittenAndStaged :
    (let s : State := ready
     let i : Issue := iss
     let k : Byte := 1
     let n : W32 := 448
     s.admits { op := 0x0D01, plen := 5 } i ∧ k.toNat ≤ 1 ∧ n.toNat % 64 = 0 ∧ 192 ≤ n.toNat ∧ n.toNat ≤ 0x600000 ∧
     (k.toNat ≠ s.running ∨ s.recovery = true) ∧ s.slotState k.toNat ≠ slTrial ∧ s.boot.opened = none ∧
     s.receiving k.toNat = false) ∧
    (let s : State := { ready with boot := { ready.boot with opened := some (1, 448) } }
     let i : Issue := iss
     let o : W32 := 0
     let buf : Buf := buf 32
     let k : Nat := 1
     let n : Nat := 448
     let a : Nat := 0
     s.admits { op := 0x0D02, plen := 12 } i ∧ s.boot.opened = some (k, n) ∧ o.toNat + buf.len.toNat ≤ n ∧
     buf.len.toNat ≤ 65536 ∧ s.bufOk i.host false buf = true ∧ i.src = .imm ∧
     (a < slotBase k + o.toNat ∨ slotBase k + o.toNat + buf.len.toNat ≤ a)) ∧
    (let s : State := { ready with boot := { ready.boot with opened := some (1, 448) } }
     let i : Issue := iss
     let o : W32 := 416
     let buf : Buf := buf 32
     let k : Nat := 1
     let n : Nat := 448
     s.admits { op := 0x0D02, plen := 12 } i ∧ s.boot.opened = some (k, n) ∧ o.toNat + buf.len.toNat ≤ n ∧
     buf.len.toNat ≤ 65536 ∧ s.bufOk i.host false buf = true) ∧
    (let s : State := { staged with boot := { ready.boot with opened := some (1, 448), blocks := [0] } }
     let i : Issue := iss
     let k : Nat := 1
     let n : Nat := 448
     s.admits { op := 0x0D03, plen := 0 } i ∧ s.boot.opened = some (k, n) ∧ k ≤ 1 ∧ s.boot.blocks.length = nBlocks n ∧
     s.slotCheck k = none ∧ cLength (s.slotBytes k) ≤ n) ∧
    (let s : State := ready
     let i : Issue := iss
     s.admits { op := 0x0D05, plen := 0 } i) ∧
    (let s : State := { head.setSlotState 0 slGood with cfg := some { personality := 1, downAddr := [5] } }
     let i : Issue := iss
     let p : Byte := 0
     let k : Byte := 0
     s.admits { op := 0x0D06, plen := 2, pers := some 1 } i ∧ p.toNat ≤ 1 ∧ k.toNat ≤ 1 ∧ s.standby = false ∧
     (s.slotState k.toNat = slStaged ∨ s.slotState k.toNat = slTrial ∨ s.slotState k.toNat = slGood) ∧
     kfind s.boot.tx p.toNat = none ∧ s.downAddr p.toNat ≠ 0) := by
  repeat refine ⟨by decide +kernel, ?_⟩
  decide +kernel

theorem witness_activationAndGoodBoot_1 :
    (let s : State := ready.wr 0xC001C 0xFF
     let at_ : Nat := 60000000000
     let u := s.reach at_
     u.recovery = false ∧ u.boot.goodDone = false ∧ u.rolesCurrent = true ∧ u.cfg.isSome = true ∧
     u.chip.firnStart + 60000000000 ≤ u.now) := by decide +kernel

theorem witness_activationAndGoodBoot_2 :
    (let s : State := ready
     let i : Issue := iss
     s.admits { op := 0x0D04, plen := 1, frozenNo := true, async := true } i ∧ s.boot.activating = none ∧
     s.slotState s.running ≠ slTrial) := by decide +kernel

theorem witness_activationAndGoodBoot_3 :
    (let s : State := staged
     let i : Issue := iss
     s.admits { op := 0x0D04, plen := 1, frozenNo := true, async := true } i ∧ s.boot.activating = none ∧
     s.slotState s.inactive = slStaged ∧ s.firnVerdict = eOk) := by decide +kernel

theorem witness_activationAndGoodBoot_4 :
    (let s : State := good
     let i : Issue := iss
     let c : Byte := 2
     2 ≤ c.toNat ∧ c.toNat ≤ 5 ∧ s.admits { op := 0x0D04, plen := 1, frozenNo := true, async := true } i ∧
     s.boot.activating = none ∧ (s.slotState s.running = slTrial ∨ s.slotState s.running = slGood) ∧ s.hasRsv = true ∧
     s.componentOk c.toNat = true) := by decide +kernel

theorem witness_activationAndGoodBoot_5 :
    (let s : State := { ((staged.setFld 0x60004 2 0 2).setBit 0xA0008 0 true) with cfg := near.cfg, boot := { staged.boot with actAt := some (7, 0, 1) } }
     let at_ : Nat := 1
     let img : W32 := 7
     let slot : Nat := 0
     let w : W64 := 1
     let c : Nat := 1
     (s.reach at_).boot.actAt = some (img, slot, w) ∧ (s.reach at_).isHead = false ∧ (s.reach at_).recovery = false ∧
     (s.reach at_).conf.avActivate = true ∧ w.toNat ≤ (s.reach at_).now ∧ (s.reach at_).activateSkip slot = some c) := by decide +kernel

theorem witness_activationAndGoodBoot_6 :
    (let s : State := { (staged.setFld 0x60004 2 0 2) with cfg := near.cfg, boot := { staged.boot with actAt := some (7, 1, 1) } }
     let at_ : Nat := 1
     let img : W32 := 7
     let slot : Nat := 1
     let w : W64 := 1
     let u := ({ s.reach at_ with boot := { (s.reach at_).boot with actAt := none } } : State).bootWrite
     (s.reach at_).boot.actAt = some (img, slot, w) ∧ (s.reach at_).isHead = false ∧ (s.reach at_).recovery = false ∧
     (s.reach at_).conf.avActivate = true ∧ w.toNat ≤ (s.reach at_).now ∧ (s.reach at_).activateSkip slot = none ∧
     u.firnVerdict = eOk) := by decide +kernel

theorem witness_activationAndGoodBoot_7 :
    (let s : State := ready
     let tile : Byte := 2
     let k : Nat := 0
     s.tileRole tile.toNat = some k ∧ ¬ (1 ≤ s.rotPhase ∧ s.rotPhase ≤ 5 ∧ s.rotRole = k)) := by decide +kernel

theorem witness_fieldFramesPassTheGate :
    (let s : State := { ready with port := { ready.port with cfg := [(0, { fwd := 0x16, required := true })] } }
     let h : FrameHeader := { hdr with sec := false }
     let u := s.reach h.at_
     (u.portCfg h.port).required = true ∧ h.sec = false) ∧
    (let s : State := ready.wr 0x90044 0x21
     let h : FrameHeader := { hdr with claim := 0x10 }
     let u := s.reach h.at_
     u.carried h ∧ (h.port ≠ 3 ∨ u.paired = false) ∧ u.accepts h true = .claimLow) ∧
    (let s : State := pairIn 2
     let h : FrameHeader := { hdr with port := 3 }
     let u := s.reach h.at_
     u.carried h ∧ h.port = 3 ∧ u.paired = true) ∧
    (let s : State := ready.wr 0x90044 0x21
     let h : FrameHeader := { hdr with dst := 9 }
     let u := s.reach h.at_
     u.carried h ∧ (h.port ≠ 3 ∨ u.paired = false) ∧ u.accepts h false = .drop ∧ h.src.toNat ≠ u.address) ∧
    (let s : State := ready.wr 0x90044 0x21
     let h : FrameHeader := { hdr with sysid := 9 }
     let u := s.reach h.at_
     u.carried h ∧ u.accepts h false = .drop ∧ h.src.toNat ≠ u.address) := by
  repeat refine ⟨by decide +kernel, ?_⟩
  decide +kernel

theorem witness_avalancheTransfers_1 :
    (let s : State := near
     let h : FrameHeader := hdr
     let b : AnnounceBody := ⟨7, 4096, 6, 1, 0, 0, cmac256 (near.heard hdr true).avlKey (annBody 7 4096 6 1 0 0)⟩
     let u := s.heard h true
     (s.reach h.at_).carried h ∧ (h.port ≠ 3 ∨ (s.reach h.at_).paired = false) ∧ s.avStopped = false ∧
     (s.reach h.at_).accepts h true = .ok ∧ u.upOk h = true ∧ u.slotValid 2 = true ∧
     cmac256 u.avlKey (annBody b.image b.length.toNat b.flags b.version b.svn b.activateAt) = b.cmac ∧
     cAllows b.flags u.isHead = true ∧ (u.rd 0xC0010).toNat ≤ b.svn.toNat ∧ 1 ≤ b.length.toNat ∧
     b.length.toNat ≤ 0x600000 ∧ u.boot.opened = none ∧ u.boot.rx = none) := by
  iterate 5 refine ⟨by decide +kernel, ?_⟩
  refine ⟨rfl, ?_⟩
  decide +kernel

theorem witness_avalancheTransfers_2 :
    (let s : State := receiving7
     let h : FrameHeader := hdr
     let b : FragBody := ⟨7, 0, 1, [9], []⟩
     let r : AvRx := rx7
     (s.reach h.at_).carried h ∧ (h.port ≠ 3 ∨ (s.reach h.at_).paired = false) ∧ s.avStopped = false ∧
     (s.reach h.at_).accepts h false = .ok ∧ (s.heard h false).boot.rx = some r ∧ r.image = b.image ∧ r.sender = h.src ∧
     (s.heard h false).receiving r.slot = true ∧ b.block.toNat = r.block ∧ b.block.toNat < nBlocks r.length ∧
     r.frags = [] ∧ b.frag ≠ 3) := by decide +kernel

theorem witness_avalancheTransfers_3 :
    (let s : State := { near with boot := { near.boot with tx := [(0, tx7)] } }
     let h : FrameHeader := hdr
     let b : AvAckBody := ⟨7, 1, 1, 1⟩
     let x : AvTx := tx7
     (s.reach h.at_).carried h ∧ (h.port ≠ 3 ∨ (s.reach h.at_).paired = false) ∧ s.avStopped = false ∧
     (s.reach h.at_).accepts h false = .ok ∧ kfind (s.heard h false).boot.tx h.port = some x ∧ x.image = b.image ∧
     (s.heard h false).downAddr h.port = h.src ∧ (b.state = 1 ∨ b.state = 2)) := by decide +kernel

theorem witness_avalancheTransfers_4 :
    (let s : State := receiving7
     let h : FrameHeader := hdr
     let img : W32 := 7
     let r : AvRx := rx7
     (s.reach h.at_).carried h ∧ (h.port ≠ 3 ∨ (s.reach h.at_).paired = false) ∧ s.avStopped = false ∧
     (s.reach h.at_).accepts h true = .ok ∧ (s.heard h true).boot.rx = some r ∧ r.image = img ∧ r.sender = h.src ∧
     (s.heard h true).receiving r.slot = true) := by decide +kernel

theorem witness_avalancheTransfers_5 :
    (let s : State := { near with boot := { near.boot with tx := [(0, { tx7 with resends := 20 })] } }
     let h : FrameHeader := hdr
     let p : Byte := 0
     let x : AvTx := { tx7 with resends := 20 }
     (s.reach h.at_).carried h ∧ (h.port ≠ 3 ∨ (s.reach h.at_).paired = false) ∧ s.avStopped = false ∧
     kfind s.boot.tx p.toNat = some x ∧ x.suspended = false ∧ x.resends ≥ 20) := by decide +kernel

theorem witness_avalancheTransfers_6 :
    (let s : State := { near with boot := { near.boot with tx := [(0, tx7)] } }
     let h : FrameHeader := hdr
     let p : Byte := 0
     let x : AvTx := tx7
     (s.reach h.at_).carried h ∧ (h.port ≠ 3 ∨ (s.reach h.at_).paired = false) ∧ s.avStopped = false ∧
     kfind s.boot.tx p.toNat = some x ∧ x.suspended = false ∧ x.resends < 20) := by decide +kernel

theorem witness_avalancheTransfers_7 :
    (let s : State := { near with boot := { near.boot with tx := [(0, { tx7 with suspended := true })] } }
     let h : FrameHeader := hdr
     let p : Byte := 0
     let x : AvTx := { tx7 with suspended := true }
     (s.reach h.at_).carried h ∧ (h.port ≠ 3 ∨ (s.reach h.at_).paired = false) ∧ s.avStopped = false ∧
     kfind s.boot.tx p.toNat = some x ∧ x.suspended = true) := by decide +kernel

theorem witness_registerWritesFollowAccessTypes :
    (let s : State := ready
     let m : Master := .firn
     let address : Nat := 0xB0004
     let r : RegRow := (regRow 0xB0004).getD ⟨0, 1, 4, 0, 0, 0, 0, 0, 0, 1, .none, false⟩
     let a := address / 4 * 4
     ((a / 0x10000 = 2 ∧ a ≠ 0x20044) ∨ (a / 0x10000 = 0xB ∧ a ≠ 0xB004C)) ∧ isPairLo a = false ∧
     isPairLo (a - 4) = false ∧ s.regDenied m a true = none ∧ regRow a = some r ∧ r.opens m = true ∧ r.banked = false) ∧
    (let s : State := { ready with acc := ready.acc ++ [⟨0x1B, 2, 0, 0, 0xFFFF, 3⟩] }
     let m : Master := .cyc0
     let address : Nat := 0xB0040
     let r : RegRow := (regRow 0xB0040).getD { off := 0 }
     let a := address / 4 * 4
     ((a / 0x10000 = 2 ∧ a ≠ 0x20044) ∨ (a / 0x10000 = 0xB ∧ a ≠ 0xB004C)) ∧ isPairLo a = false ∧
     isPairLo (a - 4) = false ∧ s.regDenied m a true = none ∧ regRow a = some r ∧ r.opens m = true ∧ r.banked = true) ∧
    (let s : State := { ready with acc := ready.acc ++ [⟨0x1B, 2, 0, 0, 0xFFFF, 3⟩] }
     let m : Master := .cyc0
     let address : Nat := 0xB0004
     let r : RegRow := (regRow 0xB0004).getD ⟨0, 1, 4, 0, 0, 0, 0, 0, 0, 1, .none, false⟩
     let a := address / 4 * 4
     ((a / 0x10000 = 2 ∧ a ≠ 0x20044) ∨ (a / 0x10000 = 0xB ∧ a ≠ 0xB004C)) ∧ isPairLo a = false ∧
     isPairLo (a - 4) = false ∧ s.regDenied m a true = none ∧ regRow a = some r ∧ r.opens m = false) ∧
    (let s : State := ready
     let m : Master := .firn
     let address : Nat := 0xB0004
     let r : RegRow := (regRow 0xB0004).getD ⟨0, 1, 4, 0, 0, 0, 0, 0, 0, 1, .none, false⟩
     let a := address / 4 * 4
     let x : W32 := 2
     let k := if r.banked then bankKey a (masterId m) else a
     let b : Nat := 4
     ((a / 0x10000 = 2 ∧ a ≠ 0x20044) ∨ (a / 0x10000 = 0xB ∧ a ≠ 0xB004C)) ∧ isPairLo a = false ∧
     isPairLo (a - 4) = false ∧ s.regDenied m a true = none ∧ regRow a = some r ∧ x ≠ 0 ∧ b ≠ k) := by
  repeat refine ⟨by decide +kernel, ?_⟩
  decide +kernel

theorem witness_refusedWritesAreDiscarded :
    (let s : State := ready.setBit 0x34 31 true
     let m : Master := .hostp
     let address : Nat := 0xB0004
     let np : Bool := true
     s.regDenied m (address / 4 * 4) true = some np ∧ s.bit 0x34 31 = true) ∧
    (let s : State := ready
     let m : Master := .hostp
     let address : Nat := 0xB0004
     let np : Bool := true
     let a : Nat := 0x40
     s.regDenied m (address / 4 * 4) true = some np ∧ a ≠ 0x30 ∧ a ≠ 0x34 ∧ a ≠ 0x38 ∧ a ≠ 0x3C ∧ a < 0xB0000) := by
  repeat refine ⟨by decide +kernel, ?_⟩
  decide +kernel

theorem witness_readsClearRcFields :
    (let s : State := ready.wr 0x1001C 0x70003
     let m : Master := .firn
     let address : Nat := 0x1001C
     let rising : W32 := 0
     let r : RegRow := (regRow 0x1001C).getD { off := 0 }
     let a := address / 4 * 4
     actsOnRead a = false ∧ s.regDenied m a false = none ∧ regRow a = some r ∧ r.rc ≠ 0 ∧
     kfind s.halves.shadows (halfKey a (masterId m)) = none ∧ rising &&& w32 r.rc = 0) ∧
    (let s : State := ready.wr 0x1001C 0x70003
     let m : Master := .firn
     let address : Nat := 0x1001C
     let rising : W32 := 1
     let r : RegRow := (regRow 0x1001C).getD { off := 0 }
     let a := address / 4 * 4
     actsOnRead a = false ∧ s.regDenied m a false = none ∧ regRow a = some r ∧ r.rc ≠ 0 ∧
     kfind s.halves.shadows (halfKey a (masterId m)) = none ∧ rising &&& w32 r.rc ≠ 0) ∧
    (let s : State := ready.wr 0x1001C 0x70003
     let m : Master := .firn
     let address : Nat := 0x1001C
     let r : RegRow := (regRow 0x1001C).getD { off := 0 }
     let a := address / 4 * 4
     let b : Nat := 4
     actsOnRead a = false ∧ s.regDenied m a false = none ∧ regRow a = some r ∧ r.rc ≠ 0 ∧
     kfind s.halves.shadows (halfKey a (masterId m)) = none ∧ b ≠ a) := by
  repeat refine ⟨by decide +kernel, ?_⟩
  decide +kernel

theorem witness_registerPairsMoveAsOne :
    (let s : State := ready
     let m : Master := .firn
     let address : Nat := 0x20018
     let r : RegRow := (regRow 0x20018).getD { off := 0 }
     let a := address / 4 * 4
     isPairLo a = true ∧ s.regDenied m a true = none ∧ regRow a = some r ∧ r.opens m = true ∧
     (a / 0x40 = 0x60000 / 0x40 → s.servoWriter m = true)) ∧
    (let s : State := ready
     let m : Master := .firn
     let address : Nat := 0x2001C
     let r : RegRow := (regRow 0x2001C).getD { off := 0 }
     let a := address / 4 * 4
     4 ≤ a ∧ isPairLo (a - 4) = true ∧ s.regDenied m a true = none ∧ regRow a = some r ∧ r.opens m = true ∧
     (a / 0x40 = 0x60000 / 0x40 → s.servoWriter m = true)) ∧
    (let s : State := ready
     let m : Master := .firn
     let address : Nat := 0x20018
     let a := address / 4 * 4
     isReadLo a = true ∧ actsOnRead a = false ∧ s.regDenied m a false = none ∧
     kfind s.halves.shadows (halfKey a (masterId m)) = none) := by
  repeat refine ⟨by decide +kernel, ?_⟩
  decide +kernel

theorem witness_accessTablesAreWrittenWhole :
    (let s : State := ready.wrAll [(0x10, 0xB00), (0x14, 0x1000000), (0x18, 0x1FFFFFF), (0x1C, 1)]
     let e : AccEntry := ⟨s.fld 0x10 5 0, s.fld 0x10 11 8, s.fld 0x10 19 16, (s.rd 0x14).toNat, (s.rd 0x18).toNat, BitVec.ofNat 8 (s.fld 0x1C 7 0)⟩
     let old := s.accEntry e.target e.master e.region
     let g : Nat := 0
     let m : Nat := 1
     let r : Nat := 0
     old.rights.getLsbD 7 = false ∧ s.entryShape e = true ∧ s.rightsPathed e = true ∧ notWX e = true ∧
     writersKept e = true ∧ ¬ (g = e.target ∧ m = e.master ∧ r = e.region)) ∧
    (let s : State := ready
     let e : AccEntry := ⟨s.fld 0x10 5 0, s.fld 0x10 11 8, s.fld 0x10 19 16, (s.rd 0x14).toNat, (s.rd 0x18).toNat, BitVec.ofNat 8 (s.fld 0x1C 7 0)⟩
     let old := s.accEntry e.target e.master e.region
     (old.rights.getLsbD 7 = true ∨ s.entryShape e = false ∨ s.rightsPathed e = false ∨ notWX e = false ∨ writersKept e = false)) ∧
    (let m : Master := .cyc0
     m ≠ .firn) := by
  repeat refine ⟨by decide +kernel, ?_⟩
  decide +kernel

theorem witness_violationsAreRecorded :
    (let s : State := ready
     let m : Master := .firn
     let kind : Byte := 0
     let address : Nat := 0
     kind.toNat % 4 ≤ 2 ∧ s.admits24 m (kind.toNat % 4) (address % 2 ^ 40) = true) ∧
    (let s : State := ready
     let m : Master := .hostp
     let kind : Byte := 0
     let address : Nat := 0x10000000
     kind.toNat % 4 ≤ 2 ∧ s.admits24 m (kind.toNat % 4) (address % 2 ^ 40) = false ∧ kind.toNat % 4 ≠ 1) ∧
    (let s : State := ready
     let m : Master := .hostp
     let kind : Byte := 1
     let address : Nat := 0x10000000
     kind.toNat % 4 ≤ 2 ∧ s.admits24 m (kind.toNat % 4) (address % 2 ^ 40) = false ∧ s.bit 0x34 31 = false) ∧
    (let s : State := ready.setBit 0x34 31 true
     let m : Master := .hostp
     let kind : Byte := 1
     let address : Nat := 0x10000000
     kind.toNat % 4 ≤ 2 ∧ s.admits24 m (kind.toNat % 4) (address % 2 ^ 40) = false ∧ s.bit 0x34 31 = true) := by
  repeat refine ⟨by decide +kernel, ?_⟩
  decide +kernel

theorem witness_debuggersActAsTheirCore :
    (let s : State := ready
     let core : Master := .cyc0
     s.inScope core = false) ∧
    (let s : State := { problem with key := { ready.key with debug := true, scope := 3 } }
     let core : Master := .cyc0
     let address : Nat := 0x1010000
     let a := address % 2 ^ 40
     s.inScope core = true ∧ ¬ (0x40000000 ≤ a ∧ a < 0x41000000) ∧ s.memAdmits core 0 a 4 = true) ∧
    (let s : State := { problem with key := { ready.key with debug := true, scope := 3 } }
     let core : Master := .cyc0
     let address : Nat := 0x1010000
     let d : Bytes := [5, 6]
     let a := address % 2 ^ 40
     let j : Nat := 0
     s.inScope core = true ∧ a + d.length ≤ 0x02000000 ∧ s.memAdmits core 1 a d.length = true ∧
     (∀ j < d.length, s.poisoned (a + j) = false) ∧ j < d.length) ∧
    (let s : State := { problem with key := { ready.key with debug := true, scope := 3 } }
     let core : Master := .cyc0
     let address : Nat := 0x1010000
     let d : Bytes := [5, 6]
     let a := address % 2 ^ 40
     let b : Nat := 0x1010002
     s.inScope core = true ∧ a + d.length ≤ 0x02000000 ∧ s.memAdmits core 1 a d.length = true ∧
     (∀ j < d.length, s.poisoned (a + j) = false) ∧ (b < a ∨ a + d.length ≤ b)) := by
  repeat refine ⟨by decide +kernel, ?_⟩
  decide +kernel

theorem witness_spiReachesTheWindow :
    (let s : State := { problem with spi := { octal := true, wel := true } }
     let a : W32 := 0x01010000
     let n : Nat := 4
     let o := a.toNat - 0x01000000
     s.spiOn = true ∧ 0x01000000 ≤ a.toNat ∧ a.toNat + n ≤ 0x02000000 ∧ (∀ j < n, s.spiTakes false (o + j) = true)) ∧
    (let s : State := ready
     let a : W32 := 0x01010000
     let n : Nat := 4
     let o := a.toNat - 0x01000000
     let j : Nat := 0
     s.spiOn = true ∧ 0x01000000 ≤ a.toNat ∧ a.toNat + n ≤ 0x02000000 ∧ j < n ∧ s.spiTakes false (o + j) = true) ∧
    (let s : State := { problem with acc := [], spi := { octal := true, wel := true } }
     let a : W32 := 0x01010000
     let n : Nat := 4
     let o := a.toNat - 0x01000000
     let j : Nat := 0
     s.spiOn = true ∧ 0x01000000 ≤ a.toNat ∧ a.toNat + n ≤ 0x02000000 ∧ j < n ∧ s.spiTakes false (o + j) = false) ∧
    (let s : State := { problem with acc := [], spi := { octal := true, wel := true } }
     let a : W32 := 0x01010000
     let n : Nat := 4
     let o := a.toNat - 0x01000000
     s.spiOn = true ∧ 0x01000000 ≤ a.toNat ∧ a.toNat + n ≤ 0x02000000 ∧ (∃ j < n, s.spiTakes false (o + j) = false)) ∧
    (let s : State := { problem with spi := { octal := true, wel := true } }
     let a : W32 := 0x01010000
     let d : Bytes := [5, 6]
     let o := a.toNat - 0x01000000
     let j : Nat := 0
     s.spiOn = true ∧ 0x01000000 ≤ a.toNat ∧ a.toNat + d.length ≤ 0x02000000 ∧ 1 ≤ d.length ∧ d.length ≤ 256 ∧
     s.spi.wel = true ∧ j < d.length ∧ s.spiTakes true (o + j) = true) ∧
    (let s : State := { problem with acc := [], spi := { octal := true, wel := true } }
     let a : W32 := 0x01010000
     let d : Bytes := [5, 6]
     let o := a.toNat - 0x01000000
     let j : Nat := 0
     s.spiOn = true ∧ 0x01000000 ≤ a.toNat ∧ a.toNat + d.length ≤ 0x02000000 ∧ 1 ≤ d.length ∧ d.length ≤ 256 ∧
     s.spi.wel = true ∧ j < d.length ∧ s.spiTakes true (o + j) = false) ∧
    (let s : State := { problem with spi := { octal := true, wel := true } }
     let a : W32 := 0x01010000
     let d : Bytes := [5, 6]
     let o := a.toNat - 0x01000000
     let b : Nat := 0
     s.spiOn = true ∧ 0x01000000 ≤ a.toNat ∧ a.toNat + d.length ≤ 0x02000000 ∧ 1 ≤ d.length ∧ d.length ≤ 256 ∧
     s.spi.wel = true ∧ (b < s.window + o ∨ s.window + o + d.length ≤ b)) ∧
    (let s : State := { problem with acc := [], spi := { octal := true, wel := true } }
     let a : W32 := 0x01010000
     let d : Bytes := [5, 6]
     let o := a.toNat - 0x01000000
     s.spiOn = true ∧ 0x01000000 ≤ a.toNat ∧ a.toNat + d.length ≤ 0x02000000 ∧ 1 ≤ d.length ∧ d.length ≤ 256 ∧
     s.spi.wel = true ∧ (∃ j < d.length, s.spiTakes true (o + j) = false)) ∧
    (let s : State := ready
     let d : Bytes := [5, 6]
     s.spiOn = true ∧ (s.spi.wel = false ∨ d = [] ∨ 256 < d.length)) := by
  repeat refine ⟨by decide +kernel, ?_⟩
  decide +kernel

theorem witness_solverCommandsAnswer :
    (let s : State := queued
     let i : Issue := iss
     s.admits { op := 0x0205, plen := 0 } i) ∧
    (let s : State := queued
     let i : Issue := iss
     let p : Dbl := 0x3D10000000000000
     let r : Dbl := 0x3D10000000000000
     s.admits { op := 0x0207, plen := 16 } i ∧ paramOk p = true ∧ paramOk r = true) ∧
    (let s : State := queued
     let i : Issue := iss
     let p : Dbl := 0
     let r : Dbl := 0
     s.admits { op := 0x0207, plen := 16 } i ∧ (paramOk p = false ∨ paramOk r = false)) ∧
    (let s : State := queued
     let i : Issue := iss
     let n : W32 := 1
     let b : Batch := batch1
     s.admits { op := 0x0202, plen := 4 } i ∧ s.batch n.toNat = some b) ∧
    (let s : State := { problem with solv := { problem.solv with finished := [{ batch1 with waiting := [], done := 1 }] } }
     let i : Issue := iss
     let n : W32 := 1
     let b : Batch := { batch1 with waiting := [], done := 1 }
     s.admits { op := 0x0203, plen := 8, async := true } i ∧ s.batch n.toNat = some b ∧ s.batchLive b.id = false) ∧
    (let s : State := queued
     let i : Issue := iss
     let n : W32 := 1
     let b : Batch := batch1
     s.admits { op := 0x0203, plen := 8, async := true } i ∧ s.batch n.toNat = some b ∧ s.batchLive b.id = true) ∧
    (let s : State := { queued with mb := { queued.mb with outstanding := [{ id := 0, cmd := .solvBatchWait iss 1 0, iss := iss, ref := 1 }] } }
     let n : W32 := 1
     let o : Outst := { id := 0, cmd := .solvBatchWait iss 1 0, iss := iss, ref := 1 }
     let b : Batch := batch1
     s.firstWait n.toNat = some o ∧ s.batch n.toNat = some b) := by
  repeat refine ⟨by decide +kernel, ?_⟩
  decide +kernel

theorem witness_batchesAreQueued :
    (let s : State := problem
     let m : Master := .hostp
     let desc : Nat := 0x1010000
     let n : Nat := 20
     let h := s.rdMem desc 16
     let k : Nat := 0
     s.sramOk m false desc 16 = true ∧ (∀ j < n, s.poisoned (desc + j) = false) ∧
     n = 16 + 4 * leAt (s.rdMem desc 16) 0 4 ∧ s.sramOk m false desc n = true ∧ 1 ≤ leAt h 0 4 ∧ leAt h 0 4 ≤ 1024 ∧
     leAt h 8 1 ≤ 3 ∧ leAt h 9 1 ≤ 1 ∧ leAt h 10 6 = 0 ∧ (leAt h 8 1 = 3 → m = .seq) ∧
     w32 (leAt h 4 4) &&& ~~~(s.rd 0x20004) = 0 ∧ s.solv.batches.length < 64 ∧ k < leAt h 0 4) ∧
    (let s : State := problem
     let m : Master := .hostp
     let desc : Nat := 0x1010000
     let n : Nat := 20
     let h := s.rdMem desc 16
     let i : Issue := iss
     let buf : Buf := ⟨0x10000, 20⟩
     let nf : Byte := 0
     s.sramOk m false desc 16 = true ∧ (∀ j < n, s.poisoned (desc + j) = false) ∧
     n = 16 + 4 * leAt (s.rdMem desc 16) 0 4 ∧ s.sramOk m false desc n = true ∧ 1 ≤ leAt h 0 4 ∧ leAt h 0 4 ≤ 1024 ∧
     leAt h 8 1 ≤ 3 ∧ leAt h 9 1 ≤ 1 ∧ leAt h 10 6 = 0 ∧ (leAt h 8 1 = 3 → m = .seq) ∧
     w32 (leAt h 4 4) &&& ~~~(s.rd 0x20004) = 0 ∧ s.solv.batches.length < 64 ∧ s.admits { op := 0x0201, plen := 9 } i ∧
     m = hostMaster i.host ∧ nf.toNat ≤ 1 ∧ desc = s.winAddr buf.off ∧ n = buf.len.toNat ∧
     s.bufOk i.host false buf = true) ∧
    (let s : State := problem.wr (bankKey 0x20040 2) 0x1010000
     let m : Master := .cyc0
     let desc : Nat := 0x1010000
     let n : Nat := 20
     let h := s.rdMem desc 16
     let v : W32 := 1
     s.sramOk m false desc 16 = true ∧ (∀ j < n, s.poisoned (desc + j) = false) ∧
     n = 16 + 4 * leAt (s.rdMem desc 16) 0 4 ∧ s.sramOk m false desc n = true ∧ 1 ≤ leAt h 0 4 ∧ leAt h 0 4 ≤ 1024 ∧
     leAt h 8 1 ≤ 3 ∧ leAt h 9 1 ≤ 1 ∧ leAt h 10 6 = 0 ∧ (leAt h 8 1 = 3 → m = .seq) ∧
     w32 (leAt h 4 4) &&& ~~~(s.rd 0x20004) = 0 ∧ s.solv.batches.length < 64 ∧ s.regDenied m 0x20044 true = none ∧
     (m = .cyc0 ∨ m = .cyc1 ∨ m = .cyc2 ∨ m = .cyc3 ∨ m = .seq) ∧ desc = (s.rd (bankKey 0x20040 (masterId m))).toNat ∧
     v.getLsbD 0 = true ∧ s.bit (bankKey 0x20044 (masterId m)) 1 = false) := by
  repeat refine ⟨by decide +kernel, ?_⟩
  decide +kernel

theorem witness_cancelEmptiesABatch :
    (let s : State := { queued with solv := { queued.solv with front := [(7, 0, false)] } }
     let i : Issue := iss
     let n : W32 := 1
     let b : Batch := batch1
     s.admits { op := 0x0204, plen := 4 } i ∧ s.batch n.toNat = some b ∧ s.batchLive b.id = true) ∧
    (let s : State := running1
     let i : Issue := iss
     let n : W32 := 1
     let b : Batch := (running1.batch 1).getD batch1
     s.admits { op := 0x0204, plen := 4 } i ∧ s.batch n.toNat = some b ∧ s.batchLive b.id = true) ∧
    (let s : State := queued
     let i : Issue := iss
     let n : W32 := 1
     let b : Batch := batch1
     s.admits { op := 0x0204, plen := 4 } i ∧ s.batch n.toNat = some b ∧ s.batchLive b.id = true) := by
  repeat refine ⟨by decide +kernel, ?_⟩
  decide +kernel

theorem witness_problemsRunOnLanes :
    (let s : State := ready
     let at_ : Nat := 0
     ((s.reach at_).solvStopped = true ∨ (s.reach at_).nextDispatch = none)) ∧
    (let s : State := queued
     let at_ : Nat := 0
     let lg : Nat := 0
     let w : Waiting := ⟨batch1, 0, 0x1020000, false, false⟩
     let u := (s.reach at_).takeWaiting w
     (s.reach at_).solvStopped = false ∧ (s.reach at_).nextDispatch = some (lg, w) ∧
     u.accessFault w.batch.master w.off = 0) ∧
    (let s : State := { queued with acc := [] }
     let at_ : Nat := 0
     let lg : Nat := 0
     let w : Waiting := ⟨batch1, 0, 0x1020000, false, false⟩
     let u := (s.reach at_).takeWaiting w
     (s.reach at_).solvStopped = false ∧ (s.reach at_).nextDispatch = some (lg, w) ∧
     u.accessFault w.batch.master w.off ≠ 0) ∧
    (let s : State := running1
     let lane : Byte := 0
     let r : SolvRun := run1
     kfind s.solv.runs lane.toNat = some r ∧ s.persMismatch = false ∧ s.broken r.batch r.index = false) ∧
    (let s : State := ready
     let lane : Byte := 0
     (kfind s.solv.runs lane.toNat = none ∨ s.persMismatch = true)) ∧
    (let s : State := ready
     let i : Issue := iss
     let lane : Byte := 0
     s.admits { op := 0x0206, plen := 1, async := true } i ∧ lane.toNat ≤ 33 ∧ s.laneRetired lane.toNat = false ∧
     s.lanePowered lane.toNat = true ∧ s.laneInService lane.toNat = false) ∧
    (let s : State := queued
     let lane : Byte := 0
     lane.toNat ≤ 33 ∧ s.laneRetired lane.toNat = false ∧ s.lanePowered lane.toNat = true ∧
     s.laneInService lane.toNat = true ∧ kfind s.solv.runs (s.laneLogical lane.toNat) = none) ∧
    (let s : State := running1
     let lane : Byte := 0
     let r : SolvRun := run1
     lane.toNat ≤ 33 ∧ s.laneRetired lane.toNat = false ∧ s.lanePowered lane.toNat = true ∧
     s.laneInService lane.toNat = true ∧ kfind s.solv.runs (s.laneLogical lane.toNat) = some r ∧ r.phys = lane.toNat ∧
     r.faulted = false) ∧
    (let s : State := { problem with time := { ready.time with ns := 100 }, solv := { queued.solv with nextId := 1 } }.setFld 0x60004 2 0 2
     let at_ : Nat := 100
     let w : Waiting := ⟨batch1, 0, 0x1020000, false, false⟩
     let u := (s.reach at_).takeWaiting w
     (s.reach at_).solvStopped = false ∧ (s.reach at_).timeState ≠ 0 ∧ (s.reach at_).orphan = some w ∧
     u.accessFault w.batch.master w.off = 0) := by
  repeat refine ⟨by decide +kernel, ?_⟩
  decide +kernel

theorem witness_driftSettingsAreStored :
    (let s : State := { head with mem := cells 0x1010000 net1, drift := { head.drift with sched := some (4, 1, 0) } }
     let i : Issue := iss
     let buf : Buf := buf 136
     s.admits { op := 0x0301, plen := 8, pers := some 1, frozenNo := true } i ∧ s.bufOk i.host false buf = true ∧
     leAt (s.rdBuf buf) 0 2 = 1 ∧ netShape (s.rdBuf buf) = true ∧ netTimes (s.rdBuf buf) = true ∧
     (∀ q, s.drift.sched = some q → netFitsSched (s.rdBuf buf) q = true) ∧
     (s.paired = true → netVolume (s.rdBuf buf) s.rounds ≤ 0x800000)) ∧
    (let s : State := ready
     let i : Issue := iss
     let p : W32 := 4
     let r : Byte := 1
     let st : W64 := 0
     s.admits { op := 0x0302, plen := 13, frozenNo := true } i ∧ 1 ≤ p.toNat ∧ p.toNat ≤ 3600 ∧ 1 ≤ r.toNat ∧
     r.toNat ≤ 16 ∧
     (s.isHead = true → s.drift.hd.started = none ∧ ∀ b, s.netHeld = some b → netFitsSched b (p.toNat, r.toNat, st.toNat) = true ∧ (s.paired = true → netVolume b r.toNat ≤ 0x800000))) ∧
    (let s : State := { stn with mem := cells 0x1010000 tmpl1 ++ cells 0x1030000 rec1 }
     let i : Issue := iss
     let buf : Buf := buf 48
     s.admits { op := 0x0303, plen := 8, pers := some 0, frozenNo := true } i ∧ s.bufOk i.host false buf = true ∧
     leAt (s.rdBuf buf) 0 2 = 1 ∧ s.tmplOk (s.rdBuf buf) = true) ∧
    (let s : State := ready
     let i : Issue := iss
     let p : Byte := 1
     let k : W16 := 0
     s.admits { op := 0x0304, plen := 3, pers := some 0, frozenNo := true } i ∧ 1 ≤ p.toNat ∧ p.toNat ≤ 64 ∧
     k.toNat ≤ 1023 ∧ s.bidQueued = false) ∧
    (let s : State := ready
     let i : Issue := iss
     let buf : Buf := buf 16
     let h : Byte := 1
     s.admits { op := 0x0305, plen := 9, pers := some 0 } i ∧ 8 ≤ buf.len.toNat ∧ buf.len.toNat ≤ 512 ∧
     buf.len.toNat % 8 = 0 ∧ 1 ≤ h.toNat ∧ s.bufOk i.host false buf = true) := by
  repeat refine ⟨by decide +kernel, ?_⟩
  decide +kernel

theorem witness_driftRoundsStartAndStop :
    (let s : State := { headNet with drift := { headNet.drift with hd := { headNet.drift.hd with started := none } } }
     let i : Issue := iss
     let b : Bytes := net1
     let q : Nat × Nat × Nat := (4, 1, 0)
     s.admits { op := 0x0306, plen := 0, pers := some 1, frozenNo := true } i ∧ s.netHeld = some b ∧
     s.drift.sched = some q ∧ 1 ≤ q.1 ∧ s.standby = false ∧ s.timeState = 2 ∧ s.drift.hd.started = none ∧
     netFitsSched b q = true) ∧
    (let s : State := inRound
     let i : Issue := iss
     s.admits { op := 0x0307, plen := 0, pers := some 1 } i) := by
  repeat refine ⟨by decide +kernel, ?_⟩
  decide +kernel

theorem witness_driftReadsAnswer :
    (let s : State := inRound.setHd fun h => { h with prices := [(0, 1, 0, [9, 9])] }
     let i : Issue := iss
     let period : W32 := 0
     let buf : Buf := buf 64
     let round : Byte := 1
     let l := s.drift.hd.prices.filter fun q => keptHead s.nowPeriod q.1 && q.1 % 2 ^ 32 == period.toNat && q.2.1 == round.toNat
     let b := (sortBy (fun q => q.2.2.1) l).flatMap fun q => q.2.2.2
     s.bufOk i.host true buf = true ∧ s.admits { op := 0x0308, plen := 13, pers := some 1 } i ∧ l ≠ [] ∧
     b.length ≤ buf.len.toNat) ∧
    (let s : State := inRound.setHd fun h => { h with plans := [(0, 2, 1, [0])] }
     let i : Issue := iss
     let period : W32 := 0
     let buf : Buf := buf 64
     let l := s.drift.hd.plans.filter fun q => keptHead s.nowPeriod q.1 && q.1 % 2 ^ 32 == period.toNat
     let b := (sortBy (fun q => q.2.1) l).flatMap fun q => planEntry q.2.1 q.2.2.1 q.2.2.2
     s.bufOk i.host true buf = true ∧ s.admits { op := 0x0309, plen := 12 } i ∧ s.isHead = true ∧ l ≠ [] ∧
     b.length ≤ buf.len.toNat) ∧
    (let s : State := stn.setSt fun t => { t with plans := [⟨0, 1, 1, [5]⟩] }
     let i : Issue := iss
     let period : W32 := 0
     let buf : Buf := buf 64
     let p : StationPlan := ⟨0, 1, 1, [5]⟩
     let b := leBytes 4 p.period ++ [BitVec.ofNat 8 p.final, BitVec.ofNat 8 p.src, 0, 0] ++ p.pv.flatMap le8
     s.bufOk i.host true buf = true ∧ s.admits { op := 0x0309, plen := 12 } i ∧ s.isHead = false ∧
     (s.drift.st.plans.find? fun p => decide (p.period ≤ s.nowPeriod ∧ s.nowPeriod ≤ p.period + 1) && p.period % 2 ^ 32 == period.toNat) = some p ∧
     b.length ≤ buf.len.toNat) ∧
    (let s : State := stn.setSt fun t => { t with bids := [(0, 1, [0, 0, 0, 0, 1, 1])] }
     let i : Issue := iss
     let period : W32 := 0
     let buf : Buf := buf 64
     let round : Byte := 1
     let q : Nat × Nat × Bytes := (0, 1, [0, 0, 0, 0, 1, 1])
     s.bufOk i.host true buf = true ∧ s.admits { op := 0x030A, plen := 13, pers := some 0 } i ∧
     (s.drift.st.bids.find? fun q => keptBid s.nowPeriod q.1 && q.1 == period.toNat && q.2.1 == round.toNat) = some q ∧
     q.2.2.length ≤ buf.len.toNat) := by
  repeat refine ⟨by decide +kernel, ?_⟩
  decide +kernel

theorem witness_headRunsItsRounds :
    (let s : State := headNet
     let at_ : Nat := 1000000000
     let u := s.reach at_
     let k : Nat := 0
     let r : Nat := 1
     let v := if u.drift.hd.period ≠ k ∨ u.drift.hd.ran = false then u.beginPeriod k r else u
     let x : NetBranch := (netBranches net1).getD 0 ⟨0, 0, 0, [], []⟩
     u.roundOf at_ = some (k, r) ∧ u.isHead = true ∧ (∃ k0, u.drift.hd.started = some k0 ∧ k0 ≤ k) ∧ u.standby = false ∧
     v.drift.hd.final = 0 ∧ u.launches = true ∧ x ∈ netBranches (v.drift.hd.net.getD [])) ∧
    (let s : State := headNet
     let at_ : Nat := 5
     let u := s.reach at_
     u.roundOf at_ = none) ∧
    (let s : State := inRound
     let h : FrameHeader := hdr
     let v : BidBody := ⟨0, 1, 0, 0, 0, 0, 1, BitVec.ofNat 32 (priceCrc (inRound.headBranch 0).lam), [0]⟩
     let w := s.reach h.at_
     (s.reach h.at_).carried h ∧ (s.reach h.at_).accepts h false = .ok ∧ (h.port ≠ 3 ∨ (s.reach h.at_).paired = false) ∧
     (s.reach h.at_).driftStopped = false ∧ (s.reach h.at_).isHead = true ∧ w.bidFails h v = 0) ∧
    (let s : State := inRound
     let h : FrameHeader := hdr
     let v : BidBody := ⟨0, 1, 0, 0, 1, 0, 1, 0, [0]⟩
     let w := s.reach h.at_
     (s.reach h.at_).carried h ∧ (s.reach h.at_).accepts h false = .ok ∧ (h.port ≠ 3 ∨ (s.reach h.at_).paired = false) ∧
     (s.reach h.at_).driftStopped = false ∧ (s.reach h.at_).isHead = true ∧ w.bidFails h v ≠ 0) ∧
    (let s : State := inRound
     let at_ : Nat := 1002000000
     let u := s.reach at_
     let d := u.drift.hd
     let b := d.net.getD []
     u.driftStopped = false ∧ u.isHead = true ∧ d.started ≠ none ∧ d.ran = true ∧ d.closed ≠ d.round ∧
     u.roundAt d.period d.round + (leAt b 8 4 + leAt b 16 4) * 1000 ≤ at_ ∧ ((netStations b).map fun x => x.addr).Nodup ∧
     d.round = u.rounds) ∧
    (let s : State := { inRound with drift := { inRound.drift with sched := some (4, 3, 0), hd := { inRound.drift.hd with net := some (net1.set 7 2) } } }
     let at_ : Nat := 502000000
     let u := s.reach at_
     let d := u.drift.hd
     let b := d.net.getD []
     u.driftStopped = false ∧ u.isHead = true ∧ d.started ≠ none ∧ d.ran = true ∧ d.closed ≠ d.round ∧
     u.roundAt d.period d.round + (leAt b 8 4 + leAt b 16 4) * 1000 ≤ at_ ∧ ((netStations b).map fun x => x.addr).Nodup ∧
     d.round < leAt b 7 1 ∧ d.round ≠ u.rounds) ∧
    (let s : State := inRound
     let at_ : Nat := 1002000000
     let u := s.reach at_
     let d := u.drift.hd
     let b := d.net.getD []
     let x : NetStation := ⟨2, 0, 0, 1, 1, 128⟩
     u.driftStopped = false ∧ u.isHead = true ∧ d.started ≠ none ∧ d.ran = true ∧ d.closed ≠ d.round ∧
     u.roundAt d.period d.round + (leAt b 8 4 + leAt b 16 4) * 1000 ≤ at_ ∧ ((netStations b).map fun x => x.addr).Nodup ∧
     x ∈ netStations b) ∧
    (let s : State := inRound.setHd fun h => { h with final := 1, closed := 1 }
     let at_ : Nat := 3000000000
     let u := s.reach at_
     let d := u.drift.hd
     let x : NetStation := ⟨2, 0, 0, 1, 1, 128⟩
     u.driftStopped = false ∧ u.isHead = true ∧ d.ran = true ∧ d.final ≠ 0 ∧ at_ = u.commitAt d.period ∧
     u.standby = false ∧ x ∈ netStations (d.net.getD [])) := by
  repeat refine ⟨by decide +kernel, ?_⟩
  decide +kernel

theorem witness_stationBidsInRounds :
    (let s : State := stn
     let h : FrameHeader := { hdr with src := 1, claim := 0x10 }
     (s.reach h.at_).carried h ∧ (s.reach h.at_).accepts h true = .ok ∧ (h.port ≠ 3 ∨ (s.reach h.at_).paired = false) ∧
     (s.heard h true).driftStopped = false ∧ (s.heard h true).isHead = false) ∧
    (let s : State := stn
     let h : FrameHeader := { hdr with src := 1, claim := 0x10 }
     let v : PriceBody := ⟨0, 1, 1, 1, 0, 0, [0x3FF0000000000000]⟩
     let q : RoundInfo := info1
     let n : Nat := 1
     let b : Bytes := tmpl1
     let u := (s.heard h true).keepResult
     (s.reach h.at_).carried h ∧ (s.reach h.at_).accepts h true = .ok ∧ (h.port ≠ 3 ∨ (s.reach h.at_).paired = false) ∧
     u.curRound = some q ∧ u.drift.st.tmpl = some (n, b) ∧ u.driftStopped = false ∧ u.isHead = false ∧ q.stop = false ∧
     v.period.toNat = q.period ∧ v.round.toNat = q.round ∧ v.branch.toNat = tBranch b ∧ v.prices.length = tK b ∧
     (∀ w, u.drift.st.work = some w → ¬(w.info.period = q.period ∧ w.info.round = q.round)) ∧
     u.solv.batches.length < 64 ∧ u.memAdmits .seq 0 (tBase b) (u.probAt (tBase b)).recLen = true ∧
     u.memAdmits .seq 1 (tWork b) (u.probAt (tBase b)).recLen = true) ∧
    (let s : State := { stn with mem := cells 0x1040000 rec1 ++ cells 0x1050000 ([0, 0, 1, 1] ++ List.replicate 44 0 ++ leBytes 4 5 ++ List.replicate 4 0 ++ [1, 1] ++ List.replicate 22 0), drift := { stn.drift with st := { stn.drift.st with historyOf := 0, work := some { claim := 0, crc := 0, batch := 5, info := info1, tmpl := (1, tmpl1), out := some ⟨0, 1, 0, false, [5]⟩ } } } }
     let at_ : Nat := 1000900000
     let q : RoundInfo := info1
     let w : Assembled := { claim := 0, crc := 0, batch := 5, info := info1, tmpl := (1, tmpl1), out := some ⟨0, 1, 0, false, [5]⟩ }
     let o : Solved := ⟨0, 1, 0, false, [5]⟩
     let u := (s.reach at_).keepResult
     u.curRound = some q ∧ u.driftStopped = false ∧ u.isHead = false ∧ q.stop = false ∧ u.drift.st.work = some w ∧
     w.info.period = q.period ∧ w.info.round = q.round ∧ w.out = some o ∧ o.status ≠ 0x0108 ∧ o.flags.getLsbD 0 = true ∧
     u.schedMatches q = true ∧ at_ < u.bidAt q ∧ u.drift.st.ended ≠ some (q.period, q.round)) ∧
    (let s : State := stn.setSt fun t => { t with info := some { info1 with stop := true } }
     let at_ : Nat := 1001000000
     let q : RoundInfo := { info1 with stop := true }
     let u := (s.reach at_).keepResult
     u.curRound = some q ∧ u.driftStopped = false ∧ u.isHead = false ∧ u.drift.st.ended ≠ some (q.period, q.round) ∧
     q.stop = true) ∧
    (let s : State := stn
     let at_ : Nat := 1001000000
     let q : RoundInfo := info1
     let u := (s.reach at_).keepResult
     u.curRound = some q ∧ u.driftStopped = false ∧ u.isHead = false ∧ u.drift.st.ended ≠ some (q.period, q.round) ∧
     q.stop = false ∧ (∀ w, u.drift.st.work = some w → ¬(w.info.period = q.period ∧ w.info.round = q.round)) ∧
     u.bidAt q ≤ at_) ∧
    (let s : State := { stn with mem := cells 0x1040000 rec1 ++ cells 0x1050000 ([0, 0, 1, 1] ++ List.replicate 44 0 ++ leBytes 4 5 ++ List.replicate 4 0 ++ [1, 1] ++ List.replicate 22 0), drift := { stn.drift with st := { stn.drift.st with historyOf := 0, work := some { claim := 0, crc := 0, batch := 5, info := info1, tmpl := (1, tmpl1), out := none } } } }
     let w : Assembled := { claim := 0, crc := 0, batch := 5, info := info1, tmpl := (1, tmpl1), out := none }
     let r : Bytes := ([0, 0, 1, 1] ++ List.replicate 44 0 ++ leBytes 4 5 ++ List.replicate 4 0 ++ [1, 1] ++ List.replicate 22 0)
     s.drift.st.work = some w ∧ w.out = none ∧ s.resultOf w.tmpl.2 w.batch = some r ∧ rValid r = true ∧
     rCarried r = false ∧ s.drift.st.historyOf = w.info.period) := by
  repeat refine ⟨by decide +kernel, ?_⟩
  decide +kernel

theorem witness_stationStagesPlans :
    (let s : State := stn.setSt fun t => { t with history := [(1, [7], [8])] }
     let h : FrameHeader := { hdr with src := 1, claim := 0x10, at_ := 3000000000 }
     let v : PlanBody := ⟨0, 1, 1, 0, [1]⟩
     let n : Nat := 1
     let b : Bytes := tmpl1
     let k : Nat := 0
     let x : Nat × List W64 × List W64 := (1, [7], [8])
     let u := (s.heard h true).keepResult
     let pos := u.drift.st.place.1
     let code := (v.src.getD (pos - 1) 0x1F).toNat
     (s.reach h.at_).carried h ∧ (s.reach h.at_).accepts h true = .ok ∧ (h.port ≠ 3 ∨ (s.reach h.at_).paired = false) ∧
     u.drift.st.tmpl = some (n, b) ∧ u.periodAt u.now = some k ∧ u.driftStopped = false ∧ u.isHead = false ∧
     v.period.toNat = k % 2 ^ 32 ∧ v.chain.toNat = tChain b ∧ 1 ≤ pos ∧ pos ≤ v.npos.toNat ∧ 1 ≤ code ∧ code ≤ 16 ∧
     u.drift.st.historyOf = v.period.toNat ∧ (u.drift.st.history.find? fun e => e.1 == code) = some x) ∧
    (let s : State := { (stn.setSt fun t => { t with lastPlan := some 0 }) with drift := { (stn.setSt fun t => { t with lastPlan := some 0 }).drift with hold := 1 } }
     let at_ : Nat := 8000000000
     let j : Nat := 0
     let u := s.reach at_
     u.drift.st.lastPlan = some j ∧ u.isHead = false ∧ u.drift.st.expired = false ∧
     u.periodStart (j + 1 + u.drift.hold) ≤ at_) := by
  repeat refine ⟨by decide +kernel, ?_⟩
  decide +kernel

theorem witness_loopCommandsTakeEffect_1 :
    (let s : State := { loopMan with mem := cells 0x1010000 bank1 }
     let i : Issue := iss
     let loop : W16 := 0
     let k := loop.toNat
     let bank : Byte := 1
     let buf : Buf := buf 96
     loop.toNat ≤ 255 ∧ s.admits { op := 0x0401, plen := 11 } i ∧ s.bufOk i.host false buf = true ∧
     s.descStatus k bank.toNat (s.rdBuf buf) = eOk) := by decide +kernel

theorem witness_loopCommandsTakeEffect_2 :
    (let s : State := loopMan
     let i : Issue := iss
     let loop : W16 := 0
     let k := loop.toNat
     let bank : Byte := 0
     let buf : Buf := buf 96
     loop.toNat ≤ 255 ∧ s.admits { op := 0x0402, plen := 11 } i ∧ bank.toNat ≤ 3 ∧ s.bufOk i.host true buf = true ∧
     (s.partBytes k bank.toNat).length ≤ buf.len.toNat) := by decide +kernel

theorem witness_loopCommandsTakeEffect_3 :
    (let s : State := loopMan
     let i : Issue := iss
     let loop : W16 := 0
     let k := loop.toNat
     loop.toNat ≤ 255 ∧ s.admits { op := 0x0403, plen := 2, frozenNo := true, async := true } i ∧ s.swapRefusal k = 0) := by decide +kernel

theorem witness_loopCommandsTakeEffect_4 :
    (let s : State := loopMan
     let i : Issue := iss
     let loop : W16 := 0
     let k := loop.toNat
     let mode : Byte := 0x82
     let man : Dbl := 0
     loop.toNat ≤ 255 ∧ s.admits { op := 0x0404, plen := 11, frozenNo := true } i ∧ mode.toNat % 8 ≤ 2 ∧
     mode &&& 0x78 = 0 ∧ dFinite man = true ∧
     (mode.toNat % 8 = 0 ∨ s.loopLive k = true ∨ (s.loopUnset k = false ∧ s.loadFails k = none))) := by decide +kernel

theorem witness_loopCommandsTakeEffect_5 :
    (let s : State := crowd
     let i : Issue := iss
     let loop : W16 := 0
     let k := loop.toNat
     let mode : Byte := 1
     let man : Dbl := 0
     let n : Nat := 56
     loop.toNat ≤ 255 ∧ s.admits { op := 0x0404, plen := 11, frozenNo := true } i ∧ mode.toNat % 8 ≤ 2 ∧
     mode &&& 0x78 = 0 ∧ dFinite man = true ∧ mode.toNat % 8 ≠ 0 ∧ s.loopLive k = false ∧ s.loopUnset k = false ∧
     s.loadFails k = some n) := by
  iterate 8 refine ⟨by decide +kernel, ?_⟩
  exact crowd_full

theorem witness_loopCommandsTakeEffect_6 :
    (let s : State := loopMan
     let i : Issue := iss
     let loop : W16 := 0
     let k := loop.toNat
     let nc : Byte := 2
     let amp : Dbl := 0x3FF0000000000000
     let hyst : Dbl := 0
     loop.toNat ≤ 255 ∧ s.admits { op := 0x0405, plen := 19, frozenNo := true } i ∧ 2 ≤ nc.toNat ∧ nc.toNat ≤ 16 ∧
     dFinite amp = true ∧ dLt dZero amp = true ∧ dFinite hyst = true ∧ dLe dZero hyst = true ∧
     (∀ v ∈ [dAdd (s.lrun k).uPrev amp, dSub (s.lrun k).uPrev amp], dLe (dblAt (s.lbank k (s.actBank k)) 72) v = true ∧ dLe v (dblAt (s.lbank k (s.actBank k)) 80) = true) ∧
     (s.lmode k = 1 ∨ s.lmode k = 2) ∧ s.loop.tune = none ∧ (∀ j < 256, s.lmode j ≠ 3)) := by
  iterate 8 refine ⟨by decide +kernel, ?_⟩
  refine ⟨by simp only [List.mem_cons, List.not_mem_nil, or_false, forall_eq_or_imp, forall_eq]; decide +kernel, ?_⟩
  decide +kernel

theorem witness_loopCommandsTakeEffect_7 :
    (let s : State := loopMan
     let i : Issue := iss
     let loop : W16 := 0
     let k := loop.toNat
     loop.toNat ≤ 255 ∧ s.admits { op := 0x0406, plen := 2 } i ∧ s.fld 0x30030 7 0 = k) := by decide +kernel

theorem witness_loopCommandsTakeEffect_8 :
    (let s : State := loopMan
     let i : Issue := iss
     let loop : W16 := 0
     loop.toNat ≤ 255 ∧ s.admits { op := 0x0407, plen := 2 } i) := by decide +kernel

theorem witness_loopRegistersMakeRequests :
    (let s : State := loopMan
     let m : Master := .hostp
     let loop : Byte := 0
     let k := loop.toNat
     let np : Bool := true
     s.regDenied m (lReg k 0xC) true = some np) ∧
    (let s : State := loopMan
     let m : Master := .mtr
     let loop : Byte := 0
     let k := loop.toNat
     s.regDenied m (lReg k 0xC) true = none ∧ loopWriter m = false) ∧
    (let s : State := loopMan
     let m : Master := .seq
     let loop : Byte := 0
     let k := loop.toNat
     let mode : Byte := 1
     s.regDenied m (lReg k 0xC) true = none ∧ loopWriter m = true ∧ mode.toNat % 8 ≤ 2 ∧ s.frozen = false ∧
     (mode.toNat % 8 = 0 ∨ s.loopLive k = true)) ∧
    (let s : State := loopMan.setBit 0xA0008 0 true
     let m : Master := .seq
     let loop : Byte := 0
     let k := loop.toNat
     let mode : Byte := 1
     s.regDenied m (lReg k 0xC) true = none ∧ loopWriter m = true ∧ mode.toNat % 8 ≤ 2 ∧ s.frozen = true) ∧
    (let s : State := loopMan
     let m : Master := .seq
     let loop : Byte := 0
     let k := loop.toNat
     s.regDenied m (lReg k 0xC) true = none ∧ loopWriter m = true ∧ s.swapRefusal k = 0) ∧
    (let s : State := loopOff
     let m : Master := .seq
     let loop : Byte := 0
     let k := loop.toNat
     s.regDenied m (lReg k 0xC) true = none ∧ loopWriter m = true ∧ s.swapRefusal k ≠ 0) ∧
    (let s : State := { loopMan with loop := { loopMan.loop with tune := some { tune1 with prev := none } } }
     let m : Master := .seq
     let loop : Byte := 0
     let k := loop.toNat
     let t : Tune := { tune1 with prev := none }
     s.regDenied m (lReg k 0xC) true = none ∧ loopWriter m = true ∧ s.tuneOf k = some t) ∧
    (let s : State := loopMan
     let m : Master := .seq
     let loop : Byte := 0
     let k := loop.toNat
     s.regDenied m (lReg k 0xC) true = none ∧ loopWriter m = true ∧ s.tuneOf k = none) ∧
    (let s : State := loopMan
     let m : Master := .seq
     m ≠ .firn ∧ s.regDenied m 0x30024 true = none) ∧
    (let s : State := loopMan
     let p := s.fld 0x30020 9 8
     let o := 4 * s.fld 0x30020 14 10
     let j := s.fld 0x30020 7 0
     s.regDenied .firn 0x30024 true = none ∧ p < 3 ∧ o + 4 ≤ (s.partBytes j p).length) ∧
    (let s : State := loopMan
     s.regDenied .firn 0x30024 false = none) := by
  repeat refine ⟨by decide +kernel, ?_⟩
  decide +kernel

theorem witness_plansAreAppliedWhole :
    (let s : State := ready.wr64 0x305F8 9
     let m : Master := .seq
     let j : Nat := 63
     s.regDenied m 0x30058 true = none ∧ (m = .seq ∨ m = .firn) ∧ j < 64) ∧
    (let s : State := { (ready.setBit 0x30058 1 true).setBit 0x30004 0 true with loop := { ready.loop with plan := some (List.replicate 64 5, 10000) } }
     let m : Master := .firn
     s.regDenied m 0x30058 true = none ∧ (m = .seq ∨ m = .firn)) ∧
    (let s : State := { (ready.setBit 0x30058 1 true).setBit 0x30004 0 true with loop := { ready.loop with plan := some (List.replicate 64 5, 10000) } }
     let m : Master := .mtr
     s.regDenied m 0x30058 true = none ∧ m ≠ .seq ∧ m ≠ .firn) ∧
    (let s : State := { (ready.setBit 0x30058 1 true).setBit 0x30004 0 true with loop := { ready.loop with plan := some (List.replicate 64 5, 10000) } }
     let at_ : Nat := 10000
     let l : List W64 := List.replicate 64 5
     let eff : Nat := 10000
     let j : Nat := 63
     (s.reach at_).ticks at_ = true ∧ s.loop.plan = some (l, eff) ∧ l.length = 64 ∧ eff ≤ at_ ∧ j < 64) ∧
    (let s : State := { (ready.setBit 0x30058 1 true).setBit 0x30004 0 true with loop := { ready.loop with plan := some (List.replicate 64 5, 10000) } }
     let at_ : Nat := 10000
     let l : List W64 := List.replicate 64 5
     let eff : Nat := 10000
     let a : Nat := 0x30004
     (s.reach at_).ticks at_ = true ∧ s.loop.plan = some (l, eff) ∧ l.length = 64 ∧ eff ≤ at_ ∧ a ≠ 0x30058 ∧
     (a < 0x30600 ∨ 0x30800 ≤ a)) ∧
    (let s : State := { (ready.setBit 0x30058 1 true).setBit 0x30004 0 true with loop := { ready.loop with plan := some (List.replicate 64 5, 10000) } }
     let at_ : Nat := 9999
     let l : List W64 := List.replicate 64 5
     let eff : Nat := 10000
     s.loop.plan = some (l, eff) ∧ at_ < eff) ∧
    (let s : State := { (ready.setBit 0x30058 1 true).setBit 0x30004 0 true with loop := { ready.loop with plan := some (List.replicate 64 5, 10000) } }
     let at_ : Nat := 10001
     (s.reach at_).ticks at_ = false) := by
  repeat refine ⟨by decide +kernel, ?_⟩
  decide +kernel

theorem witness_ticksEvaluateDueLoops :
    (let s : State := loopMan.setBit 0x30004 0 true
     let at_ : Nat := 100001
     let u := s.reach at_
     (at_ % 10000 ≠ 0 ∨ u.bit 0x30004 0 = false ∨ u.persMismatch = true)) ∧
    (let s : State := loopMan.setBit 0x30004 0 true
     let at_ : Nat := 100000
     let u := s.reach at_
     let v := u.applyPlan at_
     let due := v.dueLoops (at_ / 10000)
     let k : Nat := 0
     at_ % 10000 = 0 ∧ u.bit 0x30004 0 = true ∧ u.persMismatch = false ∧ k ∈ due) := by
  repeat refine ⟨by decide +kernel, ?_⟩
  decide +kernel

theorem witness_loopOutputsKeepTheirLimits :
    (let bank : Bytes := bank1
     let r : LoopRun := {}
     let sp : Dbl := 0
     let pv : Dbl := 0
     let ff : Dbl := 0
     let rate : Bool := false
     let dreset : Bool := true
     let ts : Nat := 0
     let l := loopLaw bank r sp pv ff none rate dreset ts
     bankOk bank = true ∧ l.exc = false ∧ rate = false) ∧
    (let bank : Bytes := bank1
     let r : LoopRun := {}
     let sp : Dbl := 0
     let pv : Dbl := 0
     let ff : Dbl := 0
     let rate : Bool := true
     let dreset : Bool := true
     let ts : Nat := 0
     let l := loopLaw bank r sp pv ff none rate dreset ts
     bankOk bank = true ∧ l.exc = false ∧ rate = true ∧
     dLe (dSub r.uPrev (dblAt bank 88)) (dAdd r.uPrev (dblAt bank 88)) = true) := by
  repeat refine ⟨by decide +kernel, ?_⟩
  decide +kernel

theorem witness_tuneProposalsGoToTheInactiveBank :
    (let s : State := ready
     s.loop.proposal = none) ∧
    (let s : State := { loopMan with loop := { loopMan.loop with proposal := some tune1 } }
     let t : Tune := tune1
     let q := proposal t (cFlag (s.lcfg t.loop) 2) (cPeriod (s.lcfg t.loop))
     s.loop.proposal = some t ∧ t.loop ≤ 255 ∧ (q.1 :: q.2).all dFinite = true) ∧
    (let s : State := { loopMan with loop := { loopMan.loop with proposal := some { tune1 with d := 0x7FF0000000000000 } } }
     let t : Tune := { tune1 with d := 0x7FF0000000000000 }
     let q := proposal t (cFlag (s.lcfg t.loop) 2) (cPeriod (s.lcfg t.loop))
     s.loop.proposal = some t ∧ t.loop ≤ 255 ∧ (q.1 :: q.2).all dFinite = false) := by
  repeat refine ⟨by decide +kernel, ?_⟩
  decide +kernel

theorem witness_programsLoadAndStart :
    (let s : State := { ready with mem := cells 0x1010000 cont1 }
     let i : Issue := { iss with env := { prog := some { syms := [sym9] } } }
     let buf : Buf := buf 768
     let b := s.rdBuf buf
     let p := progOf s.decKeys b (i.env.prog.getD { syms := [] })
     s.admits { op := 0x0501, plen := 8 } i ∧ s.bufOk i.host false buf = true ∧ s.cycState ≠ 3 ∧
     progWhole s.decKeys b = true ∧ i.env.prog.isSome = true ∧ leAt (progSection s.decKeys b 0x50) 8 2 ≤ s.runtimeVer ∧
     cLength b ≤ 0xC0000 ∧ progLayout s.decKeys b p (s.port.groups.map fun g => g.group) s.loopPwms = true) ∧
    (let s : State := cycOff
     let i : Issue := iss
     let p : Program := prog1
     s.admits { op := 0x0502, plen := 1, frozenNo := true } i ∧ s.cyc.act = some p ∧ s.cyc.pend = none ∧
     (s.cycState = 1 ∨ s.cycState = 5) ∧ s.warmRefused p = none) ∧
    (let s : State := { cycOff with cyc := { cycOff.cyc with stored := none } }
     let i : Issue := iss
     let p : Program := prog1
     let c : Nat := 0x0105
     s.admits { op := 0x0502, plen := 1, frozenNo := true } i ∧ s.cyc.act = some p ∧ s.cyc.pend = none ∧
     (s.cycState = 1 ∨ s.cycState = 5) ∧ s.warmRefused p = some c) ∧
    (let s : State := cycOff.setBit aCycState 9 true
     let i : Issue := iss
     let p : Program := prog1
     s.admits { op := 0x0502, plen := 1, frozenNo := true } i ∧ s.cyc.act = some p ∧ s.cyc.pend = none ∧ s.cycState = 1 ∧
     s.bit aCycState 9 = true) ∧
    (let s : State := cycOn
     let i : Issue := iss
     let p : Program := prog1
     let m : Byte := 1
     s.admits { op := 0x0502, plen := 1, frozenNo := true } i ∧ s.cyc.act = some p ∧ s.cyc.pend = none ∧ m.toNat ≤ 2 ∧
     (s.cycState = 2 ∨ s.cycState = 3 ∨ s.cycState = 4)) ∧
    (let s : State := { ready with cyc := { ready.cyc with pend := some signed1 } }
     let i : Issue := iss
     let q : Program := signed1
     s.admits { op := 0x0502, plen := 1, frozenNo := true } i ∧ s.cycState = 0 ∧ s.cyc.pend = some q ∧
     s.progVerified q = true) := by
  repeat refine ⟨by decide +kernel, ?_⟩
  decide +kernel

theorem witness_programsStopAndChange :
    (let s : State := cycOff
     let i : Issue := iss
     s.admits { op := 0x0503, plen := 0, async := true } i ∧ s.cycState = 1) ∧
    (let s : State := cycOn.setCycState 4
     let i : Issue := iss
     s.admits { op := 0x0503, plen := 0, async := true } i ∧ s.cycState = 4) ∧
    (let s : State := cycOn.setCycState 5
     let i : Issue := iss
     s.admits { op := 0x0503, plen := 0, async := true } i ∧ (s.cycState = 0 ∨ s.cycState = 3 ∨ s.cycState = 5)) ∧
    (let s : State := cycOn
     let i : Issue := iss
     s.admits { op := 0x0503, plen := 0, async := true } i ∧ s.cycState = 2) ∧
    (let s : State := { cycOn with cyc := { cycOn.cyc with pend := some prog1 } }
     let i : Issue := iss
     let old : Program := prog1
     let new : Program := prog1
     let c : Nat := 0x0107
     s.admits { op := 0x0504, plen := 0, frozenNo := true, async := true } i ∧ s.cyc.act = some old ∧
     s.cyc.pend = some new ∧ s.cycState = 2 ∧ changeRefused old new = some c) ∧
    (let s : State := { cycOn with cyc := { cycOn.cyc with pend := some { signed1 with base := 5, ver := 6 } } }
     let i : Issue := iss
     let old : Program := prog1
     let new : Program := { signed1 with base := 5, ver := 6 }
     s.admits { op := 0x0504, plen := 0, frozenNo := true, async := true } i ∧ s.cyc.act = some old ∧
     s.cyc.pend = some new ∧ s.cycState = 2 ∧ changeRefused old new = none ∧ s.progVerified new = true) := by
  repeat refine ⟨by decide +kernel, ?_⟩
  decide +kernel

theorem witness_forcesAndVariablesAreReached :
    (let s : State := cycOn
     let i : Issue := iss
     let sym : W32 := 9
     let ty : Byte := 6
     let v : W64 := 5
     let x : Sym := sym9
     let k : Nat := 8
     s.admits { op := 0x0505, plen := 13 } i ∧ s.activeSym sym = some x ∧ x.ty = ty.toNat ∧ 1 ≤ ty.toNat ∧
     ty.toNat ≤ 12 ∧ forceOk ty.toNat v = true ∧ s.cyc.forces.length < 1024 ∧ k ≠ sym.toNat) ∧
    (let s : State := cycOn
     let i : Issue := iss
     let sym : W32 := 0xFFFFFFFF
     s.admits { op := 0x0506, plen := 4 } i ∧ sym = 0xFFFFFFFF) ∧
    (let s : State := cycOn
     let i : Issue := iss
     let sym : W32 := 9
     let k : Nat := 8
     s.admits { op := 0x0506, plen := 4 } i ∧ sym ≠ 0xFFFFFFFF ∧ k ≠ sym.toNat) ∧
    (let s : State := { cycOn with cyc := { cycOn.cyc with forces := [(9, (6, 5))] } }
     let i : Issue := iss
     let sym : W32 := 9
     s.admits { op := 0x0506, plen := 4 } i ∧ sym ≠ 0xFFFFFFFF) ∧
    (let s : State := { cycOn with cyc := { cycOn.cyc with forces := [(9, (6, 5))] } }
     let i : Issue := iss
     let buf : Buf := buf 16
     let b := s.cyc.forces.flatMap fun f => leBytes 4 f.1 ++ [BitVec.ofNat 8 f.2.1, 0] ++ leBytes 2 (((s.activeSym (w32 f.1)).map fun x => x.mask).getD 0) ++ le8 f.2.2
     s.admits { op := 0x0507, plen := 8 } i ∧ s.bufOk i.host true buf = true ∧ b.length ≤ buf.len.toNat) ∧
    (let s : State := cycOn
     let i : Issue := iss
     let t : Byte := 0
     let p : Program := prog1
     let d : TaskDef := task0
     s.admits { op := 0x0508, plen := 1 } i ∧ s.cyc.act = some p ∧ p.task? t.toNat = some d) ∧
    (let s : State := cycOn
     let i : Issue := iss
     let sym : W32 := 9
     let buf : Buf := buf 4
     let x : Sym := sym9
     s.admits { op := 0x0509, plen := 12 } i ∧ s.activeSym sym = some x ∧ s.bufOk i.host true buf = true ∧
     x.len ≤ buf.len.toNat) ∧
    (let s : State := cycOff
     let i : Issue := iss
     let sym : W32 := 9
     let buf : Buf := buf 4
     let x : Sym := sym9
     s.admits { op := 0x050A, plen := 12, async := true } i ∧ s.activeSym sym = some x ∧
     s.bufOk i.host false buf = true ∧ buf.len.toNat = x.len ∧ s.cycState ≠ 2 ∧ s.cycState ≠ 3) ∧
    (let s : State := cycOn
     let i : Issue := iss
     let sym : W32 := 9
     let buf : Buf := buf 4
     let x : Sym := sym9
     s.admits { op := 0x050A, plen := 12, async := true } i ∧ s.activeSym sym = some x ∧
     s.bufOk i.host false buf = true ∧ buf.len.toNat = x.len ∧ s.cycState = 2) := by
  repeat refine ⟨by decide +kernel, ?_⟩
  decide +kernel

theorem witness_tasksRunTheirCycle :
    (let s : State := cycOn
     let task : Byte := 0
     let at_ : Nat := 1000000
     let p : Program := prog1
     let d : TaskDef := task0
     let u := s.reach at_
     u.cycState = 2 ∧ u.cyc.act = some p ∧ p.task? task.toNat = some d ∧ u.persMismatch = false ∧ u.overdue at_ = [] ∧
     releasedAt d at_ = true ∧ u.cyc.first ≤ at_ ∧ u.inCycle task.toNat = false) ∧
    (let s : State := cycOn.setPhase 0 3
     let task : Byte := 0
     let at_ : Nat := 0
     let p : Program := prog1
     let d : TaskDef := task0
     let u := s.reach at_
     u.cycState = 2 ∧ u.cyc.act = some p ∧ p.task? task.toNat = some d ∧ u.persMismatch = false ∧ u.overdue at_ = [] ∧
     releasedAt d at_ = true ∧ u.cyc.first ≤ at_ ∧ u.inCycle task.toNat = true) ∧
    (let s : State := { cycOn with cyc := { (cycOn).cyc with reqs := [⟨0, false, 0⟩] } }
     let at_ : Nat := 1000000
     let r : EngReq := ⟨0, false, 0⟩
     let rest : List EngReq := []
     let p : Program := prog1
     let d : TaskDef := task0
     let v := (s.reach at_).doLatch p d
     s.cyc.reqs = r :: rest ∧ r.isCommit = false ∧ s.progOfTask r.task = some p ∧ s.defOfTask r.task = some d ∧
     s.persMismatch = false ∧ s.overdue at_ = [] ∧ (v.dirtyOf d).length ≤ 1024) ∧
    (let s : State := { { (cycOn.setPhase 0 3) with cyc := { (cycOn.setPhase 0 3).cyc with act := some { prog1 with tasks := [{ task0 with retLen := 65600 }] }, dirty := (List.range 1025).map (fun k => 0x30000 + k) } } with cyc := { ({ (cycOn.setPhase 0 3) with cyc := { (cycOn.setPhase 0 3).cyc with act := some { prog1 with tasks := [{ task0 with retLen := 65600 }] }, dirty := (List.range 1025).map (fun k => 0x30000 + k) } }).cyc with reqs := [⟨0, false, 0⟩] } }
     let at_ : Nat := 0
     let r : EngReq := ⟨0, false, 0⟩
     let rest : List EngReq := []
     let p : Program := { prog1 with tasks := [{ task0 with retLen := 65600 }] }
     let d : TaskDef := { task0 with retLen := 65600 }
     let v := (s.reach at_).doLatch p d
     s.cyc.reqs = r :: rest ∧ r.isCommit = false ∧ s.progOfTask r.task = some p ∧ s.defOfTask r.task = some d ∧
     s.persMismatch = false ∧ s.overdue at_ = [] ∧ 1024 < (v.dirtyOf d).length) ∧
    (let s : State := cycOn.setPhase 0 3
     let m : Master := .cyc0
     let task : Byte := 0
     let st : Stores := ⟨[(0x800000, [5])]⟩
     let d : TaskDef := task0
     let u := st.writes.foldl (fun t w => t.logicStore m w) s
     2 ≤ masterId m ∧ masterId m ≤ 5 ∧ s.curTask (masterId m - 2) = some d ∧ d.task = task.toNat ∧
     s.persMismatch = false ∧ u.regDenied m 0x40020 true = none ∧ (u.dirtyOf d).length ≤ 1024) ∧
    (let s : State := { (cycOn.setPhase 0 3) with cyc := { (cycOn.setPhase 0 3).cyc with act := some { prog1 with tasks := [{ task0 with retLen := 65600 }] }, dirty := (List.range 1025).map (fun k => 0x30000 + k) } }
     let m : Master := .cyc0
     let task : Byte := 0
     let st : Stores := ⟨[(0x800000, [5])]⟩
     let d : TaskDef := { task0 with retLen := 65600 }
     let u := st.writes.foldl (fun t w => t.logicStore m w) s
     2 ≤ masterId m ∧ masterId m ≤ 5 ∧ s.curTask (masterId m - 2) = some d ∧ d.task = task.toNat ∧
     s.persMismatch = false ∧ u.regDenied m 0x40020 true = none ∧ 1024 < (u.dirtyOf d).length) ∧
    (let s : State := { cycOn with cyc := { (cycOn).cyc with reqs := [⟨0, true, 0⟩] } }
     let at_ : Nat := 1000000
     let r : EngReq := ⟨0, true, 0⟩
     let rest : List EngReq := []
     let p : Program := prog1
     let d : TaskDef := task0
     s.cyc.reqs = r :: rest ∧ r.isCommit = true ∧ (∀ x ∈ s.cyc.drains, x.task ≠ r.task) ∧ s.progOfTask r.task = some p ∧
     s.defOfTask r.task = some d ∧ s.persMismatch = false ∧ s.overdue at_ = [] ∧
     (((s.reach at_).applyForces p r.task [1, 2, 3]).dirtyOf d).length ≤ 1024) ∧
    (let s : State := cycOn.setPhase 0 3
     let task : Byte := 0
     let at_ : Nat := 1000000
     let d : TaskDef := task0
     s.persMismatch = false ∧ d ∈ s.overdue at_ ∧ d.task = task.toNat ∧ s.overdue at_ = [d]) ∧
    (let s : State := cycOn.setPhase 0 3
     let at_ : Nat := 1000000
     let t : Nat := 0
     let d : TaskDef := task0
     s.inCycle t = true ∧ s.defOfTask t = some d ∧ t < 16 ∧
     kget 0 s.cyc.rel d.task + 10000 * (d.period * d.ovf / 16) ≤ at_) ∧
    (let s : State := cycOn.setPhase 0 3
     let task : Byte := 0
     s.tphase task.toNat = 3) ∧
    (let s : State := { (cycOn.setBit 0x40300 31 true) with cyc := { (cycOn.setBit 0x40300 31 true).cyc with drains := [⟨0, 0, []⟩] } }
     let x : Drain := ⟨0, 0, []⟩
     let rest : List Drain := []
     s.cyc.drains = x :: rest ∧ s.bit (markReg x.task) 31 = true ∧ s.pwr.pfw = false) ∧
    (let s : State := { cycOn with cyc := { cycOn.cyc with pend := some { prog1 with base := 5, ver := 6 } } }.setCycState 3
     let at_ : Nat := 2000000
     (s.reach at_).cycState = 3 ∧ (s.reach at_).switchAt ≤ at_) ∧
    (let s : State := cycOn
     let at_ : Nat := 1000000
     (s.reach at_).cycState ≠ 3) := by
  repeat refine ⟨by decide +kernel, ?_⟩
  decide +kernel

theorem witness_remoteValuesArrive :
    (let s : State := cycOn
     let g : Byte := 1
     let at_ : Nat := 1000000
     let p : Program := prog1
     let r : Remote := rem1
     s.cyc.act = some p ∧ (p.publications.find? fun r => r.group == g.toNat) = some r ∧
     tickOf at_ r.phase r.interval = true) ∧
    (let s : State := { cycOn with port := { cycOn.port with groups := [⟨1, 0, 5, 2, 0, 1, 100, 0⟩] } }
     let g : Byte := 1
     let at_ : Nat := 1000000
     let v : ValueGroup := ⟨1, 0, 5, 2, 0, 1, 100, 0⟩
     (s.port.groups.find? fun v => v.group == g.toNat) = some v ∧ tickOf at_ v.phase v.interval = true) ∧
    (let s : State := cycOn
     let h : FrameHeader := { hdr with claim := 0x10 }
     let b : ValuesBody := ⟨3, 7, [5]⟩
     let u := s.heard h false
     let l := u.numbered.filter fun p => p.2.ty == 3 && p.2.peer == h.src.toNat && p.2.group == b.group.toNat && p.2.count == b.values.length
     let p : Nat × Remote := l.headD (0, rem3)
     (s.reach h.at_).carried h ∧ (s.reach h.at_).accepts h false = .ok ∧ (h.port ≠ 3 ∨ (s.reach h.at_).paired = false) ∧
     p ∈ l) ∧
    (let s : State := cycOn
     let h : FrameHeader := { hdr with claim := 0x10 }
     let b : ValuesBody := ⟨3, 7, [5]⟩
     let u := s.heard h false
     let l := u.numbered.filter fun p => p.2.ty == 3 && p.2.peer == h.src.toNat && p.2.group == b.group.toNat && p.2.count == b.values.length
     let n : Nat := 0
     let r : Remote := rem3
     let k : Nat := 0
     (s.reach h.at_).carried h ∧ (s.reach h.at_).accepts h false = .ok ∧ (h.port ≠ 3 ∨ (s.reach h.at_).paired = false) ∧
     l = [(n, r)] ∧ k < r.count) ∧
    (let s : State := cycOn.setSub rem3 { got := true }
     let at_ : Nat := 1000000
     let n : Nat := 0
     let r : Remote := rem3
     let u := s.reach at_
     (u.numbered.filter fun p => p.2.ty == 3 && tickOf at_ p.2.phase p.2.interval) = [(n, r)] ∧ (u.subRun r).got = true) ∧
    (let s : State := cycOn
     let at_ : Nat := 1000000
     let n : Nat := 0
     let r : Remote := rem3
     let u := s.reach at_
     (u.numbered.filter fun p => p.2.ty == 3 && tickOf at_ p.2.phase p.2.interval) = [(n, r)] ∧ (u.subRun r).got = false) ∧
    (let s : State := cycOn
     let h : FrameHeader := { hdr with claim := 0x10 }
     let b : ValuesBody := ⟨4, 7, [5]⟩
     let u := s.heard h true
     let mine := (u.numbered.map fun p => p.2).filter fun r => r.ty == 4 && r.peer == h.src.toNat && r.group == b.group.toNat
     let fit := mine.filter fun r => r.count == b.values.length
     let r : Remote := rem4
     (s.reach h.at_).carried h ∧ (s.reach h.at_).accepts h true = .ok ∧ (h.port ≠ 3 ∨ (s.reach h.at_).paired = false) ∧
     r ∈ fit) ∧
    (let s : State := cycOn
     let h : FrameHeader := { hdr with claim := 0x10 }
     let b : ValuesBody := ⟨4, 7, [5]⟩
     let u := s.heard h true
     let mine := (u.numbered.map fun p => p.2).filter fun r => r.ty == 4 && r.peer == h.src.toNat && r.group == b.group.toNat
     let fit := mine.filter fun r => r.count == b.values.length
     let r : Remote := rem4
     let k : Nat := 0
     (s.reach h.at_).carried h ∧ (s.reach h.at_).accepts h true = .ok ∧ (h.port ≠ 3 ∨ (s.reach h.at_).paired = false) ∧
     fit = [r] ∧ k < r.count) ∧
    (let s : State := cycOn
     let h : FrameHeader := { hdr with claim := 0x10 }
     let b : AckBody := ⟨2, 0, 0⟩
     let p : Program := prog1
     let r : Remote := rem2
     let u := s.heard h false
     (s.reach h.at_).carried h ∧ (s.reach h.at_).accepts h false = .ok ∧ (h.port ≠ 3 ∨ (s.reach h.at_).paired = false) ∧
     u.cyc.act = some p ∧
     (p.remotes.find? fun r => r.ty == 2 && r.group == b.group.toNat && r.peer == h.src.toNat) = some r ∧ b.result = 0 ∧
     b.seq.toNat = (u.group b.group.toNat).seq) ∧
    (let s : State := cycOn.setSub rem4 { holding := true }
     let at_ : Nat := 100000000000
     let n : Nat := 1
     let r : Remote := rem4
     let u := s.reach at_
     (u.numbered.filter fun p => p.2.ty == 4 && (u.subRun p.2).holding && decide ((u.subRun p.2).since + u.drift.hold * u.districtNs ≤ at_)) = [(n, r)]) := by
  repeat refine ⟨by decide +kernel, ?_⟩
  decide +kernel

theorem witness_meteringIsConfigured :
    (let s : State := ready.setBit 0x50004 1 true
     let i : Issue := iss
     s.admits { op := 0x0601, plen := 19 } i ∧ s.metroLock = true) ∧
    (let s : State := ready
     let i : Issue := iss
     let c : Byte := 0
     let g : Dbl := 0x3FF0000000000000
     let o : Dbl := 0
     let d : W16 := 0
     let k : Nat := 15
     s.admits { op := 0x0601, plen := 19 } i ∧ s.metroLock = false ∧ c.toNat ≤ 15 ∧ dMag g ≠ 0 ∧ dFinite g = true ∧
     dFinite o = true ∧ -2048 ≤ d.toInt ∧ d.toInt ≤ 2048 ∧
     (c.toNat < 12 → dLe (fullRating (s.gainWith c.toNat g) (c.toNat / 6)) (dOfInt 21000) = true) ∧
     s.calOf c.toNat = false ∧ k ≤ 15 ∧ k ≠ c.toNat) ∧
    (let s : State := ready
     let i : Issue := iss
     let k : Byte := 0
     let c : W32 := 1000
     let w : W16 := 10
     s.admits { op := 0x0605, plen := 7 } i ∧ s.metroLock = false ∧ k.toNat ≤ 3 ∧ 1000 ≤ c.toNat ∧ 10 ≤ w.toNat ∧
     w.toNat ≤ 500) ∧
    (let s : State := { ready with mem := cells 0x1010000 ([1, 0, 0, 0, 0, 1, 1, 0] ++ leBytes 8 0x3FF0000000000000) }
     let i : Issue := iss
     let c : Byte := 0
     let buf : Buf := buf 64
     let b := sliceB (s.rdBuf buf) 0 32
     s.admits { op := 0x0606, plen := 9 } i ∧ s.metroLock = false ∧ c.toNat ≤ 3 ∧ 32 ≤ buf.len.toNat ∧
     s.bufOk i.host false buf = true ∧ leAt b 0 2 ≤ 1 ∧ s.heatOk b = true) := by
  repeat refine ⟨by decide +kernel, ?_⟩
  decide +kernel

theorem witness_meterReadingsAnswer :
    (let s : State := ready
     let i : Issue := iss
     let y : Byte := 0
     let p : Byte := 0
     let q : Byte := 0
     s.admits { op := 0x0602, plen := 3 } i ∧ accOk y p q = true) ∧
    (let s : State := ready
     let i : Issue := iss
     let y : Byte := 0
     let p : Byte := 0
     let q : Byte := 0
     s.admits { op := 0x0603, plen := 3 } i ∧ accOk y p q = true) ∧
    (let s : State := ready
     let i : Issue := iss
     let c : Byte := 0
     let buf : Buf := buf 96
     s.admits { op := 0x0607, plen := 9 } i ∧ c.toNat ≤ 3 ∧ 96 ≤ buf.len.toNat ∧ s.bufOk i.host true buf = true) ∧
    (let s : State := ready
     let i : Issue := iss
     s.admits { op := 0x0608, plen := 0, async := true } i) ∧
    (let s : State := { ready with mem := cells 0x1010000 [1, 0, 1, 0] }
     let i : Issue := iss
     let c : Byte := 0
     let buf : Buf := buf 64
     s.admits { op := 0x0604, plen := 9, async := true } i ∧ s.metroLock = false ∧ s.bufOk i.host false buf = true ∧
     calBufOk c.toNat (s.rdBuf buf) = true ∧ s.mtr.cal = none) ∧
    (let s : State := ready
     let m : Master := .firn
     s.regDenied m 0x51700 true = none) ∧
    (let s : State := ready
     (∀ r, s.mtr.cal = some r → r.left ≠ some 0)) ∧
    (let s : State := { ready with mtr := { ready.mtr with cal := some { id := 0, channel := 1, kind := 1, ref := 0, seconds := 1, left := some 0 } } }
     let r : CalRun := { id := 0, channel := 1, kind := 1, ref := 0, seconds := 1, left := some 0 }
     let c : Nat := 2
     s.mtr.cal = some r ∧ r.left = some 0 ∧ r.channel ≤ 15 ∧ c ≤ 15) := by
  repeat refine ⟨by decide +kernel, ?_⟩
  decide +kernel

theorem witness_intervalsAreCommitted :
    (let s : State := ready
     let at_ : Nat := 100000000
     let x : Samples := ⟨rest⟩
     let u := s.reach at_
     (u.intervalDue at_ = false ∨ samplesOk x.phases = false)) ∧
    (let s : State := ready.setBit 0x50004 0 true
     let at_ : Nat := 100000000
     let x : Samples := ⟨rest⟩
     let u := s.reach at_
     let c : Nat := 0
     u.intervalDue at_ = true ∧ samplesOk x.phases = true ∧ c ≤ 15) ∧
    (let s : State := ready.setBit 0x50004 0 true
     let at_ : Nat := 100000000
     let x : Samples := ⟨rest⟩
     let u := s.reach at_
     let k : Nat := 0
     u.intervalDue at_ = true ∧ samplesOk x.phases = true ∧ k ≤ 7) ∧
    (let s : State := (ready.setBit 0x50004 0 true).wr 0x5000C 9
     let at_ : Nat := 100000000
     let x : Samples := ⟨rest⟩
     let u := s.reach at_
     u.intervalDue at_ = true ∧ samplesOk x.phases = true ∧ ((u.rd 0x5000C + 1).toNat % 10 = 0 ∨ u.bit 0x51700 1 = true)) ∧
    (let s : State := (ready.setBit 0x50004 0 true).setBit 0x51700 1 true
     let at_ : Nat := 100000000
     let x : Samples := ⟨rest⟩
     let u := s.reach at_
     u.intervalDue at_ = true ∧ samplesOk x.phases = true ∧ ((u.rd 0x5000C + 1).toNat % 10 = 0 ∨ u.bit 0x51700 1 = true)) ∧
    (let s : State := ready.setBit 0x50004 0 true
     let at_ : Nat := 100000000
     let x : Samples := ⟨rest⟩
     let u := s.reach at_
     u.intervalDue at_ = true ∧ samplesOk x.phases = true ∧ (u.rd 0x5000C + 1).toNat % 10 ≠ 0 ∧ u.bit 0x51700 1 = false) := by
  repeat refine ⟨by decide +kernel, ?_⟩
  decide +kernel

theorem witness_savesAreWritten :
    (let s : State := ready
     s.mtr.save = none) ∧
    (let s : State := { ready with mtr := { ready.mtr with save := some (3, 0, List.replicate 2048 7) } }
     let q : Nat := 3
     let k : Nat := 0
     let b : Bytes := List.replicate 2048 7
     let j : Nat := 2047
     s.mtr.save = some (q, k, b) ∧ (∀ o ∈ s.mb.outstanding, o.ref ≠ q) ∧ b.length = 2048 ∧
     (∀ j < 2048, s.poisoned (saveAddr q + j) = false) ∧ j < 2048) ∧
    (let s : State := ready
     (s.bit aFeed 0 = true ∨ s.bit aFeed 1 = true)) ∧
    (let s : State := { (ready.setBit aFeed 0 false).setBit aFeed 1 false with mtr := { ready.mtr with save := some (3, 0, List.replicate 2048 7) } }
     s.bit aFeed 0 = false ∧ s.bit aFeed 1 = false ∧ (∀ x ∈ s.cyc.drains, x.task ≤ 15)) := by
  repeat refine ⟨by decide +kernel, ?_⟩
  decide +kernel

theorem witness_meteringEventsTakeEffect :
    (let s : State := ready
     let c : Byte := 0
     let cause : Byte := 2
     c.toNat ≤ 15 ∧ (cause = 1 ∨ cause = 2) ∧ s.chFaulted c.toNat = false) ∧
    (let s : State := ready.setBit (chReg 0) 0 true
     let c : Byte := 0
     c.toNat ≤ 15 ∧ s.chFaulted c.toNat = true) ∧
    (let w : MeterWindow := ⟨[], [], []⟩
     samplesOk w.phases = false) ∧
    (let w : MeterWindow := ⟨rest, [], []⟩
     let k : Nat := 0
     samplesOk w.phases = true ∧ k < 8) ∧
    (let s : State := ready.setBit 0xA0008 0 true
     let at_ : Nat := 0
     let u := s.reach at_
     (u.outputsHeld = true ∨ u.outputsDriven = false)) ∧
    (let s : State := (ready.setBit 0xA0004 0 true).wr (poutReg 0 8) 2
     let at_ : Nat := 0
     let u := s.reach at_
     let k : Nat := 0
     let p := kget {} u.mtr.pulse k
     let n := u.fld (poutReg k 8) 15 0
     u.outputsHeld = false ∧ u.outputsDriven = true ∧ k < 4 ∧ p.stop ≤ at_ ∧ p.next ≤ at_ ∧ n ≠ 0) ∧
    (let s : State := (ready.setBit 0xA0004 0 true)
     let at_ : Nat := 0
     let u := s.reach at_
     let k : Nat := 0
     let p := kget {} u.mtr.pulse k
     let n := u.fld (poutReg k 8) 15 0
     u.outputsHeld = false ∧ u.outputsDriven = true ∧ k < 4 ∧ (at_ < p.stop ∨ at_ < p.next ∨ n = 0)) ∧
    (let p : Byte := 0
     p.toNat ≤ 7) ∧
    (let s : State := ready
     let c : Byte := 0
     c.toNat ≤ 3 ∧ s.pwr.lost.getLsbD 6 = false) ∧
    (let s : State := { ready with pwr := { ready.pwr with lost := 64 } }
     s.pwr.lost.getLsbD 6 = true) ∧
    (let s : State := ready
     let c : Byte := 0
     let j : Nat := 0
     c.toNat ≤ 3 ∧ s.regDenied .mtr (0x513F0 + 0x100 * c.toNat) true = none ∧ j < 24) ∧
    (let s : State := ready
     let c : Byte := 0
     let a : Nat := 0
     c.toNat ≤ 3 ∧ s.regDenied .mtr (0x513F0 + 0x100 * c.toNat) true = none ∧
     (a < heatReg c.toNat 0 ∨ heatReg c.toNat 0x60 ≤ a)) ∧
    (let s : State := ready
     let m : Master := .seq
     let c : Byte := 0
     m ≠ .mtr ∧ s.regDenied m (0x513F0 + 0x100 * c.toNat) true = none) := by
  repeat refine ⟨by decide +kernel, ?_⟩
  decide +kernel

theorem witness_instantsAreReached :
    (let s : State := ready
     let n : Nat := 0
     n < 2 ^ 63 ∧ s.time.pendStep = none) ∧
    (let s : State := { ready with time := { ready.time with pendStep := some (100, 2) } }
     let a : W64 := 100
     let v : W64 := 2
     s.time.pendStep = some (a, v) ∧ s.now < a.toNat) ∧
    (let s : State := ready
     let n : Nat := 0
     n ≤ s.now) := by
  repeat refine ⟨by decide +kernel, ?_⟩
  decide +kernel

theorem witness_timeCommandsAnswer :
    (let s : State := ready
     let i : Issue := iss
     s.admits { op := 0x0701, plen := 0 } i) ∧
    (let s : State := ready
     let i : Issue := iss
     s.admits { op := 0x0703, plen := 0 } i) ∧
    (let s : State := ready
     let i : Issue := iss
     let p : Byte := 0
     let x : W32 := 0
     let y : W32 := 0
     s.admits { op := 0x0704, plen := 13 } i ∧ p.toNat ≤ 3 ∧ x.msb = false ∧ y.msb = false) ∧
    (let s : State := { ready with mem := cells 0x1010000 ptp1 }
     let i : Issue := iss
     let buf : Buf := buf 48
     s.admits { op := 0x0705, plen := 8 } i ∧ s.bufOk i.host false buf = true ∧ ptpStatus (s.rdBuf buf) = eOk) ∧
    (let s : State := ready
     let i : Issue := iss
     let p : Byte := 0
     let m : Byte := 1
     s.admits { op := 0x0706, plen := 2 } i ∧ p.toNat ≤ 3 ∧ m.toNat ≤ 5 ∧ s.fld (tpReg p.toNat 0x200) 2 0 ≠ m.toNat) := by
  repeat refine ⟨by decide +kernel, ?_⟩
  decide +kernel

theorem witness_theTimeBaseStepsOnce :
    (let s : State := ready.setFld 0x60004 2 0 2
     let i : Issue := iss
     s.admits { op := 0x0702, plen := 8 } i ∧ (s.timeState ≠ 0 ∨ s.time.pendStep ≠ none ∨ s.servoWins = true)) ∧
    (let s : State := { net with port := { net.port with queues := [(0, [qf1])] } }
     let i : Issue := iss
     let p : Nat := 0
     s.admits { op := 0x0702, plen := 8 } i ∧ s.timeState = 0 ∧ s.time.pendStep = none ∧ s.servoWins = false ∧ p < 4) ∧
    (let s : State := ready
     let i : Issue := iss
     s.admits { op := 0x0702, plen := 8 } i ∧ s.timeState = 0 ∧ s.time.pendStep = none ∧ s.servoWins = false) ∧
    (let s : State := ready
     let m : Master := .seq
     s.regDenied m 0x60028 true = none ∧ s.servoWriter m = false) ∧
    (let s : State := ready.wrAll [(0x60030, 100), (0x60038, 7)]
     let m : Master := .firn
     let u := s.timeEdges 3
     s.regDenied m 0x60028 true = none ∧ s.servoWriter m = true ∧ u.timeState = 0 ∧ u.time.pendStep = none ∧
     u.now < (s.rd64 0x60030).toNat) ∧
    (let s : State := ready
     let m : Master := .firn
     let u := s.timeEdges 3
     s.regDenied m 0x60028 true = none ∧ s.servoWriter m = true ∧
     (u.timeState ≠ 0 ∨ u.time.pendStep ≠ none ∨ (s.rd64 0x60030).toNat ≤ u.now)) ∧
    (let s : State := { net with port := { net.port with queues := [(0, [qf1])] }, time := { ready.time with pendStep := some (1, 2) } }
     let at_ : W64 := 1
     let v : W64 := 2
     let p : Nat := 0
     s.time.pendStep = some (at_, v) ∧ p < 4) ∧
    (let s : State := { ready with time := { ready.time with pendStep := some (1, 2) } }
     let at_ : W64 := 1
     let v : W64 := 2
     s.time.pendStep = some (at_, v)) := by
  repeat refine ⟨by decide +kernel, ?_⟩
  decide +kernel

theorem witness_servoMovesTheTimeBase :
    (let s : State := ready
     let m : Master := .seq
     s.servoWriter m = false ∧ s.regDenied m 0x60028 true = none) ∧
    (let s : State := ready
     let m : Master := .seq
     s.servoWriter m = false ∧ s.regDenied m 0x60020 true = none) ∧
    (let s : State := ready
     let m : Master := .firn
     let u := s.timeEdges 3
     s.regDenied m 0x60028 true = none ∧ s.servoWriter m = true ∧ (u.timeState = 0 ∨ u.time.ptp.refsrc = 0)) ∧
    (let s : State := (ready.setFld 0x60004 2 0 1).setFld 0x60044 7 0 1
     let m : Master := .firn
     let u := s.timeEdges 3
     s.regDenied m 0x60028 true = none ∧ s.servoWriter m = true ∧ u.timeState = 1 ∧ u.time.ptp.refsrc ≠ 0 ∧
     (u.rd 0x60024).toInt.natAbs ≤ (u.rd 0x60040).toNat ∧ u.fld 0x60044 7 0 ≤ u.time.inRun + 1) ∧
    (let s : State := (ready.setFld 0x60004 2 0 1).setFld 0x60044 7 0 5
     let m : Master := .firn
     let u := s.timeEdges 3
     s.regDenied m 0x60028 true = none ∧ s.servoWriter m = true ∧ u.timeState = 1 ∧ u.time.ptp.refsrc ≠ 0 ∧
     (u.rd 0x60024).toInt.natAbs ≤ (u.rd 0x60040).toNat ∧ u.time.inRun + 1 < u.fld 0x60044 7 0) ∧
    (let s : State := (ready.setFld 0x60004 2 0 1)
     let m : Master := .firn
     let u := s.timeEdges 3
     s.regDenied m 0x60028 true = none ∧ s.servoWriter m = true ∧ u.timeState = 1 ∧ u.time.ptp.refsrc ≠ 0 ∧
     (u.rd 0x60024).toInt.natAbs ≤ (u.rd 0x60040).toNat) ∧
    (let s : State := (ready.setFld 0x60004 2 0 2).wr 0x60024 0x7FFFFFFF
     let m : Master := .firn
     let u := s.timeEdges 3
     s.regDenied m 0x60028 true = none ∧ s.servoWriter m = true ∧ u.timeState = 2 ∧ u.time.ptp.refsrc ≠ 0 ∧
     (u.rd 0x60040).toNat < (u.rd 0x60024).toInt.natAbs ∧ u.time.outRun + 1 < u.fld 0x60044 15 8) ∧
    (let s : State := ready
     let m : Master := .firn
     s.regDenied m 0x60020 true = none ∧ s.servoWriter m = true ∧ s.time.pendStep = none) ∧
    (let s : State := ready
     let m : Master := .firn
     let v : W32 := 0x7FFFFFFF
     let t : State := match exec (.adjWrite m v) s with | .next z => z | _ => State.reset
     s.regDenied m 0x60020 true = none ∧ s.servoWriter m = true ∧ t.rd 0x60020 ≠ v) ∧
    (let s : State := { (ready.setFld 0x60004 2 0 2) with time := { (ready.setFld 0x60004 2 0 2).time with lastUpd := some 0 } }
     s.timeState = 2 ∧ s.time.ptp.refsrc ≠ 0) ∧
    (let s : State := (ready.setFld 0x60004 2 0 1)
     s.timeState ≠ 2) := by
  repeat refine ⟨by decide +kernel, ?_⟩
  decide +kernel

theorem witness_timeEventsAreStamped :
    (let s : State := ready
     let m : Master := .firn
     s.regDenied m 0x60010 false = none) ∧
    (let s : State := (ready.setFld 0x60060 1 0 1)
     let at_ : Nat := 0
     let u := s.reach at_
     let mode := u.fld 0x60060 1 0
     let rises := u.firstEdgeOf at_ = true ∧ ((at_ : Int) - (u.rd 0x60068).toInt) % 1000000000 = 0 ∧ (mode = 1 ∨ (mode = 2 ∧ u.timeState = 2))
     rises) ∧
    (let s : State := (ready.setFld 0x60060 1 0 1)
     let at_ : Nat := 5
     let u := s.reach at_
     let mode := u.fld 0x60060 1 0
     let rises := u.firstEdgeOf at_ = true ∧ ((at_ : Int) - (u.rd 0x60068).toInt) % 1000000000 = 0 ∧ (mode = 1 ∨ (mode = 2 ∧ u.timeState = 2))
     ¬ rises) ∧
    (let s : State := ready.wr (tpReg 0 0x200) 1
     let p : Byte := 0
     let r : Bool := true
     let at_ : Nat := 0
     let u := s.reach at_
     let mode := u.fld (tpReg p.toNat 0x200) 2 0
     let takes := mode = 3 ∨ (mode = 1 ∧ r = true) ∨ (mode = 2 ∧ r = false)
     p.toNat < 4 ∧ takes ∧ (kget [] u.time.fifo p.toNat).length < 16) ∧
    (let s : State := { (ready.wr (tpReg 0 0x200) 1) with time := { (ready.wr (tpReg 0 0x200) 1).time with fifo := [(0, List.replicate 16 9)] } }
     let p : Byte := 0
     let r : Bool := true
     let at_ : Nat := 0
     let u := s.reach at_
     let mode := u.fld (tpReg p.toNat 0x200) 2 0
     let takes := mode = 3 ∨ (mode = 1 ∧ r = true) ∨ (mode = 2 ∧ r = false)
     p.toNat < 4 ∧ takes ∧ 16 ≤ (kget [] u.time.fifo p.toNat).length) ∧
    (let s : State := ready
     let p : Byte := 0
     let r : Bool := true
     let at_ : Nat := 0
     let u := s.reach at_
     let mode := u.fld (tpReg p.toNat 0x200) 2 0
     let takes := mode = 3 ∨ (mode = 1 ∧ r = true) ∨ (mode = 2 ∧ r = false)
     p.toNat < 4 ∧ ¬ takes) ∧
    (let s : State := { (ready.wr (tpReg 0 0x200) 4) with time := { (ready.wr (tpReg 0 0x200) 4).time with armed := 1 } }
     let p : Byte := 0
     let at_ : Nat := 5
     let u := s.reach (s.compareAt p.toNat at_)
     p.toNat < 4 ∧ u.compareDue p.toNat at_ = true ∧ u.fld (tpReg p.toNat 0x200) 2 0 = 4) ∧
    (let s : State := ready
     let p : Byte := 0
     let at_ : Nat := 0
     let u := s.reach (s.compareAt p.toNat at_)
     p.toNat < 4 ∧ u.compareDue p.toNat at_ = false) ∧
    (let s : State := ready
     let m : Master := .firn
     let p : Byte := 0
     p.toNat < 4 ∧ s.regDenied m (tpReg p.toNat 0x208) true = none ∧ eventWriter m = true) ∧
    (let s : State := ready
     let m : Master := .mtr
     let p : Byte := 0
     s.regDenied m (tpReg p.toNat 0x208) true = none ∧ eventWriter m = false) ∧
    (let s : State := { ready with time := { ready.time with fifo := [(0, [9])] } }
     let m : Master := .firn
     let p : Byte := 0
     let v : W64 := 9
     let rest : List W64 := []
     p.toNat < 4 ∧ s.regDenied m (0x60214 + 0x20 * p.toNat) false = none ∧ kget [] s.time.fifo p.toNat = v :: rest) := by
  repeat refine ⟨by decide +kernel, ?_⟩
  decide +kernel

theorem witness_networkIsConfigured :
    (let s : State := { net with mem := cells 0x1010000 (port1) }
     let i : Issue := iss
     let p : Byte := 0
     let buf : Buf := buf 56
     s.admits { op := 0x0901, plen := 9 } i ∧ s.bufOk i.host false buf = true ∧ p.toNat ≤ 3 ∧
     portStatus p.toNat (s.rdBuf buf) = eOk ∧ (p.toNat = 3 → s.paired = false) ∧ s.bit aDomBusy (0x10 + p.toNat) = false) ∧
    (let p : Nat := 3
     p ≤ 3) ∧
    (let s : State := { net with mem := cells 0x1010000 ([1, 0, 5, 0]) }
     let i : Issue := iss
     let p : Byte := 4
     let buf : Buf := buf 8
     s.admits { op := 0x0901, plen := 9 } i ∧ s.bufOk i.host false buf = true ∧ p.toNat = 4 ∧
     s.cpuPortStatus (s.rdBuf buf) = eOk) ∧
    (let s : State := ready
     let i : Issue := iss
     let p : Byte := 0
     s.admits { op := 0x0902, plen := 1 } i ∧ p.toNat ≤ 3) ∧
    (let s : State := ready
     let i : Issue := iss
     let a : W16 := 1
     s.admits { op := 0x0903, plen := 2 } i ∧ 1 ≤ a.toNat ∧ a.toNat ≤ 16382 ∧ s.driftBusy = false) ∧
    (let s : State := { net with mem := cells 0x1010000 ([1]) }
     let i : Issue := iss
     let p : Byte := 0
     let buf : Buf := buf 4
     s.admits { op := 0x0904, plen := 9 } i ∧ p.toNat ≤ 4 ∧ s.bufOk i.host false buf = true ∧
     vlanBytesOk (s.rdBuf buf) = true ∧ (s.vidsWith p.toNat (vlansOf (s.rdBuf buf))).length ≤ 64) ∧
    (let s : State := netSec
     let i : Issue := iss
     let p : Byte := 0
     let d : Byte := 0
     let an : Byte := 1
     let slot : Byte := 5
     let pn : W64 := 1
     s.admits { op := 0x0905, plen := 12 } i ∧ p.toNat ≤ 3 ∧ d.toNat ≤ 1 ∧ an.toNat ≤ 3 ∧ slot.toNat ≤ 127 ∧
     s.slotValid slot.toNat = true ∧ (s.slot slot.toNat).usage = 0x02 ∧ (s.portCfg p.toNat).required = true ∧ pn ≠ 0 ∧
     pn.toNat ≤ pnMax (s.portCfg p.toNat).xpn ∧ d = 0) ∧
    (let s : State := netSec
     let i : Issue := iss
     let p : Byte := 0
     let d : Byte := 1
     let an : Byte := 1
     let slot : Byte := 5
     let pn : W64 := 1
     s.admits { op := 0x0905, plen := 12 } i ∧ p.toNat ≤ 3 ∧ d.toNat ≤ 1 ∧ an.toNat ≤ 3 ∧ slot.toNat ≤ 127 ∧
     s.slotValid slot.toNat = true ∧ (s.slot slot.toNat).usage = 0x02 ∧ (s.portCfg p.toNat).required = true ∧ pn ≠ 0 ∧
     pn.toNat ≤ pnMax (s.portCfg p.toNat).xpn) ∧
    (let s : State := { net with mem := cells 0x1010000 ([1]) }
     let i : Issue := iss
     let p : Byte := 0
     let q : Byte := 0
     let buf : Buf := buf 64
     s.admits { op := 0x0906, plen := 10 } i ∧ p.toNat ≤ 3 ∧ q.toNat ≤ 7 ∧ s.bufOk i.host false buf = true ∧
     gateOk (s.rdBuf buf) = true) ∧
    (let s : State := ready
     let i : Issue := { iss with env := { uart := some ⟨true, 8, 0, 1, 9600, 5⟩ } }
     let u : Byte := 0
     let buf : Buf := buf 64
     let c : UartCfg := ⟨true, 8, 0, 1, 9600, 5⟩
     s.admits { op := 0x0907, plen := 9 } i ∧ u.toNat ≤ 3 ∧ s.bufOk i.host false buf = true ∧ i.env.uart = some c ∧
     uartOk c = true ∧ c.timeout ≤ 2000) := by
  repeat refine ⟨by decide +kernel, ?_⟩
  decide +kernel

theorem witness_framesAreHandedOver :
    (let s : State := net
     let i : Issue := iss
     let p : Byte := 0
     let q : Byte := 0
     let l : W64 := 0
     let buf : Buf := buf 64
     let b := s.rdBuf buf
     s.admits { op := 0x0908, plen := 18, frozenNo := true, async := true } i ∧ p.toNat ≤ 3 ∧ q.toNat ≤ 7 ∧
     14 ≤ b.length ∧ s.bufOk i.host false buf = true ∧ l.toNat ≤ s.now + 16000000000 ∧
     (isCmdFrame b = true → s.standby = false ∧ s.persMismatch = false) ∧ (isField b = true → s.address ≠ 0) ∧
     s.linkUp p.toNat = true ∧ s.pairBars p.toNat b = false ∧ driftStops (s.portCfg p.toNat) p.toNat b = false ∧
     s.hasRoom p.toNat q.toNat b.length = true) ∧
    (let s : State := ready
     let i : Issue := iss
     let p : Byte := 5
     let l : W64 := 0
     let buf : Buf := buf 64
     s.admits { op := 0x0908, plen := 18, frozenNo := true, async := true } i ∧ 5 ≤ p.toNat ∧ p.toNat ≤ 8 ∧
     s.bufOk i.host false buf = true ∧ s.bufOk i.host true buf = true ∧ l.toNat ≤ s.now + 16000000000 ∧
     kfind s.port.utx (p.toNat - 5) = none) ∧
    (let s : State := net
     let m : Master := .seq
     s.regDenied m 0x8001C true = none ∧ netWriter m = false) ∧
    (let s : State := net
     let m : Master := .net0
     let v : W32 := 0
     s.regDenied m 0x8001C true = none ∧ netWriter m = true ∧ s.port.txIdx = v.toNat % 256) ∧
    (let s : State := { net with mem := cells 0x1000004 [64, 0, 0, 0x80], port := { net.port with queues := [(0, List.replicate 64 qf1)] } }.wr 0x80018 0x1000000
     let m : Master := .net0
     let v : W32 := 1
     let u := s.setFld 0x8001C 7 0 v.toNat
     let t := u.txDescriptor s.port.txIdx
     s.regDenied m 0x8001C true = none ∧ netWriter m = true ∧ s.port.txIdx ≠ v.toNat % 256 ∧
     (t.port.txIdx + 1) % 256 = t.fld 0x8001C 7 0) := by
  repeat refine ⟨by decide +kernel, ?_⟩
  decide +kernel

theorem witness_framesPassTheSwitch :
    (let s : State := ready
     let p : Byte := 0
     let b : Nat := 1000
     let iv : Nat := 400
     let st : Nat := 0
     let fr : Nat := 0
     let t0 := s.internalOf p.toNat b
     let v := (s.reach t0).applyGates
     (3 < p.toNat ∨ v.linkUp p.toNat = false ∨ v.boundaryIs p.toNat b iv st fr = false)) ∧
    (let s : State := net
     let p : Byte := 0
     let b : Nat := 1000
     let iv : Nat := 400
     let st : Nat := 0
     let fr : Nat := 0
     let t0 := s.internalOf p.toNat b
     let v := (s.reach t0).applyGates
     let u := (List.range 8).foldl (fun x q => x.dropLate p.toNat q b 64) v
     p.toNat ≤ 3 ∧ v.linkUp p.toNat = true ∧ v.boundaryIs p.toNat b iv st fr = true ∧
     (u.idleAt p.toNat b = false ∨ u.nextFrame p.toNat t0 b = none)) ∧
    (let s : State := { net with port := { net.port with queues := [(0, [qf1])] } }
     let p : Byte := 0
     let b : Nat := 1000
     let iv : Nat := 400
     let st : Nat := 0
     let fr : Nat := 0
     let t0 := s.internalOf p.toNat b
     let v := (s.reach t0).applyGates
     let u := (List.range 8).foldl (fun x q => x.dropLate p.toNat q b 64) v
     let q : Nat := 0
     let f : QFrame := qf1
     p.toNat ≤ 2 ∧ v.linkUp p.toNat = true ∧ v.boundaryIs p.toNat b iv st fr = true ∧ u.idleAt p.toNat b = true ∧
     u.nextFrame p.toNat t0 b = some (q, f) ∧ f.origin = .own ∧ f.oneStep = false ∧ f.residence = none ∧
     f.bytes.length ≤ 1518 ∧ (u.portCfg p.toNat).required = false ∧ u.driftWaiting p.toNat = []) ∧
    (let s : State := ready
     let p : Byte := 0
     let f : RxFrame := { rxf with bytes := frame1 }
     let u := s.reach f.at_
     (3 < p.toNat ∨ u.switching = false)) ∧
    (let s : State := net
     let p : Byte := 0
     let f : RxFrame := { rxf with bytes := frame1, elastic := true, ppm := 10001 }
     let u := s.reach f.at_
     p.toNat ≤ 3 ∧ u.switching = true ∧ u.abortCause p.toNat f = 4) ∧
    (let s : State := net
     let p : Byte := 0
     let f : RxFrame := { rxf with wire := 63 }
     let u := s.reach f.at_
     p.toNat ≤ 3 ∧ u.switching = true ∧ (u.abortCause p.toNat f = 1 ∨ u.abortCause p.toNat f = 3)) ∧
    (let s : State := netSec
     let p : Byte := 0
     let f : RxFrame := { rxf with bytes := frame1 }
     let u := s.reach f.at_
     p.toNat ≤ 3 ∧ u.switching = true ∧ u.abortCause p.toNat f = 2) ∧
    (let s : State := net
     let p : Byte := 0
     let f : RxFrame := { rxf with bytes := frame1 }
     let u := s.reach f.at_
     p.toNat ≤ 3 ∧ u.switching = true ∧ u.abortCause p.toNat f = 0 ∧ u.pairBars p.toNat f.bytes = false ∧
     (∀ q, q ≤ 3 → (u.portCfg q).defQ ≤ 7) ∧ etherType f.bytes ≠ 0x8808 ∧ isField f.bytes = false ∧
     u.port.addr.length < 1024) ∧
    (let s : State := net
     let p : Byte := 0
     let f : RxFrame := { rxf with bytes := frame1 }
     let u := s.reach f.at_
     let q : Nat := 2
     let untag : Bool := true
     p.toNat ≤ 3 ∧ u.switching = true ∧ u.abortCause p.toNat f = 0 ∧ u.pairBars p.toNat f.bytes = false ∧
     (∀ q, q ≤ 3 → (u.portCfg q).defQ ≤ 7) ∧ q ≤ 3 ∧ q ≠ p.toNat ∧ 2 ≤ q ∧ (u.portCfg p.toNat).fwd.getLsbD q = true ∧
     isGroup f.bytes = true ∧ etherType f.bytes ≠ 0x8808 ∧ etherType f.bytes ≠ 0x88F7 ∧ isField f.bytes = false ∧
     linkLocal f.bytes = false ∧ tagLen f.bytes = 0 ∧ u.vlanOk p.toNat f.bytes = true ∧
     u.member q (u.vidOn p.toNat f.bytes) = some untag ∧ u.linkUp q = true ∧
     u.pairBars q (retag f.bytes (u.vidOn p.toNat f.bytes) untag) = false ∧
     u.hasRoom q (u.portCfg q).defQ (retag f.bytes (u.vidOn p.toNat f.bytes) untag).length = true) ∧
    (let s : State := ready
     let p : Byte := 0
     let f : RxFrame := { rxf with bytes := frame1 }
     let u := s.reach f.at_
     u.cutsThrough p.toNat f = false) ∧
    (let s : State := (net.setBit (pReg 1 0x104) 0 true)
     let p : Byte := 0
     let f : RxFrame := { rxf with bytes := frame1, elastic := true, ppm := 10001 }
     let u := s.reach f.at_
     u.cutsThrough p.toNat f = true ∧ u.linkUp (1 - p.toNat) = true ∧ u.abortCause p.toNat f ≠ 0 ∧
     (u.portCfg (1 - p.toNat)).required = false ∧ u.tcOn = false) ∧
    (let s : State := { (net.setBit (pReg 1 0x104) 0 true) with port := { net.port with cfg := [(0, { fwd := 0x16 }), (1, { fwd := 0x16, required := true })] } }
     let p : Byte := 0
     let f : RxFrame := { rxf with bytes := frame1, elastic := true, ppm := 10001 }
     let u := s.reach f.at_
     u.cutsThrough p.toNat f = true ∧ u.linkUp (1 - p.toNat) = true ∧ u.abortCause p.toNat f ≠ 0 ∧
     (u.portCfg (1 - p.toNat)).required = true ∧ u.txSa (1 - p.toNat) = none) ∧
    (let s : State := net
     let p : Byte := 0
     let f : RxFrame := { rxf with bytes := frame1 }
     let u := s.reach f.at_
     u.cutsThrough p.toNat f = true ∧ u.linkUp (1 - p.toNat) = false) ∧
    (let s : State := (net.setBit (pReg 1 0x104) 0 true)
     let p : Byte := 0
     let f : RxFrame := { rxf with bytes := frame1 }
     let u := s.reach f.at_
     u.cutsThrough p.toNat f = true ∧ u.linkUp (1 - p.toNat) = true ∧ u.abortCause p.toNat f = 0 ∧ u.tcOn = false ∧
     (u.portCfg (1 - p.toNat)).required = false ∧ f.bytes.length ≤ 1518) := by
  repeat refine ⟨by decide +kernel, ?_⟩
  decide +kernel

theorem witness_linksAndUartsRespond :
    (let s : State := ready
     let p : Byte := 5
     let v : Byte := 0
     (3 < p.toNat ∨ s.subOn (0x10 + p.toNat) = false ∨ s.bit aDomBusy (0x10 + p.toNat) = true ∨ s.speedOk p.toNat v.toNat = false)) ∧
    (let s : State := ready
     let p : Byte := 0
     let v : Byte := 1
     p.toNat ≤ 2 ∧ s.subOn (0x10 + p.toNat) = true ∧ s.bit aDomBusy (0x10 + p.toNat) = false ∧
     s.speedOk p.toNat v.toNat = true) ∧
    (let s : State := ready
     let v : Byte := 3
     s.subOn 0x13 = true ∧ s.bit aDomBusy 0x13 = false ∧ s.speedOk 3 v.toNat = true) ∧
    (let s : State := net
     let p : Byte := 0
     p.toNat ≤ 3 ∧ s.linkUp p.toNat = true) ∧
    (let s : State := ready
     let p : Byte := 0
     (3 < p.toNat ∨ s.linkUp p.toNat = false)) ∧
    (let s : State := ready
     let m : Master := .firn
     let k : Byte := 4
     (3 < k.toNat ∨ (s.regDenied m (0x80600 + 0x20 * k.toNat) true = none ∧ uartWriter m = false))) ∧
    (let s : State := ready
     let m : Master := .firn
     let k : Byte := 0
     k.toNat ≤ 3 ∧ s.regDenied m (0x80600 + 0x20 * k.toNat) true = none ∧ uartWriter m = true ∧
     kfind s.port.utx k.toNat = none) ∧
    (let s : State := { ready with port := { ready.port with utx := [(0, ⟨none, 0, 0, 4, 0, 0⟩)] } }
     let m : Master := .firn
     let k : Byte := 0
     k.toNat ≤ 3 ∧ s.regDenied m (0x80600 + 0x20 * k.toNat) true = none ∧ uartWriter m = true ∧
     kfind s.port.utx k.toNat ≠ none) ∧
    (let s : State := ready
     let k : Byte := 0
     kfind s.port.utx k.toNat = none) ∧
    (let s : State := { ready with port := { ready.port with utx := [(0, ⟨none, 0, 0, 4, 7, 0⟩)] } }
     let k : Byte := 0
     let st : Nat := 0
     let x : UartTx := ⟨none, 0, 0, 4, 7, 0⟩
     kfind s.port.utx k.toNat = some x ∧ st < x.launch) ∧
    (let s : State := { ready with port := { ready.port with utx := [(0, ⟨none, 0, 0, 4, 0, 0⟩)] } }
     let k : Byte := 0
     let st : Nat := 0
     let x : UartTx := ⟨none, 0, 0, 4, 0, 0⟩
     kfind s.port.utx k.toNat = some x ∧ x.launch ≤ st ∧ x.command = none ∧ kget [] s.port.uwait k.toNat = []) := by
  repeat refine ⟨by decide +kernel, ?_⟩
  decide +kernel

theorem witness_pairCommandsTakeEffect :
    (let s : State := { ready with mem := cells 0x1010000 ([1, 0, 1, 1, 2, 0, 0, 4] ++ leBytes 4 0 ++ leBytes 2 168 ++ leBytes 2 0 ++ leBytes 4 2000 ++ leBytes 4 0) }
     let i : Issue := iss
     let buf : Buf := buf 24
     let r : CfgRecord := {}
     let b := s.rdBuf buf
     let g : Nat := 15
     s.admits { op := 0x0A01, plen := 8 } i ∧ s.bufOk i.host false buf = true ∧ leAt b 0 2 = 1 ∧ pairCfgOk b = true ∧
     s.pairState ≠ 5 ∧ s.pairState ≠ 6 ∧ s.cfg = some r ∧ (b.getD 7 0).getLsbD 2 = true ∧ g < 16) ∧
    (let s : State := { ready with mem := cells 0x1010000 ([1, 0, 1, 1, 2, 0, 0, 4] ++ leBytes 4 0 ++ leBytes 2 168 ++ leBytes 2 0 ++ leBytes 4 2000 ++ leBytes 4 0) }
     let i : Issue := iss
     s.admits { op := 0x0A02, plen := 0 } i) ∧
    (let s : State := { ready with mem := cells 0x1010000 ([1, 0, 1, 1, 2, 0, 0, 4] ++ leBytes 4 0 ++ leBytes 2 168 ++ leBytes 2 0 ++ leBytes 4 2000 ++ leBytes 4 0) }
     let i : Issue := iss
     let k : Byte := 0
     let b : W32 := 0x1000000
     let l : W32 := 64
     let u := (s.wr (0x90100 + 8 * k.toNat) b).wr (0x90104 + 8 * k.toNat) l
     let j : Nat := 79
     s.admits { op := 0x0A03, plen := 9 } i ∧ s.regionOk k.toNat b.toNat l.toNat = true ∧ s.pairState ≠ 3 ∧
     s.pairState ≠ 4 ∧ s.pairState ≠ 5 ∧ u.regionTotal 0 64 ≤ 0x800000 ∧ u.regionTotal 64 16 ≤ 0x400000 ∧ j < 80 ∧
     j ≠ k.toNat) ∧
    (let s : State := { ready with mem := cells 0x1010000 ([1, 0, 1, 1, 2, 0, 0, 4] ++ leBytes 4 0 ++ leBytes 2 168 ++ leBytes 2 0 ++ leBytes 4 2000 ++ leBytes 4 0) }
     let i : Issue := iss
     let k : Byte := 0
     let b : W32 := 0x1000000
     let l : W32 := 64
     let u := (s.wr (0x90100 + 8 * k.toNat) b).wr (0x90104 + 8 * k.toNat) l
     let x : Nat := 0x40000
     s.admits { op := 0x0A03, plen := 9 } i ∧ s.regionOk k.toNat b.toNat l.toNat = true ∧ s.pairState ≠ 3 ∧
     s.pairState ≠ 4 ∧ s.pairState ≠ 5 ∧ u.regionTotal 0 64 ≤ 0x800000 ∧ u.regionTotal 64 16 ≤ 0x400000 ∧ k.toNat < 64 ∧
     x ∈ linesOf b.toNat l.toNat) ∧
    (let s : State := pairIn 2
     let i : Issue := iss
     s.admits { op := 0x0A04, plen := 0, frozenNo := true, async := true } i ∧ s.standby = false ∧ s.pairState = 2 ∧
     s.pairLink = true ∧ s.swapOk = true) ∧
    (let s : State := pairIn 4
     let i : Issue := iss
     s.admits { op := 0x0A05, plen := 0, async := true } i ∧ s.pairState = 4 ∧ s.pairLink = true) := by
  repeat refine ⟨by decide +kernel, ?_⟩
  decide +kernel

theorem witness_heartbeatsDecideTheVoice :
    (let s : State := ready
     let at_ : Nat := 0
     let u := s.reach at_
     (at_ % 1000000 ≠ 0 ∨ u.pair.alive = false ∨ u.pair.pfail = true ∨ u.paired = false)) ∧
    (let s : State := pairIn 3
     let at_ : Nat := 0
     let u := s.reach at_
     at_ % 1000000 = 0 ∧ u.pair.alive = true ∧ u.pair.pfail = false ∧ u.paired = true ∧ u.address ≠ 0 ∧
     u.linkUp 3 = true ∧ u.hasRoom 3 7 54 = true) ∧
    (let s : State := pairIn 3
     let h : FrameHeader := { hdr with src := 5 }
     let b : HeartbeatBody := { state := 2, flags := 0, hbseq := 1, epoch := 0 }
     let u := s.reach h.at_
     (s.reach h.at_).carried h ∧ (s.reach h.at_).accepts h false = .ok ∧ u.hbValid h b = false) ∧
    (let s : State := pairIn 1
     let h : FrameHeader := hdr
     let b : HeartbeatBody := { state := 2, flags := 0, hbseq := 1, epoch := 0 }
     let u := s.reach h.at_
     (s.reach h.at_).carried h ∧ (s.reach h.at_).accepts h false = .ok ∧ u.hbValid h b = true ∧ u.pairState = 1 ∧
     (b.state = 2 ∨ u.ilIn = true)) ∧
    (let s : State := pairIn 1
     let h : FrameHeader := { hdr with claim := 1 }
     let b : HeartbeatBody := { state := 1, flags := 0, hbseq := 1, epoch := 0 }
     let u := s.reach h.at_
     (s.reach h.at_).carried h ∧ (s.reach h.at_).accepts h false = .ok ∧ u.hbValid h b = true ∧ u.pairState = 1 ∧
     b.state ≠ 2 ∧ u.ilIn = false ∧ fldOf h.claim 7 0 = u.pair.cfg.unitId.toNat) ∧
    (let s : State := pairIn 2
     let h : FrameHeader := { hdr with claim := 0x1000 }
     let b : HeartbeatBody := { state := 2, flags := 0, hbseq := 1, epoch := 0 }
     let u := s.reach h.at_
     (s.reach h.at_).carried h ∧ (s.reach h.at_).accepts h false = .ok ∧ u.hbValid h b = true ∧ u.pairState = 2 ∧
     b.state = 2 ∧ (u.rd aClaim).toNat < h.claim.toNat) ∧
    (let s : State := pairIn 3
     let h : FrameHeader := hdr
     let b : HeartbeatBody := { state := 2, flags := 0, hbseq := 1, epoch := 0 }
     let u := s.reach h.at_
     (s.reach h.at_).carried h ∧ (s.reach h.at_).accepts h false = .ok ∧ u.hbValid h b = true ∧ u.pairState = 3 ∧
     b.flags.getLsbD 7 = false ∧ b.state = 2 ∧ b.flags.getLsbD 1 = false) ∧
    (let s : State := pairIn 6
     let h : FrameHeader := { hdr with claim := 0x1000 }
     let b : HeartbeatBody := { state := 2, flags := 0, hbseq := 1, epoch := 0 }
     let u := s.reach h.at_
     (s.reach h.at_).carried h ∧ (s.reach h.at_).accepts h false = .ok ∧ u.hbValid h b = true ∧ u.pairState = 6 ∧
     b.state = 2 ∧ (u.rd aClaim).toNat < h.claim.toNat) ∧
    (let s : State := ready
     let at_ : Nat := 0
     let u := s.reach at_
     (u.paired = false ∨ at_ % 1000000 ≠ 500000)) ∧
    (let s : State := { pairIn 3 with pair := { (pairIn 3).pair with seen := true } }
     let at_ : Nat := 500000
     let u := s.reach at_
     u.paired = true ∧ at_ % 1000000 = 500000 ∧ u.pair.seen = true) ∧
    (let s : State := (pairHigh 3).setFld aHbMiss 2 0 4
     let at_ : Nat := 500000
     let u := s.reach at_
     let n := u.fld aHbMiss 2 0 + 1
     u.paired = true ∧ at_ % 1000000 = 500000 ∧ u.pair.seen = false ∧ 5 ≤ n ∧
     (u.pairState = 3 ∨ u.pairState = 4 ∨ u.pairState = 5) ∧ u.ilIn = true) ∧
    (let s : State := (pairIn 2).setFld aHbMiss 2 0 4
     let at_ : Nat := 500000
     let u := s.reach at_
     let n := u.fld aHbMiss 2 0 + 1
     u.paired = true ∧ at_ % 1000000 = 500000 ∧ u.pair.seen = false ∧ 5 ≤ n ∧ u.pairState = 2) ∧
    (let s : State := (pairHigh 3).setFld aHbMiss 2 0 4
     let at_ : Nat := 500000
     let u := s.reach at_
     let n := u.fld aHbMiss 2 0 + 1
     u.paired = true ∧ at_ % 1000000 = 500000 ∧ u.pair.seen = false ∧ 5 ≤ n ∧ u.pairState = 3 ∧ u.pair.loss = false ∧
     u.ilIn = true) ∧
    (let s : State := (pairIn 3).setFld aHbMiss 2 0 4
     let at_ : Nat := 500000
     let u := s.reach at_
     let n := u.fld aHbMiss 2 0 + 1
     u.paired = true ∧ at_ % 1000000 = 500000 ∧ u.pair.seen = false ∧ 5 ≤ n ∧ u.pairState = 3 ∧ u.ilIn = false ∧
     u.pair.alive = true ∧ u.frozen = false ∧ u.topEpoch < 0xFFFFFF) ∧
    (let s : State := pairIn 3
     let at_ : Nat := 500000
     let u := s.reach at_
     u.paired = true ∧ at_ % 1000000 = 500000 ∧ u.pair.seen = false) := by
  repeat refine ⟨by decide +kernel, ?_⟩
  decide +kernel

theorem witness_linesAndWaitsDecide :
    (let s : State := pairIn 1
     let l : Bool := true
     l = true ∧ s.pairState = 1) ∧
    (let s : State := pairHigh 3
     let l : Bool := true
     l = true ∧ s.pairState ≠ 1 ∧ s.ilIn = true) ∧
    (let s : State := pairIn 3
     let l : Bool := true
     l = true ∧ s.pairState ≠ 1 ∧ s.ilIn = false) ∧
    (let s : State := { (pairIn 3) with pair := { ((pairIn 3)).pair with loss := true } }
     let l : Bool := false
     l = false ∧ s.pairState = 3 ∧ s.pair.loss = true ∧ s.pair.alive = true ∧ s.frozen = false ∧ s.topEpoch < 0xFFFFFF) ∧
    (let s : State := pairIn 3
     let e : Nat := 1999
     let w := s.pair.cfg.startWait * (if s.pair.cfg.primary then 1 else 2)
     (s.pairState ≠ 1 ∨ s.ilIn = true ∨ e < w)) ∧
    (let s : State := pairIn 1
     let e : Nat := 4000
     let w := s.pair.cfg.startWait * (if s.pair.cfg.primary then 1 else 2)
     s.pairState = 1 ∧ s.ilIn = false ∧ w ≤ e ∧ s.topEpoch < 0xFFFFFF) ∧
    (let s : State := ready
     let m : Master := .seq
     m ≠ .firn ∧ s.regDenied m aPairCtrl true = none) ∧
    (let s : State := pairIn 3
     s.regDenied .firn aPairCtrl true = none ∧ s.pairState ≠ 4) ∧
    (let s : State := pairIn 4
     s.regDenied .firn aPairCtrl true = none ∧ s.pairState = 4) ∧
    (let s : State := ready
     s.pair.alive = false) ∧
    (let s : State := pairIn 2
     s.pair.alive = true ∧ s.paired = true ∧ s.pairState < 7) ∧
    (let s : State := { ready with pair := { (ready).pair with alive := true } }
     s.pair.alive = true ∧ (s.paired = false ∨ 7 ≤ s.pairState)) ∧
    (let s : State := ready
     let b : Bool := false
     b = (s.pairState == 2 && s.ilIn && decide ((s.rd aPClaim).toNat > (s.rd aClaim).toNat)) ∧ b = false) ∧
    (let s : State := (pairHigh 2).wr aPClaim 5
     let b : Bool := true
     b = (s.pairState == 2 && s.ilIn && decide ((s.rd aPClaim).toNat > (s.rd aClaim).toNat)) ∧ b = true) ∧
    (let s : State := ready
     let f : Byte := 2
     (1 < f.toNat ∨ s.bit aFeed f.toNat = false)) ∧
    (let s : State := ready.setBit aFeed 1 true
     let f : Byte := 1
     f.toNat ≤ 1 ∧ s.bit aFeed f.toNat = true) ∧
    (let f : Byte := 0
     f.toNat ≤ 1) ∧
    (let f : Byte := 2
     1 < f.toNat) := by
  repeat refine ⟨by decide +kernel, ?_⟩
  decide +kernel

theorem witness_theMirrorFollows :
    (let s : State := pairIn 3
     let at_ : Nat := 1
     (s.reach at_).mirrorInstant at_ = false) ∧
    (let s : State := pairIn 3
     let at_ : Nat := 0
     let u := (s.reach at_).wr aMbytes 0
     (s.reach at_).mirrorInstant at_ = true ∧ (u.pairState ≠ 2 ∨ u.pair.mirrorOff = true)) ∧
    (let s : State := { (pairIn 2) with pair := { ((pairIn 2)).pair with dirty := [5] } }
     let at_ : Nat := 0
     let u := (s.reach at_).wr aMbytes 0
     let n := 64 * u.pair.dirty.length
     (s.reach at_).mirrorInstant at_ = true ∧ u.pairState = 2 ∧ u.pair.mirrorOff = false ∧ n ≤ 0x200000) ∧
    (let s : State := { (pairIn 2) with pair := { ((pairIn 2)).pair with dirty := List.range 32769 } }
     let at_ : Nat := 0
     let u := (s.reach at_).wr aMbytes 0
     let n := 64 * u.pair.dirty.length
     (s.reach at_).mirrorInstant at_ = true ∧ u.pairState = 2 ∧ u.pair.mirrorOff = false ∧ 0x200000 < n) ∧
    (let s : State := pairIn 3
     let m : Master := .mtr
     m ≠ .seq ∧ m ≠ .firn ∧ s.regDenied m 0x90034 true = none) ∧
    (let s : State := { (pairIn 2) with pair := { ((pairIn 2)).pair with dirty := [5] } }
     let m : Master := .seq
     let n := 64 * s.pair.dirty.length
     (m = .seq ∨ m = .firn) ∧ s.regDenied m 0x90034 true = none ∧ s.pairState = 2 ∧ s.pair.mirrorOff = false ∧
     n ≤ 0x200000 ∧ (s.rd aMbytes).toNat + n ≤ 0x800000) ∧
    (let s : State := pairIn 4
     let h : FrameHeader := hdr
     let u := s.reach h.at_
     (s.reach h.at_).carried h ∧ (s.reach h.at_).accepts h false = .ok ∧
     (u.fromPartner h = false ∨ (u.pairState ≠ 3 ∧ u.pairState ≠ 5))) ∧
    (let s : State := { (pairIn 3) with pair := { ((pairIn 3)).pair with staged := some (1, 0, line1) } }
     let h : FrameHeader := hdr
     let u := s.reach h.at_
     let m : W32 := 1
     let f : Byte := 0
     let x : List (W32 × Bytes) := line1
     (s.reach h.at_).carried h ∧ (s.reach h.at_).accepts h false = .ok ∧ u.fromPartner h = true ∧
     (u.pairState = 3 ∨ u.pairState = 5) ∧ u.pair.staged = some (m, f, x)) ∧
    (let s : State := pairIn 3
     let h : FrameHeader := hdr
     let u := s.reach h.at_
     (s.reach h.at_).carried h ∧ (s.reach h.at_).accepts h false = .ok ∧ u.fromPartner h = true ∧
     (u.pairState = 3 ∨ u.pairState = 5) ∧ u.pair.staged = none) ∧
    (let s : State := { (pairIn 3) with pair := { ((pairIn 3)).pair with staged := some (1, 0, line1) } }
     let h : FrameHeader := hdr
     let u := s.reach h.at_
     let e : MirrorEndBody := ⟨1, 1, 0⟩
     let f : Byte := 0
     let l : List (W32 × Bytes) := line1
     let a : W32 := 0x1000000
     let bs : Bytes := List.replicate 64 7
     let j : Nat := 63
     (s.reach h.at_).carried h ∧ (s.reach h.at_).accepts h false = .ok ∧ u.fromPartner h = true ∧ u.pairState = 3 ∧
     u.pair.rsFirst = false ∧ u.pair.staged = some (e.mseq, f, l) ∧ e.mseq = u.rd aMseq + 1 ∧ l.length = e.lines.toNat ∧
     l = [(a, bs)] ∧ a.toNat + 64 ≤ 0x02000000 ∧ bs.length = 64 ∧ (∀ j < 64, u.poisoned (a.toNat + j) = false) ∧ j < 64) ∧
    (let s : State := pairIn 3
     let h : FrameHeader := hdr
     let u := s.reach h.at_
     let e : MirrorEndBody := ⟨2, 1, 0⟩
     (s.reach h.at_).carried h ∧ (s.reach h.at_).accepts h false = .ok ∧ u.fromPartner h = true ∧
     (u.pairState = 3 ∨ u.pairState = 5) ∧ u.pair.rsFirst = false ∧ e.mseq ≠ u.rd aMseq + 1) ∧
    (let s : State := pairIn 3
     let h : FrameHeader := hdr
     let u := s.reach h.at_
     (s.reach h.at_).carried h ∧ (s.reach h.at_).accepts h false = .ok ∧ u.fromPartner h = true ∧
     (u.pairState = 3 ∨ u.pairState = 4 ∨ u.pairState = 5) ∧ u.pairState = 3) ∧
    (let s : State := pairIn 3
     let h : FrameHeader := hdr
     let u := s.reach h.at_
     let r : Regions := ⟨List.replicate 80 (0x1000000, 0)⟩
     let k : Nat := 79
     let p : W32 × W32 := (0x1000000, 0)
     (s.reach h.at_).carried h ∧ (s.reach h.at_).accepts h false = .ok ∧ u.fromPartner h = true ∧
     (u.pairState = 3 ∨ u.pairState = 4 ∨ u.pairState = 5) ∧ k < 80 ∧ r.entries[k]? = some p) ∧
    (let s : State := pairIn 2
     let h : FrameHeader := hdr
     let u := s.reach h.at_
     (s.reach h.at_).carried h ∧ (s.reach h.at_).accepts h false = .ok ∧
     (u.fromPartner h = false ∨ (u.pairState ≠ 3 ∧ u.pairState ≠ 4 ∧ u.pairState ≠ 5))) := by
  repeat refine ⟨by decide +kernel, ?_⟩
  decide +kernel

theorem witness_swapsAndResyncsEnd :
    (let s : State := pairIn 3
     let at_ : Nat := 3600000000000
     let u := s.reach at_
     let past := (u.now : Int) - (u.pair.activeSince + (u.pair.cfg.swapH * 3600000000000 : Nat))
     let due := u.pairState = 2 ∧ u.pair.cfg.swapH ≠ 0 ∧ u.swapInstant at_ = true ∧ 0 ≤ past
     ¬ due) ∧
    (let s : State := pairIn 2
     let at_ : Nat := 3600000000000
     let u := s.reach at_
     let past := (u.now : Int) - (u.pair.activeSince + (u.pair.cfg.swapH * 3600000000000 : Nat))
     let due := u.pairState = 2 ∧ u.pair.cfg.swapH ≠ 0 ∧ u.swapInstant at_ = true ∧ 0 ≤ past
     due ∧ u.swapOk = true) ∧
    (let s : State := { (pairIn 2) with pair := { ((pairIn 2)).pair with pState := 4 } }
     let at_ : Nat := 10800000000000
     let u := s.reach at_
     let past := (u.now : Int) - (u.pair.activeSince + (u.pair.cfg.swapH * 3600000000000 : Nat))
     let due := u.pairState = 2 ∧ u.pair.cfg.swapH ≠ 0 ∧ u.swapInstant at_ = true ∧ 0 ≤ past
     due ∧ u.swapOk = false) ∧
    (let s : State := pairIn 3
     let h : FrameHeader := hdr
     let u := s.reach h.at_
     let m : W32 := 1
     (s.reach h.at_).carried h ∧ (s.reach h.at_).accepts h false = .ok ∧ u.fromPartner h = true ∧ u.pairState = 3 ∧
     u.rd aMseq ≠ m) ∧
    (let s : State := pairIn 3
     let h : FrameHeader := hdr
     let u := s.reach h.at_
     let m : W32 := 0
     (s.reach h.at_).carried h ∧ (s.reach h.at_).accepts h false = .ok ∧ u.fromPartner h = true ∧ u.pairState = 3 ∧
     u.rd aMseq = m ∧ u.ilIn = false ∧ u.frozen = false ∧ u.topEpoch < 0xFFFFFF) ∧
    (let s : State := pairIn 6
     let h : FrameHeader := hdr
     let u := s.reach h.at_
     let c : W32 := 9
     (s.reach h.at_).carried h ∧ (s.reach h.at_).accepts h false = .ok ∧ u.fromPartner h = true ∧ u.pairState = 6 ∧
     (u.rd aClaim).toNat < c.toNat) ∧
    (let s : State := pairIn 2
     let h : FrameHeader := hdr
     let u := s.reach h.at_
     (s.reach h.at_).carried h ∧ (s.reach h.at_).accepts h false = .ok ∧ u.fromPartner h = true ∧ u.pairState = 2) ∧
    (let s : State := pairIn 5
     let h : FrameHeader := hdr
     let u := s.reach h.at_
     let m : W32 := 0
     (s.reach h.at_).carried h ∧ (s.reach h.at_).accepts h false = .ok ∧ u.fromPartner h = true ∧ u.pairState = 5 ∧
     u.rd aMseq = m ∧ u.pair.rsFirst = false) ∧
    (let s : State := pairIn 3
     let h : FrameHeader := { hdr with src := 5 }
     let u := s.reach h.at_
     (s.reach h.at_).carried h ∧ (s.reach h.at_).accepts h false = .ok ∧ u.fromPartner h = false) ∧
    (let s : State := pairIn 6
     s.pairState = 6 ∧ s.pair.pState = 3 ∧ s.ilIn = false) ∧
    (let s : State := pairIn 3
     (s.pairState ≠ 6 ∨ s.pair.pState ≠ 3 ∨ s.ilIn = true) ∧ (s.pairState = 6 ∨ s.pair.swapCmd = none)) ∧
    (let s : State := { (pairIn 3) with pair := { ((pairIn 3)).pair with swapCmd := some 0 } }
     let k : Nat := 0
     s.pairState ≠ 6 ∧ s.pair.swapCmd = some k) ∧
    (let s : State := pairIn 5
     s.pairState = 5) ∧
    (let s : State := pairIn 3
     s.pairState ≠ 5 ∧ (∀ o ∈ s.mb.outstanding, ∀ i, o.cmd ≠ .pairResync i)) := by
  repeat refine ⟨by first | decide +kernel | exact fun o h _ => absurd (show o ∈ ([] : List Outst) from h) List.not_mem_nil, ?_⟩
  first | decide +kernel | exact fun o h _ => absurd (show o ∈ ([] : List Outst) from h) List.not_mem_nil

theorem witness_calendarCommandsTakeEffect :
    (let s : State := ready
     let i : Issue := iss
     s.admits { op := 0x0801, plen := 0 } i ∧ s.isHead = false) ∧
    (let s : State := head
     let i : Issue := iss
     let f : Nat := 6
     s.admits { op := 0x0801, plen := 0 } i ∧ s.isHead = true ∧ f < 7) ∧
    (let s : State := head
     let i : Issue := iss
     s.admits { op := 0x0801, plen := 0 } i ∧ s.isHead = true ∧ i.env.roll = false) ∧
    (let s : State := ready.setCal fun c => { c with secs := 3000000000 }
     let i : Issue := iss
     let v : W64 := 0x0024022900235958
     let c : Byte := 1
     let n : Nat := 762566398
     let f := byteOf v
     let p : Nat × Nat := (0x40, 0x29)
     s.admits { op := 0x0802, plen := 9 } i ∧ secsOf (f 0) (f 1) (f 2) (f 4) (f 5) (f 6) = some n ∧ f 3 = 0 ∧ f 7 ≤ 1 ∧
     c.toNat ≤ 1 ∧ p ∈ [(0x30, f 0), (0x34, f 1), (0x38, f 2), (0x40, f 4), (0x44, f 5), (0x48, f 6), (0x4C, f 7)]) ∧
    (let s : State := ready.setCal fun c => { c with secs := 3000000000 }
     let i : Issue := iss
     let v : W64 := 0x0024022900235958
     let c : Byte := 0
     let n : Nat := 762566398
     let f := byteOf v
     s.admits { op := 0x0802, plen := 9 } i ∧ secsOf (f 0) (f 1) (f 2) (f 4) (f 5) (f 6) = some n ∧ f 3 = 0 ∧ f 7 ≤ 1 ∧
     c.toNat ≤ 1 ∧ c = 0) ∧
    (let s : State := ready.setCal fun c => { c with secs := 3000000000 }
     let i : Issue := iss
     let v : W64 := 0x0024022900235958
     let c : Byte := 1
     let n : Nat := 762566398
     let f := byteOf v
     s.admits { op := 0x0802, plen := 9 } i ∧ secsOf (f 0) (f 1) (f 2) (f 4) (f 5) (f 6) = some n ∧ f 3 = 0 ∧ f 7 ≤ 1 ∧
     c.toNat ≤ 1 ∧ c = 1 ∧ n < s.cal.secs) ∧
    (let s : State := (ready.setBit 0x70008 0 true)
     let i : Issue := iss
     let d : Byte := 1
     (d = 1 ∨ d = 0xFF) ∧ s.admits { op := 0x0803, plen := 1 } i ∧ s.shiftRefused (d == 1) i.env.roll = false) ∧
    (let s : State := ready
     let i : Issue := iss
     let k : Byte := 1
     let v : W64 := 0x0024022907235958
     let m : Byte := 0
     let f : Nat := 6
     s.admits { op := 0x0804, plen := 10 } i ∧ k.toNat ≤ 1 ∧ byteOf v 7 ≤ 1 ∧ m.getLsbD 7 = false ∧
     (∀ f < 7, m.getLsbD f = false → almInRange f (byteOf v f) = true) ∧
     (m.getLsbD 4 = false → m.getLsbD 5 = false → ofBcd (byteOf v 4) ≤ (monthDays 0).getD (ofBcd (byteOf v 5) - 1) 0) ∧
     f < 7 ∧ f ≠ 3) ∧
    (let s : State := (ready.setBit 0x70008 0 true)
     let i : Issue := iss
     let y : Byte := 2
     let n : W16 := 10
     s.admits { op := 0x0805, plen := 3, async := true } i ∧ y.toNat ≤ 2 ∧ 10 ≤ n.toNat ∧ s.calValid = true ∧
     s.cal.meas = none) ∧
    (let s : State := ready
     let i : Issue := iss
     let v : W16 := -5000
     s.admits { op := 0x0806, plen := 2 } i ∧ -5000 ≤ v.toInt ∧ v.toInt ≤ 5000) := by
  repeat refine ⟨by decide +kernel, ?_⟩
  decide +kernel

theorem witness_theCalendarAdvances :
    (let s : State := ready.setCal fun c => { c with secs := calSpan - 1 }
     s.cal.secs + 1 = calSpan) ∧
    (let s : State := ready.setCal fun c => { c with repeatAt := some 1 }
     s.cal.repeatAt = some s.nextSec) ∧
    (let s : State := ready
     let f : Nat := 6
     s.isHead = false ∧ f < 7) ∧
    (let s : State := ready
     let m : Master := .hostp
     let np : Bool := true
     s.regDenied m 0x70004 true = some np) ∧
    (let s : State := ready
     let m : Master := .mtr
     s.regDenied m 0x70004 true = none ∧ calWriter m = false) ∧
    (let s : State := (ready.wrAll [(0x70030, 0x58), (0x70034, 0x59), (0x70038, 0x23), (0x70040, 0x29), (0x70044, 0x02), (0x70048, 0x24)]).setCal fun c => { c with secs := 3000000000 }
     let m : Master := .firn
     let n : Nat := 762566398
     s.regDenied m 0x70004 true = none ∧ calWriter m = true ∧ s.calStaged = some n ∧ n < s.cal.secs) ∧
    (let s : State := ready.wrAll [(0x70030, 0x58), (0x70034, 0x59), (0x70038, 0x23), (0x70040, 0x29), (0x70044, 0x02), (0x70048, 0x24)]
     let m : Master := .firn
     let n : Nat := 762566398
     s.regDenied m 0x70004 true = none ∧ calWriter m = true ∧ s.calStaged = some n) ∧
    (let s : State := ready
     let m : Master := .firn
     s.regDenied m 0x70004 true = none ∧ calWriter m = true ∧ s.calStaged = none) ∧
    (let s : State := head
     let m : Master := .firn
     let f : Nat := 6
     s.regDenied m 0x70004 true = none ∧ calWriter m = true ∧ s.isHead = true ∧ f < 7) ∧
    (let s : State := ready
     let m : Master := .firn
     s.regDenied m 0x70004 true = none ∧ calWriter m = true ∧ s.isHead = false) ∧
    (let s : State := ready
     let m : Master := .firn
     s.regDenied m 0x70004 true = none ∧ calWriter m = true ∧ s.shiftRefused true false = true) ∧
    (let s : State := ready
     let m : Master := .firn
     s.regDenied m 0x70004 true = none ∧ calWriter m = true ∧ s.shiftRefused false false = true) ∧
    (let s : State := (ready.setBit 0x70008 0 true)
     let m : Master := .firn
     s.regDenied m 0x70004 true = none ∧ calWriter m = true ∧ s.shiftRefused true false = false) ∧
    (let s : State := ((ready.setBit 0x70008 0 true).setBit 0x70008 1 true).setCal fun c => { c with secs := 3600 }
     let m : Master := .firn
     s.regDenied m 0x70004 true = none ∧ calWriter m = true ∧ s.shiftRefused false false = false) ∧
    (let s : State := ready
     let m : Master := .firn
     let f : Byte := 0
     f.toNat ≤ 6 ∧ s.regDenied m (0x70010 + 4 * f.toNat) false = none ∧ s.isHead = false ∧ f.toNat ≠ 6) ∧
    (let s : State := ready
     let m : Master := .firn
     let f : Byte := 6
     f.toNat ≤ 6 ∧ s.regDenied m (0x70010 + 4 * f.toNat) false = none ∧ s.isHead = false ∧ f.toNat = 6) ∧
    (let s : State := ready
     s.cal.meas = none) ∧
    (let s : State := ready.setCal fun c => { c with meas := some { id := 0, source := 2, seconds := 10, left := some 3 } }
     let r : TrimRun := { id := 0, source := 2, seconds := 10, left := some 3 }
     s.cal.meas = some r ∧ r.left ≠ some 0) ∧
    (let s : State := ready.setCal fun c => { c with meas := some { id := 0, source := 2, seconds := 10, left := some 0, endNs := 10000100000 } }
     let r : TrimRun := { id := 0, source := 2, seconds := 10, left := some 0, endNs := 10000100000 }
     let n : Int := if r.source = 2 then (r.endNs : Int) - r.ns else (((r.endZc + 2 ^ 32 - r.zc) % 2 ^ 32 : Nat) : Int)
     s.cal.meas = some r ∧ r.left = some 0 ∧ r.lost = false ∧ 0 < n) := by
  repeat refine ⟨by decide +kernel, ?_⟩
  decide +kernel

theorem witness_faultCommandsTakeEffect :
    (let s : State := ready
     let i : Issue := iss
     s.admits { op := 0x0B01, plen := 0 } i) ∧
    (let s : State := ready
     let i : Issue := iss
     let buf : Buf := buf 72
     s.admits { op := 0x0B02, plen := 8 } i ∧ 72 ≤ buf.len.toNat ∧ s.bufOk i.host true buf = true) ∧
    (let s : State := ready
     let i : Issue := iss
     s.admits { op := 0x0B03, plen := 0 } i ∧ s.frozen = false) ∧
    (let s : State := { (ready.setBit 0xA0008 0 true) with boot := { ready.boot with goodDone := true } }
     let i : Issue := iss
     let g : Nat := 0
     s.admits { op := 0x0B03, plen := 0 } i ∧ s.frozen = true ∧ s.assertedWith i.env.rising = [] ∧ s.onTrial = false ∧
     g < 6) ∧
    (let s : State := { (ready.wrAll [(0xA0008, 1), (0xA0070, 1), (0xA0080, 1), (0xA0030, 1)]) with boot := { ready.boot with goodDone := true } }
     let i : Issue := iss
     let n : Nat := 128
     s.admits { op := 0x0B03, plen := 0 } i ∧ s.frozen = true ∧ s.assertedWith i.env.rising ≠ [] ∧ s.onTrial = false ∧
     n < 192 ∧ s.srcStatus n = true) ∧
    (let s : State := { (ready.wrAll [(0xA0008, 1), (0xA0070, 1), (0xA0080, 1)]) with boot := { ready.boot with goodDone := true } }
     let i : Issue := iss
     let n : Nat := 128
     s.admits { op := 0x0B03, plen := 0 } i ∧ s.frozen = true ∧ s.assertedWith i.env.rising ≠ [] ∧ s.onTrial = false ∧
     n ∈ s.assertedWith i.env.rising) ∧
    (let s : State := ready
     let i : Issue := iss
     let o : W16 := 23
     let v : W64 := 2
     s.admits { op := 0x0B04, plen := 10 } i ∧ safeOk o.toNat v = true ∧ o.toNat < 24) ∧
    (let s : State := ready
     let i : Issue := iss
     let o : W16 := 0x10F
     let v : W64 := 0x4059000000000000
     s.admits { op := 0x0B04, plen := 10 } i ∧ safeOk o.toNat v = true ∧ 0x100 ≤ o.toNat ∧ o.toNat < 0x110) ∧
    (let s : State := ready
     let i : Issue := iss
     let o : W16 := 0x203
     let v : W64 := 1
     s.admits { op := 0x0B04, plen := 10 } i ∧ safeOk o.toNat v = true ∧ 0x200 ≤ o.toNat) ∧
    (let s : State := ready
     let i : Issue := iss
     let o : W16 := 0
     let v : W64 := 0
     let r : CfgRecord := {}
     s.admits { op := 0x0B04, plen := 10 } i ∧ safeOk o.toNat v = true ∧ s.cfg = some r) ∧
    (let s : State := { ready with cfg := some { testAllow := true }, boot := { ready.boot with goodDone := true } }
     let i : Issue := iss
     let n : Byte := 191
     s.admits { op := 0x0B05, plen := 1 } i ∧ sourceDefined n.toNat = true ∧ s.conf.testAllow = true ∧
     s.fld 0x90008 3 0 ≠ 2 ∧ s.onTrial = false) ∧
    (let s : State := { ready with cfg := some { testAllow := true } }
     let i : Issue := iss
     let n : Byte := 191
     s.admits { op := 0x0B05, plen := 1 } i ∧ sourceDefined n.toNat = true ∧ s.conf.testAllow = true ∧
     s.fld 0x90008 3 0 ≠ 2) := by
  repeat refine ⟨by decide +kernel, ?_⟩
  decide +kernel

theorem witness_faultsAreLatched :
    (let s : State := ready
     let c : Sources := 0
     let m : Sources := 0x3#192 <<< 33
     let u := { s with fault := { s.fault with live := (s.fault.live &&& ~~~m) ||| (c &&& m) } }
     u.assertedWith c = []) ∧
    (let s : State := { (ready.wrAll [(0xA0064, 0xFFFFFFFF)]) with boot := { ready.boot with goodDone := true } }
     let c : Sources := 0x1#192 <<< 33
     let n : Nat := 33
     s.onTrial = false ∧ n < 192 ∧ c.getLsbD n = true) ∧
    (let s : State := { (ready.wrAll [(0xA0064, 0xFFFFFFFF)]) with boot := { ready.boot with goodDone := true } }
     let c : Sources := 0x1#192 <<< 33
     let m : Sources := 0x3#192 <<< 33
     let u := { s with fault := { s.fault with live := (s.fault.live &&& ~~~m) ||| (c &&& m) } }
     let n : Nat := 33
     s.onTrial = false ∧ u.assertedWith c = [n] ∧ s.srcStatus n = false ∧ s.bit 0xA0008 2 = false) ∧
    (let s : State := { ready with boot := { ready.boot with goodDone := true } }
     s.onTrial = false) ∧
    (let k : Byte := 2
     1 < k.toNat) ∧
    (let s : State := ready
     let m : Master := .mtr
     let k : Byte := 0
     k.toNat ≤ 1 ∧ s.regDenied m (0xA0080 + 4 * k.toNat) true = none ∧ userWriter m = false) ∧
    (let s : State := ready.wr 0xA0074 0xFFFFFFFF
     let m : Master := .firn
     let k : Byte := 1
     let v : W32 := 0x80000000
     let b : Nat := 31
     k.toNat ≤ 1 ∧ s.regDenied m (0xA0080 + 4 * k.toNat) true = none ∧ userWriter m = true ∧ b < 32 ∧ v.getLsbD b = true) ∧
    (let s : State := ready
     let m : Master := .firn
     let k : Byte := 0
     k.toNat ≤ 1 ∧ s.regDenied m (0xA0080 + 4 * k.toNat) true = none ∧ userWriter m = true) ∧
    (let s : State := { (ready.setBit 0xA0008 0 true) with boot := { ready.boot with goodDone := true } }
     let r : Sources := 0
     let g : Nat := 5
     s.frozen = true ∧ s.assertedWith r = [] ∧ s.onTrial = false ∧ g < 6) ∧
    (let s : State := { (ready.wrAll [(0xA0008, 1), (0xA0070, 1), (0xA0080, 1)]) with boot := { ready.boot with goodDone := true } }
     let r : Sources := 0
     s.frozen = true ∧ s.assertedWith r ≠ [] ∧ s.onTrial = false) ∧
    (let s : State := ready
     let m : Master := .seq
     let r : Sources := 0
     m ≠ .firn ∧ s.regDenied m 0xA0004 true = none ∧ s.assertedWith r = []) ∧
    (let s : State := ready
     let m : Master := .seq
     m ≠ .firn ∧ s.regDenied m 0xA00A0 true = none) ∧
    (let s : State := { ready with boot := { ready.boot with goodDone := true } }
     let n : Byte := 191
     n.toNat < 192 ∧ s.onTrial = false) ∧
    (let g : Byte := 24
     24 ≤ g.toNat) ∧
    (let s : State := ready.wrAll [(0xA0094, 0x97000000), (0xA006C, 0xFF)]
     let g : Byte := 23
     let l : Bool := true
     let k : Nat := 7
     let c := s.fld (0xA0090 + 4 * (k / 4)) (8 * (k % 4) + 7) (8 * (k % 4))
     g.toNat < 24 ∧ k < 8 ∧ c % 32 = g.toNat ∧ decide (c ≥ 128) = l) ∧
    (let g : Byte := 23
     g.toNat < 24) ∧
    (let s : State := ready
     let k : Byte := 16
     (16 ≤ k.toNat ∨ s.bit 0xA0004 0 = false)) ∧
    (let s : State := (ready.setBit 0xA0004 0 true)
     let k : Byte := 15
     k.toNat < 16 ∧ s.bit 0xA0004 0 = true) ∧
    (let n : Byte := 33
     let k : Nat := 191
     32 ≤ n.toNat ∧ n.toNat ≤ 34 ∧ k < 192) ∧
    (let n : Byte := 34
     32 ≤ n.toNat ∧ n.toNat ≤ 34) ∧
    (let s : State := ready.wr 0xA0030 1
     let n : Byte := 103
     let k : Nat := 128
     96 ≤ n.toNat ∧ n.toNat ≤ 103 ∧ k < 192 ∧ s.srcStatus k = true) ∧
    (let s : State := ready.wrAll [(0xA0090, 0x17), (0xA0094, 0x97000000), (0xA006C, 0xFF)]
     let n : Byte := 103
     let cfg := fun k => s.fld (0xA0090 + 4 * (k / 4)) (8 * (k % 4) + 7) (8 * (k % 4))
     let c := cfg (n.toNat - 96)
     let k : Nat := 0
     96 ≤ n.toNat ∧ n.toNat ≤ 103 ∧ k < 8 ∧ cfg k % 32 = c % 32 ∧ decide (cfg k ≥ 128) = decide (c < 128)) ∧
    (let n : Byte := 96
     96 ≤ n.toNat ∧ n.toNat ≤ 103) ∧
    (let n : Byte := 104
     (n.toNat < 32 ∨ (34 < n.toNat ∧ n.toNat < 96) ∨ 103 < n.toNat)) := by
  repeat refine ⟨by decide +kernel, ?_⟩
  decide +kernel

theorem witness_userSourcesFollowTheirBits :
    (let s : State := ready.wr 0xA0074 0xFFFFFFFF
     let m : Master := .seq
     let k : Byte := 1
     let b : Nat := 31
     k.toNat ≤ 1 ∧ s.regDenied m (0xA0080 + 4 * k.toNat) true = none ∧ m ∈ [.cyc0, .cyc1, .cyc2, .cyc3, .seq, .firn] ∧
     b < 32) ∧
    (let s : State := ready.wr 0xA0074 0xFFFFFFFF
     let m : Master := .mtr
     let k : Byte := 1
     k.toNat ≤ 1 ∧ s.regDenied m (0xA0080 + 4 * k.toNat) true = none ∧ m ∉ [.cyc0, .cyc1, .cyc2, .cyc3, .seq, .firn]) := by
  repeat refine ⟨by decide +kernel, ?_⟩
  decide +kernel

theorem witness_logCommandsTakeEffect :
    (let s : State := ready
     let i : Issue := iss
     let n : W32 := 1
     let buf : Buf := buf 64
     s.admits { op := 0x0C01, plen := 22 } i ∧ 1 ≤ n.toNat ∧ n.toNat ≤ 4096 ∧ 32 ≤ buf.len.toNat ∧
     s.bufOk i.host true buf = true) ∧
    (let s : State := ready
     let i : Issue := iss
     s.admits { op := 0x0C02, plen := 0 } i) ∧
    (let s : State := (ready.setBit 0xB0004 0 true)
     let i : Issue := iss
     s.admits { op := 0x0C03, plen := 0, async := true } i ∧ s.bit 0xB0004 0 = true ∧ s.log.flush = none) ∧
    (let s : State := { (ready.setBit 0xB0004 0 true) with log := { (ready.setBit 0xB0004 0 true).log with unset := false, flush := some 3 } }
     let i : Issue := iss
     s.admits { op := 0x0C03, plen := 0, async := true } i ∧ s.bit 0xB0004 0 = true ∧ s.log.flush ≠ none) ∧
    (let s : State := ready
     let i : Issue := iss
     s.admits { op := 0x0C03, plen := 0, async := true } i ∧ s.bit 0xB0004 0 = false) ∧
    (let s : State := ready
     let i : Issue := iss
     let c : W16 := 0x0101
     let r : W16 := 1000
     let b : W16 := 255
     s.sound ∧ s.admits { op := 0x0C04, plen := 6 } i ∧ limitedCode c.toNat = true ∧ r.toNat ≤ 1000 ∧ 1 ≤ b.toNat ∧
     b.toNat ≤ 255 ∧ (s.rateOf c.toNat ≠ none ∨ s.rateFree ≠ none)) ∧
    (let s : State := { near with key := { near.key with slots := near.key.slots ++ [(7, ⟨List.replicate 32 1, 0, 1, 3, 1, 1, true, false, false⟩)] } }
     let i : Issue := iss
     let k : Byte := 7
     let f : W64 := 0
     let l : W64 := 9
     s.admits { op := 0x0C05, plen := 17, async := true } i ∧ k.toNat ≤ 127 ∧ s.seqOf f.toNat ≤ s.seqOf l.toNat ∧
     s.seqOf l.toNat - s.seqOf f.toNat < 262143 ∧ s.slotValid k.toNat = true ∧ (s.slot k.toNat).usage = 0x03) ∧
    (let s : State := { ready with log := { ready.log with unset := false, fifo := [] } }
     let i : Issue := iss
     let c : W16 := 0x0CFF
     s.admits { op := 0x0C06, plen := 14 } i ∧ 0x0C80 ≤ c.toNat ∧ c.toNat ≤ 0x0CFF ∧ s.log.fifo = [] ∧
     s.log.waitWrites = [] ∧ s.log.unset = false ∧ s.log.lostPend = 0 ∧ s.unflushed ≤ 4094) := by
  repeat refine ⟨by first | decide +kernel | exact ⟨⟨by decide +kernel, by decide +kernel⟩, by decide +kernel⟩, ?_⟩
  first | decide +kernel | exact ⟨⟨by decide +kernel, by decide +kernel⟩, by decide +kernel⟩

theorem witness_theLogKeepsItsRecords :
    (let m : Master := .hostp
     poster m = false) ∧
    (let s : State := ready
     let m : Master := .firn
     poster m = true ∧ s.regDenied m 0xB004C true = none ∧ s.log.fifo.length < 64) ∧
    (let s : State := { ready with log := { ready.log with unset := false, fifo := List.replicate 64 (⟨0x0C80, .firn, false, 0, 0, 0, 0, none⟩) } }
     let m : Master := .firn
     poster m = true ∧ s.regDenied m 0xB004C true = none ∧ 64 ≤ s.log.fifo.length) ∧
    (let s : State := ready
     (s.log.unset = true ∨ (s.log.lostPend = 0 ∧ (4094 < s.unflushed ∨ s.log.fifo = [])))) ∧
    (let s : State := { ready with log := { ready.log with unset := false, fifo := [⟨0x0C80, .firn, false, 0, 0, 0, 0, none⟩] } }
     let p : Posting := ⟨0x0C80, .firn, false, 0, 0, 0, 0, none⟩
     let r : List Posting := []
     let j : Nat := 0
     s.log.unset = false ∧ s.log.lostPend = 0 ∧ s.unflushed ≤ 4094 ∧ s.log.fifo = p :: r ∧ exempt p.code.toNat = true ∧
     p.waiter = none ∧ s.log.waitWrites = [] ∧
     (∀ j < 32, s.populated (s.ringAddr s.logNext + j) = true ∧ s.poisoned (s.ringAddr s.logNext + j) = false) ∧ j < 32) ∧
    (let s : State := { ready with log := { ready.log with unset := false, fifo := [⟨0x0C80, .firn, false, 0, 0, 0, 0, none⟩] } }
     let p : Posting := ⟨0x0C80, .firn, false, 0, 0, 0, 0, none⟩
     let r : List Posting := []
     let a : Nat := 0x2000
     s.log.unset = false ∧ s.log.lostPend = 0 ∧ s.unflushed ≤ 4094 ∧ s.log.fifo = p :: r ∧ exempt p.code.toNat = true ∧
     p.waiter = none ∧ s.log.waitWrites = [] ∧
     (∀ j < 32, s.populated (s.ringAddr s.logNext + j) = true ∧ s.poisoned (s.ringAddr s.logNext + j) = false) ∧
     (a < s.ringAddr s.logNext ∨ s.ringAddr s.logNext + 32 ≤ a)) ∧
    (let s : State := { (ready.wrAll [(0xB1000, 0x80000101), (0xB1004, 0x00050001)]) with log := { ready.log with unset := false, fifo := [⟨0x0101, .firn, false, 0, 0, 0, 0, none⟩], rates := [(0, { fullEntry 5 with tokens := 999 })] } }
     let p : Posting := ⟨0x0101, .firn, false, 0, 0, 0, 0, none⟩
     let r : List Posting := []
     let e : Nat := 0
     s.log.unset = false ∧ s.log.lostPend = 0 ∧ s.unflushed ≤ 4094 ∧ s.log.fifo = p :: r ∧ exempt p.code.toNat = false ∧
     p.waiter = none ∧ s.log.waitWrites = [] ∧ s.rateOf p.code.toNat = some e ∧ (s.rateLim e).1 ≠ 0 ∧
     (s.rateEntry e).tokens < 1000 ∧ (s.rateEntry e).lastSeq = none) ∧
    (let s : State := ready
     let at_ : Nat := 1
     let u := s.reach at_
     (at_ % 1000000 ≠ 0 ∨ u.now < at_ ∨ at_ / 1000000 < u.log.msNext)) ∧
    (let s : State := { ready with log := { ready.log with unset := false, rates := [(0, ⟨1000, none, 0, 0, .firn, 0, 0, false⟩)] } }
     let at_ : Nat := 1000000
     let u := s.reach at_
     let e : Nat := 0
     let r : RateEntry := ⟨1000, none, 0, 0, .firn, 0, 0, false⟩
     at_ % 1000000 = 0 ∧ at_ ≤ u.now ∧ u.log.msNext ≤ at_ / 1000000 ∧ kfind u.log.rates e = some r) ∧
    (let s : State := ready
     let at_ : Nat := 1000000
     let u := s.reach at_
     at_ % 1000000 = 0 ∧ at_ ≤ u.now ∧ u.log.msNext ≤ at_ / 1000000) ∧
    (let s : State := ready
     s.flushDue = false) ∧
    (let s : State := { (ready.setBit 0xB0004 0 true) with log := { (ready.setBit 0xB0004 0 true).log with unset := false, flushAgain := true } }
     s.flushDue = true ∧ s.bit 0xB0004 0 = true ∧ s.log.flush = none) ∧
    (let s : State := ready
     s.log.flush = none) ∧
    (let s : State := { ready with log := { ready.log with unset := false, flush := some 3 } }
     let e : Nat := 3
     s.log.flush = some e ∧ s.bit 0xB0008 22 = false ∧ s.log.tail < e) ∧
    (let s : State := { (ready.wr 0x100040 7) with log := { (ready.wr 0x100040 7).log with unset := false, flush := some 3 } }
     let e : Nat := 3
     let q : Nat := 2
     let j : Nat := 0
     s.log.flush = some e ∧ s.bit 0xB0008 22 = false ∧ s.mb.outstanding = [] ∧ e - s.log.tail ≤ 4096 ∧
     (s.rd 0xB0024).toNat + 0x20000 ≤ 0x02000000 ∧ (∀ a, 0x11200000 ≤ a → a < 0x11A00000 → s.poisoned a = false) ∧
     s.log.tail ≤ q ∧ q < e ∧ j < 32) ∧
    (let s : State := ready
     (s.log.seals.find? fun q => q.hashing) = none) ∧
    (let s : State := { ready with log := { ready.log with seals := [⟨0, 7, 1, 2, true⟩] } }
     let q : SealOp := ⟨0, 7, 1, 2, true⟩
     (s.log.seals.find? fun q => q.hashing) = some q ∧ (s.log.unset = true ∨ 4094 < s.unflushed)) ∧
    (let s : State := { ready with log := { ready.log with unset := false, seals := [⟨0, 7, 1, 2, true⟩] } }
     let q : SealOp := ⟨0, 7, 1, 2, true⟩
     (s.log.seals.find? fun q => q.hashing) = some q ∧ s.log.unset = false ∧ s.unflushed ≤ 4094) := by
  repeat refine ⟨by first | decide +kernel | (and_intros <;> first | exact fun _ _ _ => rfl | decide +kernel), ?_⟩
  first | decide +kernel | (and_intros <;> first | exact fun _ _ _ => rfl | decide +kernel)

theorem witness_keyCommandsTakeEffect_1 :
    (let s : State := { ready with mem := cells 0x1010000 wrapped1, key := { ready.key with slots := [], deviceKey := List.replicate 32 0 } }
     let i : Issue := iss
     let l : Buf := buf 64
     let k : Bytes := List.replicate 32 1
     s.admits { op := 0x0E01, plen := 11 } i ∧ s.bufOk i.host false l = true ∧ l.len.toNat = 64 ∧
     s.unwrapRoot (s.rdBuf l) = some k ∧ s.slotValid 0 = false ∧ s.key.live = 0 ∧ s.key.debug = false ∧
     (s.slot 0).bad = false ∧ (s.slot 0).gen < 0xFFFFFF) := by decide +kernel

theorem witness_keyCommandsTakeEffect_2 :
    (let s : State := near
     let i : Issue := { iss with env := { icv := true } }
     let p : Byte := 0
     let n : Byte := 127
     let u : Byte := 1
     let l : Buf := buf 64
     s.admits { op := 0x0E01, plen := 11 } i ∧ s.bufOk i.host false l = true ∧ p ≠ 0xFF ∧
     s.deriveStatus p n u (s.rdBuf l).length = eOk ∧ s.validUp 9 p.toNat = true ∧ i.env.icv = true ∧ s.key.debug = false) := by decide +kernel

theorem witness_keyCommandsTakeEffect_3 :
    (let s : State := near
     let i : Issue := { iss with env := { icv := true } }
     let p : Byte := 0
     let n : Byte := 0xFF
     let u : Byte := 2
     let l : Buf := buf 1
     s.admits { op := 0x0E01, plen := 11 } i ∧ s.bufOk i.host false l = true ∧ p ≠ 0xFF ∧
     s.deriveStatus p n u (s.rdBuf l).length = eOk ∧ s.validUp 9 p.toNat = true ∧ i.env.icv = true) := by decide +kernel

theorem witness_keyCommandsTakeEffect_4 :
    (let s : State := near
     let i : Issue := { iss with env := { icv := false } }
     let p : Byte := 0
     let n : Byte := 127
     let u : Byte := 1
     let l : Buf := buf 64
     s.admits { op := 0x0E01, plen := 11 } i ∧ s.bufOk i.host false l = true ∧ p ≠ 0xFF ∧
     s.deriveStatus p n u (s.rdBuf l).length = eOk ∧ i.env.icv = false) := by decide +kernel

theorem witness_keyCommandsTakeEffect_5 :
    (let s : State := near
     let i : Issue := iss
     let n : Byte := 127
     s.admits { op := 0x0E02, plen := 1 } i ∧ (n.toNat = 0 ∨ (4 ≤ n.toNat ∧ n.toNat ≤ 127)) ∧ n.toNat ≠ 0) := by decide +kernel

theorem witness_keyCommandsTakeEffect_6 :
    (let s : State := ready
     let i : Issue := iss
     let n : Byte := 0
     s.admits { op := 0x0E02, plen := 1 } i ∧ (n.toNat = 0 ∨ (4 ≤ n.toNat ∧ n.toNat ≤ 127))) := by decide +kernel

theorem witness_keyCommandsTakeEffect_7 :
    (let s : State := ready
     let i : Issue := iss
     let n : Byte := 0
     s.admits { op := 0x0E03, plen := 1 } i ∧ n.toNat ≤ 127) := by decide +kernel

theorem witness_keyCommandsTakeEffect_8 :
    (let s : State := ready
     let i : Issue := iss
     s.admits { op := 0x0E04, plen := 0 } i) := by decide +kernel

theorem witness_keyCommandsTakeEffect_9 :
    (let s : State := ready
     let i : Issue := iss
     let n : Byte := 7
     let m : Byte := 0x81
     let k : Nat := 0
     s.admits { op := 0x0E05, plen := 2 } i ∧ s.tamperStatus n.toNat m.toNat = eOk ∧ k < 8 ∧ k ≠ n.toNat) := by decide +kernel

theorem witness_keyCommandsTakeEffect_10 :
    (let s : State := ready
     let i : Issue := iss
     let n : Byte := 0
     let m : Byte := 0
     s.admits { op := 0x0E05, plen := 2 } i ∧ s.tamperStatus n.toNat m.toNat = eOk) := by decide +kernel

theorem witness_keyCommandsTakeEffect_11 :
    (let s : State := { near with key := { near.key with refused := 3 } }
     let i : Issue := iss
     let buf : Buf := buf 88
     s.admits { op := 0x0E06, plen := 8 } i ∧ buf.len.toNat = 88 ∧ s.bufOk i.host false buf = true ∧
     (s.key.debug = true ∨ 3 ≤ s.key.refused)) := by decide +kernel

theorem witness_keyCommandsTakeEffect_12 :
    (let s : State := { ({ near with cfg := some { debugKey := signKey } } : State) with key := { near.key with challenge := List.replicate 16 0 }, mem := cells 0x1010000 resp1 }
     let i : Issue := iss
     let buf : Buf := buf 88
     s.admits { op := 0x0E06, plen := 8 } i ∧ buf.len.toNat = 88 ∧ s.bufOk i.host false buf = true ∧
     s.key.debug = false ∧ s.key.refused < 3 ∧ s.noDebugKey = false ∧ sliceB (s.rdBuf buf) 0 16 = s.key.challenge ∧
     s.responseOk (s.rdBuf buf) = true) := by decide +kernel

theorem witness_keyCommandsTakeEffect_13 :
    (let s : State := { ({ near with cfg := some { debugKey := signKey } } : State) with key := { near.key with challenge := List.replicate 16 0 } }
     let i : Issue := iss
     let buf : Buf := buf 88
     s.admits { op := 0x0E06, plen := 8 } i ∧ buf.len.toNat = 88 ∧ s.bufOk i.host false buf = true ∧
     s.key.debug = false ∧ s.key.refused < 3 ∧ s.noDebugKey = false ∧
     (sliceB (s.rdBuf buf) 0 16 ≠ s.key.challenge ∨ s.responseOk (s.rdBuf buf) = false)) := by decide +kernel

theorem witness_keyCommandsTakeEffect_14 :
    (let s : State := ready
     let i : Issue := iss
     let buf : Buf := buf 88
     s.admits { op := 0x0E06, plen := 8 } i ∧ buf.len.toNat = 88 ∧ s.bufOk i.host false buf = true) := by decide +kernel

theorem witness_theGuardActs :
    (let s : State := ready
     let n : Byte := 8
     let x : TamperPin := { live := 0 }
     (8 ≤ n.toNat ∨ s.armed n.toNat = false ∨ s.detects n.toNat x.levels = false)) ∧
    (let s : State := { near with key := { near.key with modes := 0x8100000000000000 } }
     let n : Byte := 7
     let x : TamperPin := { live := 0x80 }
     s.armed n.toNat = true ∧
     (4 ≤ n.toNat ∨ (s.tamperMode n.toNat % 4 = 1 ∧ x.levels = [true, true, true, true]) ∨ (s.tamperMode n.toNat % 4 = 2 ∧ x.levels = [false, false, false, false]))) ∧
    (let s : State := { near with key := { near.key with modes := 0x03000000 } }
     let n : Byte := 3
     s.armed n.toNat = true ∧ n.toNat < 4 ∧ s.tamperMode n.toNat % 4 = 3) ∧
    (let s : State := { near with key := { near.key with modes := 0x8100000000000000 } }
     let n : Byte := 7
     let x : TamperPin := { live := 0x80 }
     n.toNat < 8 ∧ s.detects n.toNat x.levels = true ∧ s.tamperLogOnly n.toNat = true) ∧
    (let s : State := { near with key := { near.key with modes := 0x0100000000000000 } }
     let n : Byte := 7
     let x : TamperPin := { live := 0x80 }
     let k : Nat := 127
     n.toNat < 8 ∧ s.detects n.toNat x.levels = true ∧ s.tamperLogOnly n.toNat = false ∧ k < 128) ∧
    (let s : State := { near with key := { near.key with modes := 0x0100000000000000 } }
     let n : Byte := 7
     let x : TamperPin := { live := 0x80 }
     n.toNat < 8 ∧ s.detects n.toNat x.levels = true ∧ s.tamperLogOnly n.toNat = false ∧ s.chip.running = true ∧
     s.recovery = false) ∧
    (let s : State := { ready with key := { ready.key with modes := 0x81000000 }, chip := { ready.chip with running := false } }
     let n : Byte := 3
     let x : TamperPin := { live := 8, levels := [true, true, true, true] }
     n.toNat < 8 ∧ s.detects n.toNat x.levels = true ∧ (s.chip.running = false ∨ s.recovery = true)) ∧
    (let n : Byte := 128
     128 ≤ n.toNat) ∧
    (let n : Byte := 127
     n.toNat < 128) ∧
    (let s : State := { near with key := { near.key with refused := 3 } }
     (s.key.debug = true ∨ 3 ≤ s.key.refused)) ∧
    (let s : State := { ({ near with cfg := some { debugKey := signKey } } : State) with key := { near.key with challenge := List.replicate 16 0 } }
     let d : Bytes := resp1
     let v : Bytes := []
     s.key.debug = false ∧ s.key.refused < 3 ∧ s.noDebugKey = false ∧ sliceB (d ++ v) 0 16 = s.key.challenge ∧
     s.responseOk (d ++ v) = true) ∧
    (let s : State := { ({ near with cfg := some { debugKey := signKey } } : State) with key := { near.key with challenge := List.replicate 16 0 } }
     let d : Bytes := List.replicate 24 0
     let v : Bytes := List.replicate 64 0
     s.key.debug = false ∧ s.key.refused < 3 ∧
     (s.noDebugKey = true ∨ sliceB (d ++ v) 0 16 ≠ s.key.challenge ∨ s.responseOk (d ++ v) = false)) ∧
    (let s : State := { near with key := { near.key with debug := true, scope := 4 } }
     let c : Byte := 0
     (c = 0x00 ∨ c = 0x04 ∨ c = 0x05) ∧
     (s.chip.straps.testEn = true ∨ (s.key.debug = true ∧ s.key.scope.getLsbD 2 = true))) ∧
    (let s : State := ready
     s.chip.straps.testEn = false ∧ (s.key.debug = false ∨ s.key.scope.getLsbD 2 = false)) := by
  repeat refine ⟨by decide +kernel, ?_⟩
  decide +kernel

theorem witness_powerIsSwitched :
    (let s : State := ready.setBit aDomOn 0x10 true
     let i : Issue := iss
     let d : Byte := 0x10
     let o : Byte := 1
     s.admits { op := 0x0F01, plen := 2, frozenNo := true, async := true } i ∧ domainCode d.toNat = true ∧ o.toNat ≤ 1 ∧
     s.bit aDomBusy d.toNat = false ∧ s.bit aDomOn d.toNat = (o == 1)) ∧
    (let s : State := ready.setBit aDomOn 0x14 true
     let i : Issue := iss
     let d : Byte := 0x14
     let o : Byte := 0
     s.admits { op := 0x0F01, plen := 2, frozenNo := true, async := true } i ∧ domainCode d.toNat = true ∧ o.toNat ≤ 1 ∧
     s.bit aDomBusy d.toNat = false ∧ s.bit aDomOn d.toNat ≠ (o == 1) ∧ s.domainRefused i.host d.toNat (o == 1) = true) ∧
    (let s : State := ready.setBit aDomOn 0x0C false
     let i : Issue := iss
     let d : Byte := 0x0C
     let o : Byte := 1
     s.admits { op := 0x0F01, plen := 2, frozenNo := true, async := true } i ∧ domainCode d.toNat = true ∧ o.toNat ≤ 1 ∧
     s.bit aDomBusy d.toNat = false ∧ s.bit aDomOn d.toNat ≠ (o == 1) ∧ s.domainRefused i.host d.toNat (o == 1) = false ∧
     o = 1) ∧
    (let s : State := net.setBit aDomOn 0x10 true
     let i : Issue := iss
     let d : Byte := 0x10
     let o : Byte := 0
     s.admits { op := 0x0F01, plen := 2, frozenNo := true, async := true } i ∧ domainCode d.toNat = true ∧ o.toNat ≤ 1 ∧
     s.bit aDomBusy d.toNat = false ∧ s.bit aDomOn d.toNat ≠ (o == 1) ∧ s.domainRefused i.host d.toNat (o == 1) = false ∧
     o ≠ 1 ∧ 0x10 ≤ d.toNat ∧ d.toNat ≤ 0x13) ∧
    (let s : State := ready
     let i : Issue := iss
     s.admits { op := 0x0F02, plen := 0 } i) ∧
    (let s : State := ready
     let i : Issue := iss
     let k : Byte := 0
     s.admits { op := 0x0F03, plen := 1 } i ∧ k.toNat ≤ 15) ∧
    (let s : State := ready
     let i : Issue := iss
     s.admits { op := 0x0F04, plen := 0 } i) ∧
    (let s : State := ready
     let d : Byte := 0
     (s.pwr.switching.find? fun x => x.code == d.toNat) = none) ∧
    (let s : State := { ready with pwr := { ready.pwr with switching := [⟨12, true, 0⟩] } }
     let d : Byte := 0x0C
     let x : DomSwitch := ⟨12, true, 0⟩
     (s.pwr.switching.find? fun x => x.code == d.toNat) = some x ∧ domainCode d.toNat = true) := by
  repeat refine ⟨by decide +kernel, ?_⟩
  decide +kernel

theorem witness_clocksAndHeatAreHandled :
    (let k : Byte := 5
     4 < k.toNat) ∧
    (let k : Byte := 4
     1 < k.toNat ∧ k.toNat ≤ 4) ∧
    (let s : State := ready
     let k : Byte := 1
     k.toNat ≤ 1 ∧ s.pllGood (1 - k.toNat) = true) ∧
    (let s : State := (ready.setBit 0xE0010 8 true).wr 0xA0064 0xFFFFFFFF
     let k : Byte := 1
     k.toNat ≤ 1 ∧ s.pllGood (1 - k.toNat) = false ∧ s.bit 0xE0010 (16 + k.toNat) = false) ∧
    (let k : Byte := 0
     k.toNat ≤ 1) ∧
    (let x : Readings := { temps := [-5] }
     let k : Nat := 0
     let v : W32 := -5
     k < 16 ∧ x.temps[k]? = some v) ∧
    (let x : Readings := { temps := [] }
     let k : Nat := 15
     k < 16 ∧ x.temps[k]? = none) ∧
    (let s : State := ready.wr 0xA0064 0xFFFFFFFF
     let x : Readings := { temps := [32001] }
     let t : State := match exec (.thermalSample x) s with | .next z => z | _ => State.reset
     32000 < t.hottest) ∧
    (let s : State := ready
     let x : Readings := { temps := [] }
     let t : State := match exec (.thermalSample x) s with | .next z => z | _ => State.reset
     t.hottest ≤ 30720) ∧
    (let h : Nat := 0
     let c : Nat := 1
     neighbours (h + 2) (c + 2) = true) ∧
    (let s : State := ready
     let x : Readings := { temps := [32000] }
     let t : State := match exec (.thermalSample x) s with | .next z => z | _ => State.reset
     30720 < t.hottest ∧ t.hottest ≤ 32000) ∧
    (let s : State := ready
     let h : Byte := 0
     let c : Byte := 1
     let d : Nat := 5120
     (s.skewRun h.toNat c.toNat < 100 ∨ (d : Int) ≠ s.therm h.toNat - s.therm c.toNat)) ∧
    (let s : State := { (ready).wr (0xE0080 + 4 * 0) 5121 with pwr := { ready.pwr with skew := [(1, 100)] } }
     let h : Byte := 0
     let c : Byte := 1
     let d : Nat := 5121
     let k : Nat := 0
     h.toNat < 9 ∧ 100 ≤ s.skewRun h.toNat c.toNat ∧ (d : Int) = s.therm h.toNat - s.therm c.toNat ∧
     s.tileRole (h.toNat + 2) = some k ∧ s.hasRsv = true ∧ s.rotPhase = 0 ∧ s.pwr.thermalAt = none ∧ s.frozen = false) ∧
    (let s : State := { (ready.setBit 0xA0008 0 true).wr (0xE0080 + 4 * 0) 5121 with pwr := { ready.pwr with skew := [(1, 100)] } }
     let h : Byte := 0
     let c : Byte := 1
     let d : Nat := 5121
     let k : Nat := 0
     h.toNat < 9 ∧ 100 ≤ s.skewRun h.toNat c.toNat ∧ (d : Int) = s.therm h.toNat - s.therm c.toNat ∧
     s.tileRole (h.toNat + 2) = some k ∧ s.hasRsv = true ∧ s.rotPhase = 0 ∧ s.pwr.thermalAt = none ∧ s.frozen = true) ∧
    (let s : State := { (ready).wr (0xE0080 + 4 * 0) 5121 with pwr := { ready.pwr with skew := [(1, 100)], thermalAt := some 0 } }
     let h : Byte := 0
     let c : Byte := 1
     let d : Nat := 5121
     let k : Nat := 0
     let n : Nat := 0
     h.toNat < 9 ∧ 100 ≤ s.skewRun h.toNat c.toNat ∧ (d : Int) = s.therm h.toNat - s.therm c.toNat ∧
     s.tileRole (h.toNat + 2) = some k ∧ s.pwr.thermalAt = some n ∧ s.now < n + 600000000000) ∧
    (let s : State := { (ready).wr (0xE0080 + 4 * 8) 5121 with pwr := { ready.pwr with skew := [(135, 100)] } }
     let h : Byte := 8
     let c : Byte := 7
     let d : Nat := 5121
     h.toNat < 9 ∧ 100 ≤ s.skewRun h.toNat c.toNat ∧ (d : Int) = s.therm h.toNat - s.therm c.toNat ∧
     s.tileRole (h.toNat + 2) = none) ∧
    (let s : State := ready.setBit 0xE0030 0 false
     s.bit 0xE0030 0 = false) ∧
    (let s : State := (ready.setBit 0xE0030 0 true).setFld 0xE0034 9 0 700
     let x : AvsStep := ⟨700, 700, false⟩
     s.bit 0xE0030 0 = true ∧ x.ack = false) ∧
    (let s : State := (ready.setBit 0xE0030 0 true).setFld 0xE0034 9 0 845
     let x : AvsStep := ⟨850, 850, true⟩
     let cur := s.fld 0xE0034 9 0
     s.bit 0xE0030 0 = true ∧ x.ack = true ∧ max cur x.meas - min cur x.meas ≤ 25 ∧ 650 ≤ cur ∧ cur ≤ 850 ∧
     cur + 5 ≤ x.want ∧ cur ≤ 845) ∧
    (let s : State := (ready.setBit 0xE0030 0 true).setFld 0xE0034 9 0 655
     let x : AvsStep := ⟨650, 655, true⟩
     let cur := s.fld 0xE0034 9 0
     s.bit 0xE0030 0 = true ∧ x.ack = true ∧ max cur x.meas - min cur x.meas ≤ 25 ∧ 650 ≤ cur ∧ cur ≤ 850 ∧
     x.want + 5 ≤ cur ∧ 655 ≤ cur) ∧
    (let s : State := (ready.setBit 0xE0030 0 true).setFld 0xE0034 9 0 850
     let x : AvsStep := ⟨900, 825, true⟩
     let cur := s.fld 0xE0034 9 0
     s.bit 0xE0030 0 = true ∧ x.ack = true ∧ max cur x.meas - min cur x.meas ≤ 25 ∧ 650 ≤ cur ∧ cur ≤ 850) ∧
    (let s : State := (ready.setBit 0xE0030 0 true).setFld 0xE0034 9 0 850
     s.bit 0xE0030 0 = true) := by
  repeat refine ⟨by decide +kernel, ?_⟩
  decide +kernel

theorem witness_memoriesAreRepaired :
    (let s : State := ready
     let a : Nat := 0x1FFFFFF
     a < 0x02000000 ∧ (s.pwr.ceWords.any fun v => sramRow v == sramRow (a / 8 * 8)) = false) ∧
    (let s : State := { ready with pwr := { ready.pwr with ceWords := [0x1FFFF00, 8] } }
     let a : Nat := 0x1FFFFFF
     let b := a / 0x80000
     a < 0x02000000 ∧ (s.pwr.ceWords.any fun v => sramRow v == sramRow (a / 8 * 8)) = true ∧
     s.fld (0xE0300 + 4 * (b / 4)) (8 * (b % 4) + 4) (8 * (b % 4)) < 16) ∧
    (let a : Nat := 0x2000000
     0x02000000 ≤ a) ∧
    (let s : State := ready.wr 0xA0060 0xFFFFFFFF
     let a : Nat := 0x1FFFFFF
     a < 0x02000000 ∧ s.mb.waiting = [] ∧ s.mtr.cal = none ∧ (∀ p < 4, s.portFrames p = [])) ∧
    (let a : Nat := 0x2000
     0x2000 ≤ a) ∧
    (let s : State := ready
     let a : Nat := 0x1FFF
     a < 0x2000 ∧ s.pwr.remap.length < 255) ∧
    (let s : State := { (ready.wr 0xA0060 0xFFFFFFFF) with pwr := { (ready.wr 0xA0060 0xFFFFFFFF).pwr with remap := List.range 255 } }
     let a : Nat := 0x1FFF
     a < 0x2000 ∧ 255 ≤ s.pwr.remap.length) := by
  repeat refine ⟨by decide +kernel, ?_⟩
  decide +kernel

theorem witness_rolesRotate :
    (let s : State := ready.setBit aRotCtrl 0 false
     let at_ : Nat := 0
     let u := s.reach at_
     (u.rotating = false ∨ at_ < (u.rd64 aRotNext).toNat)) ∧
    (let s : State := (ready.setBit aRotCtrl 0 true).setBit 0xA0008 0 true
     let at_ : Nat := 0
     let f : LaneList := {}
     let u := s.reach at_
     let v := (u.setRotNext at_).testSpares f.lanes
     u.rotating = true ∧ (u.rd64 aRotNext).toNat ≤ at_ ∧ v.frozen = true) ∧
    (let s : State := ((ready.setBit aRotCtrl 0 true).wr aRotState (w32 (6 + 0 * 256 + 2 * 4096 + 10 * 65536)))
     let at_ : Nat := 0
     let f : LaneList := {}
     let u := s.reach at_
     let v := (u.setRotNext at_).testSpares f.lanes
     u.rotating = true ∧ (u.rd64 aRotNext).toNat ≤ at_ ∧ v.frozen = false ∧ v.rotPhase ≠ 0) ∧
    (let s : State := (ready.setBit aRotCtrl 0 true)
     let at_ : Nat := 0
     let f : LaneList := {}
     let u := s.reach at_
     let v := (u.setRotNext at_).testSpares f.lanes
     u.rotating = true ∧ (u.rd64 aRotNext).toNat ≤ at_ ∧ v.frozen = false ∧ v.rotPhase = 0 ∧ s.boot.activating = none ∧
     s.pwr.counted = [] ∧ s.pwr.pos < 8) ∧
    (let m : Master := .hostp
     m ≠ .firn) ∧
    (let s : State := ready.setRsv 15
     s.hasRsv = false) ∧
    (let s : State := ready
     let f : LaneList := {}
     let v := s.testSpares f.lanes
     s.hasRsv = true ∧ v.frozen = false ∧ v.rotPhase = 0 ∧ s.boot.activating = none ∧ s.pwr.counted = [] ∧ s.pwr.pos < 8) ∧
    (let s : State := (ready.setBit 0xA0008 0 true)
     let f : LaneList := {}
     let v := s.testSpares f.lanes
     s.hasRsv = true ∧ v.frozen = true) ∧
    (let s : State := ((ready.setBit aRotCtrl 0 true).wr aRotState (w32 (6 + 0 * 256 + 2 * 4096 + 10 * 65536)))
     let f : LaneList := {}
     let v := s.testSpares f.lanes
     s.hasRsv = true ∧ v.frozen = false ∧ v.rotPhase ≠ 0) ∧
    (let s : State := (ready.wr aRotState (w32 (1 + 0 * 256 + 2 * 4096 + 10 * 65536)))
     s.rotPhase = 1 ∧ 2 ≤ s.rotDst ∧ s.rotDst ≤ 10) ∧
    (let s : State := (ready.wr aRotState (w32 (6 + 0 * 256 + 2 * 4096 + 10 * 65536)))
     s.rotPhase = 6 ∧ s.boot.activating = none ∧ 2 ≤ s.rotSrc ∧ s.rotSrc ≤ 10) ∧
    (let s : State := ready
     s.rotPhase ≠ 1 ∧ s.rotPhase ≠ 6) ∧
    (let s : State := ready
     let d : Nat := 0
     let w : Bool := true
     (s.rotPhase ≠ 4 ∨ w = false ∨ 256 < d ∨ s.frozen = true ∨ s.cutWindow s.rotRole = false)) ∧
    (let s : State := (ready.wr aRotState (w32 (4 + 0 * 256 + 2 * 4096 + 10 * 65536)))
     let d : Nat := 256
     let j : Nat := 7
     s.rotPhase = 4 ∧ d ≤ 256 ∧ s.frozen = false ∧ s.cutWindow s.rotRole = true ∧ s.rotRole < 8 ∧ j < 8 ∧ j ≠ s.rotRole) ∧
    (let s : State := (ready.wr aRotState (w32 (4 + 7 * 256 + 9 * 4096 + 10 * 65536)))
     let d : Nat := 256
     s.rotPhase = 4 ∧ d ≤ 256 ∧ s.frozen = false ∧ s.cutWindow s.rotRole = true ∧ s.rotRole < 8 ∧
     s.pwr.rotThermal = false) ∧
    (let s : State := { (ready.wr aRotState (w32 (4 + 7 * 256 + 9 * 4096 + 10 * 65536))) with pwr := { ready.pwr with rotThermal := true } }
     let d : Nat := 256
     s.rotPhase = 4 ∧ d ≤ 256 ∧ s.frozen = false ∧ s.cutWindow s.rotRole = true ∧ s.rotRole < 8 ∧
     s.pwr.rotThermal = true ∧ s.boot.activating = none) ∧
    (let s : State := ready
     ¬ (1 ≤ s.rotPhase ∧ s.rotPhase ≤ 4)) ∧
    (let s : State := (ready.wr aRotState (w32 (4 + 0 * 256 + 2 * 4096 + 10 * 65536)))
     let j : Nat := 7
     1 ≤ s.rotPhase ∧ s.rotPhase ≤ 4 ∧ s.boot.activating = none ∧ j < 8) ∧
    (let s : State := (ready.wr aRotState (w32 (4 + 7 * 256 + 9 * 4096 + 10 * 65536)))
     1 ≤ s.rotPhase ∧ s.rotPhase ≤ 4 ∧ s.boot.activating = none ∧ s.pwr.rotThermal = false) ∧
    (let s : State := (ready.wr aRotState (w32 (1 + 0 * 256 + 2 * 4096 + 10 * 65536)))
     1 ≤ s.rotPhase ∧ s.rotPhase ≤ 4 ∧ s.boot.activating = none) := by
  repeat refine ⟨by decide +kernel, ?_⟩
  decide +kernel

theorem witness_sysSolvDriftLoopCommandsComplete :
    (let s : State := ready
     let i : Issue := iss
     s.admits { op := 0x0100, plen := 0 } i) ∧
    (let s : State := ready
     let i : Issue := iss
     s.admits { op := 0x0101, plen := 0 } i) ∧
    (let s : State := ready
     let i : Issue := iss
     let b : W32 := 0x01000000
     s.admits { op := 0x0102, plen := 4 } i ∧ b.toNat % 0x100000 = 0 ∧ b.toNat ≤ 0x01000000 ∧
     s.windowHolds b.toNat = true) ∧
    (let s : State := ready
     let i : Issue := iss
     let t : Byte := 0
     let m : Byte := 0
     let r : Byte := 0
     s.admits { op := 0x0103, plen := 3 } i ∧ s.targetShape t.toNat ≠ none ∧ m.toNat ≤ 15 ∧ r.toNat ≤ 15) ∧
    (let s : State := State.reset
     let i : Issue := iss
     let tg : Byte := 0
     let m : Byte := 11
     let r : Byte := 0
     let rt : Byte := 0x03
     let a : W32 := 0x1000000
     let b : W32 := 0x1FFFFFF
     s.admits { op := 0x0104, plen := 12 } i ∧ s.targetShape tg.toNat ≠ none ∧ (m.toNat = 11 ∨ m.toNat = 12) ∧
     r.toNat ≤ 15 ∧ s.conf.hostLock = false ∧ s.entryOk ⟨tg.toNat, m.toNat, r.toNat, a.toNat, b.toNat, rt⟩ = true ∧
     (s.accEntry tg.toNat m.toNat r.toNat).rights.getLsbD 7 = false) ∧
    (let s : State := ready
     let i : Issue := iss
     let src : Byte := 0
     let vec : Byte := 0
     s.admits { op := 0x0105, plen := 2 } i ∧ (src.toNat = 0 ∨ (9 ≤ src.toNat ∧ src.toNat ≤ 15)) ∧ vec.toNat ≤ 15) ∧
    (let s : State := ready
     let i : Issue := iss
     s.admits { op := 0x0106, plen := 0 } i) ∧
    (let s : State := ready
     let i : Issue := iss
     let n : W32 := 3600
     let now : Byte := 1
     s.admits { op := 0x0107, plen := 5, frozenNo := true } i ∧ (n.toNat = 0 ∨ (3600 ≤ n.toNat ∧ n.toNat ≤ 2592000)) ∧
     now.toNat ≤ 1 ∧ s.rotPhase = 0 ∧ s.hasRsv = true) ∧
    (let s : State := { ready with cfgBytes := [(0, [7])] }
     let i : Issue := iss
     let r : W16 := 0
     let buf : Buf := buf 64
     let b : Bytes := [7]
     s.admits { op := 0x0108, plen := 10 } i ∧ kfind s.cfgBytes r.toNat = some b ∧ s.bufOk i.host true buf = true ∧
     b.length ≤ buf.len.toNat) ∧
    (let s : State := ready
     let i : Issue := { iss with env := { record := some { personality := 0 }, recFormat := BitVec.ofNat 16 (ready.fld 0xC0020 31 16) } }
     let r : W16 := 0
     let buf : Buf := buf 64
     let c : CfgRecord := { personality := 0 }
     s.admits { op := 0x0109, plen := 10 } i ∧ s.bufOk i.host false buf = true ∧
     i.env.recFormat.toNat = s.fld 0xC0020 31 16 ∧ i.env.record = some c ∧ s.recordOk c = true ∧
     (((kdel s.cfgBytes r.toNat).map fun (p : Nat × Bytes) => p.2.length).sum + buf.len.toNat ≤ storeRoom)) ∧
    (let s : State := ready
     let i : Issue := iss
     s.admits { op := 0x010A, plen := 1 } i ∧ s.logWrites = [] ∧ s.mb.outstanding = []) ∧
    (let s : State := problem
     let m : Master := .hostp
     let desc : Nat := 0x1010000
     let n : Nat := 20
     let h := s.rdMem desc 16
     let i : Issue := iss
     let buf : Buf := ⟨0x10000, 20⟩
     let nf : Byte := 0
     s.sramOk m false desc 16 = true ∧ (∀ j < n, s.poisoned (desc + j) = false) ∧
     n = 16 + 4 * leAt (s.rdMem desc 16) 0 4 ∧ s.sramOk m false desc n = true ∧ 1 ≤ leAt h 0 4 ∧ leAt h 0 4 ≤ 1024 ∧
     leAt h 8 1 ≤ 3 ∧ leAt h 9 1 ≤ 1 ∧ leAt h 10 6 = 0 ∧ (leAt h 8 1 = 3 → m = .seq) ∧
     w32 (leAt h 4 4) &&& ~~~(s.rd 0x20004) = 0 ∧ s.solv.batches.length < 64 ∧ s.admits { op := 0x0201, plen := 9 } i ∧
     m = hostMaster i.host ∧ nf.toNat ≤ 1 ∧ desc = s.winAddr buf.off ∧ n = buf.len.toNat ∧
     s.bufOk i.host false buf = true) ∧
    (let s : State := queued
     let i : Issue := iss
     let n : W32 := 1
     let b : Batch := batch1
     s.admits { op := 0x0202, plen := 4 } i ∧ s.batch n.toNat = some b) ∧
    (let s : State := { problem with solv := { problem.solv with finished := [{ batch1 with waiting := [], done := 1 }] } }
     let i : Issue := iss
     let n : W32 := 1
     let b : Batch := { batch1 with waiting := [], done := 1 }
     s.admits { op := 0x0203, plen := 8, async := true } i ∧ s.batch n.toNat = some b ∧ s.batchLive b.id = false) ∧
    (let s : State := queued
     let i : Issue := iss
     let n : W32 := 1
     let b : Batch := batch1
     s.admits { op := 0x0204, plen := 4 } i ∧ s.batch n.toNat = some b ∧ s.batchLive b.id = true) ∧
    (let s : State := queued
     let i : Issue := iss
     s.admits { op := 0x0205, plen := 0 } i) ∧
    (let s : State := ready
     let i : Issue := iss
     let lane : Byte := 0
     s.admits { op := 0x0206, plen := 1, async := true } i ∧ lane.toNat ≤ 33 ∧ s.laneRetired lane.toNat = false ∧
     s.lanePowered lane.toNat = true ∧ s.laneInService lane.toNat = false) ∧
    (let s : State := queued
     let i : Issue := iss
     let p : Dbl := 0x3D10000000000000
     let r : Dbl := 0x3D10000000000000
     s.admits { op := 0x0207, plen := 16 } i ∧ paramOk p = true ∧ paramOk r = true) ∧
    (let s : State := { head with mem := cells 0x1010000 net1, drift := { head.drift with sched := some (4, 1, 0) } }
     let i : Issue := iss
     let buf : Buf := buf 136
     s.admits { op := 0x0301, plen := 8, pers := some 1, frozenNo := true } i ∧ s.bufOk i.host false buf = true ∧
     leAt (s.rdBuf buf) 0 2 = 1 ∧ netShape (s.rdBuf buf) = true ∧ netTimes (s.rdBuf buf) = true ∧
     (∀ q, s.drift.sched = some q → netFitsSched (s.rdBuf buf) q = true) ∧
     (s.paired = true → netVolume (s.rdBuf buf) s.rounds ≤ 0x800000)) ∧
    (let s : State := ready
     let i : Issue := iss
     let p : W32 := 4
     let r : Byte := 1
     let st : W64 := 0
     s.admits { op := 0x0302, plen := 13, frozenNo := true } i ∧ 1 ≤ p.toNat ∧ p.toNat ≤ 3600 ∧ 1 ≤ r.toNat ∧
     r.toNat ≤ 16 ∧
     (s.isHead = true → s.drift.hd.started = none ∧ ∀ b, s.netHeld = some b → netFitsSched b (p.toNat, r.toNat, st.toNat) = true ∧ (s.paired = true → netVolume b r.toNat ≤ 0x800000))) ∧
    (let s : State := { stn with mem := cells 0x1010000 tmpl1 ++ cells 0x1030000 rec1 }
     let i : Issue := iss
     let buf : Buf := buf 48
     s.admits { op := 0x0303, plen := 8, pers := some 0, frozenNo := true } i ∧ s.bufOk i.host false buf = true ∧
     leAt (s.rdBuf buf) 0 2 = 1 ∧ s.tmplOk (s.rdBuf buf) = true) ∧
    (let s : State := ready
     let i : Issue := iss
     let p : Byte := 1
     let k : W16 := 0
     s.admits { op := 0x0304, plen := 3, pers := some 0, frozenNo := true } i ∧ 1 ≤ p.toNat ∧ p.toNat ≤ 64 ∧
     k.toNat ≤ 1023 ∧ s.bidQueued = false) ∧
    (let s : State := ready
     let i : Issue := iss
     let buf : Buf := buf 16
     let h : Byte := 1
     s.admits { op := 0x0305, plen := 9, pers := some 0 } i ∧ 8 ≤ buf.len.toNat ∧ buf.len.toNat ≤ 512 ∧
     buf.len.toNat % 8 = 0 ∧ 1 ≤ h.toNat ∧ s.bufOk i.host false buf = true) ∧
    (let s : State := { headNet with drift := { headNet.drift with hd := { headNet.drift.hd with started := none } } }
     let i : Issue := iss
     let b : Bytes := net1
     let q : Nat × Nat × Nat := (4, 1, 0)
     s.admits { op := 0x0306, plen := 0, pers := some 1, frozenNo := true } i ∧ s.netHeld = some b ∧
     s.drift.sched = some q ∧ 1 ≤ q.1 ∧ s.standby = false ∧ s.timeState = 2 ∧ s.drift.hd.started = none ∧
     netFitsSched b q = true) ∧
    (let s : State := inRound
     let i : Issue := iss
     s.admits { op := 0x0307, plen := 0, pers := some 1 } i) ∧
    (let s : State := inRound.setHd fun h => { h with prices := [(0, 1, 0, [9, 9])] }
     let i : Issue := iss
     let period : W32 := 0
     let buf : Buf := buf 64
     let round : Byte := 1
     let l := s.drift.hd.prices.filter fun q => keptHead s.nowPeriod q.1 && q.1 % 2 ^ 32 == period.toNat && q.2.1 == round.toNat
     let b := (sortBy (fun q => q.2.2.1) l).flatMap fun q => q.2.2.2
     s.bufOk i.host true buf = true ∧ s.admits { op := 0x0308, plen := 13, pers := some 1 } i ∧ l ≠ [] ∧
     b.length ≤ buf.len.toNat) ∧
    (let s : State := inRound.setHd fun h => { h with plans := [(0, 2, 1, [0])] }
     let i : Issue := iss
     let period : W32 := 0
     let buf : Buf := buf 64
     let l := s.drift.hd.plans.filter fun q => keptHead s.nowPeriod q.1 && q.1 % 2 ^ 32 == period.toNat
     let b := (sortBy (fun q => q.2.1) l).flatMap fun q => planEntry q.2.1 q.2.2.1 q.2.2.2
     s.bufOk i.host true buf = true ∧ s.admits { op := 0x0309, plen := 12 } i ∧ s.isHead = true ∧ l ≠ [] ∧
     b.length ≤ buf.len.toNat) ∧
    (let s : State := stn.setSt fun t => { t with bids := [(0, 1, [0, 0, 0, 0, 1, 1])] }
     let i : Issue := iss
     let period : W32 := 0
     let buf : Buf := buf 64
     let round : Byte := 1
     let q : Nat × Nat × Bytes := (0, 1, [0, 0, 0, 0, 1, 1])
     s.bufOk i.host true buf = true ∧ s.admits { op := 0x030A, plen := 13, pers := some 0 } i ∧
     (s.drift.st.bids.find? fun q => keptBid s.nowPeriod q.1 && q.1 == period.toNat && q.2.1 == round.toNat) = some q ∧
     q.2.2.length ≤ buf.len.toNat) ∧
    (let s : State := { loopMan with mem := cells 0x1010000 bank1 }
     let i : Issue := iss
     let loop : W16 := 0
     let k := loop.toNat
     let bank : Byte := 1
     let buf : Buf := buf 96
     loop.toNat ≤ 255 ∧ s.admits { op := 0x0401, plen := 11 } i ∧ s.bufOk i.host false buf = true ∧
     s.descStatus k bank.toNat (s.rdBuf buf) = eOk) ∧
    (let s : State := loopMan
     let i : Issue := iss
     let loop : W16 := 0
     let k := loop.toNat
     let bank : Byte := 0
     let buf : Buf := buf 96
     loop.toNat ≤ 255 ∧ s.admits { op := 0x0402, plen := 11 } i ∧ bank.toNat ≤ 3 ∧ s.bufOk i.host true buf = true ∧
     (s.partBytes k bank.toNat).length ≤ buf.len.toNat) ∧
    (let s : State := loopMan
     let i : Issue := iss
     let loop : W16 := 0
     let k := loop.toNat
     loop.toNat ≤ 255 ∧ s.admits { op := 0x0403, plen := 2, frozenNo := true, async := true } i ∧ s.swapRefusal k = 0) ∧
    (let s : State := loopMan
     let i : Issue := iss
     let loop : W16 := 0
     let k := loop.toNat
     let mode : Byte := 0x82
     let man : Dbl := 0
     loop.toNat ≤ 255 ∧ s.admits { op := 0x0404, plen := 11, frozenNo := true } i ∧ mode.toNat % 8 ≤ 2 ∧
     mode &&& 0x78 = 0 ∧ dFinite man = true ∧
     (mode.toNat % 8 = 0 ∨ s.loopLive k = true ∨ (s.loopUnset k = false ∧ s.loadFails k = none))) ∧
    (let s : State := loopMan
     let i : Issue := iss
     let loop : W16 := 0
     let k := loop.toNat
     let nc : Byte := 2
     let amp : Dbl := 0x3FF0000000000000
     let hyst : Dbl := 0
     loop.toNat ≤ 255 ∧ s.admits { op := 0x0405, plen := 19, frozenNo := true } i ∧ 2 ≤ nc.toNat ∧ nc.toNat ≤ 16 ∧
     dFinite amp = true ∧ dLt dZero amp = true ∧ dFinite hyst = true ∧ dLe dZero hyst = true ∧
     (∀ v ∈ [dAdd (s.lrun k).uPrev amp, dSub (s.lrun k).uPrev amp], dLe (dblAt (s.lbank k (s.actBank k)) 72) v = true ∧ dLe v (dblAt (s.lbank k (s.actBank k)) 80) = true) ∧
     (s.lmode k = 1 ∨ s.lmode k = 2) ∧ s.loop.tune = none ∧ (∀ j < 256, s.lmode j ≠ 3)) ∧
    (let s : State := loopMan
     let i : Issue := iss
     let loop : W16 := 0
     let k := loop.toNat
     loop.toNat ≤ 255 ∧ s.admits { op := 0x0406, plen := 2 } i ∧ s.fld 0x30030 7 0 = k) ∧
    (let s : State := loopMan
     let i : Issue := iss
     let loop : W16 := 0
     loop.toNat ≤ 255 ∧ s.admits { op := 0x0407, plen := 2 } i) ∧
    (let s : State := ready
     let op : W16 := 0
     s.recovery = false ∧ (s.persMismatch = false ∨ mismatchClass op.toNat = true)) :=
  ⟨witness_systemQueriesAnswer.1, witness_systemQueriesAnswer.2.1, witness_systemSettingsTakeEffect.1,
    witness_systemQueriesAnswer.2.2.1, witness_systemSettingsTakeEffect.2.1, witness_systemSettingsTakeEffect.2.2.1,
    witness_systemQueriesAnswer.2.2.2.1, witness_systemSettingsTakeEffect.2.2.2.1, witness_systemQueriesAnswer.2.2.2.2,
    witness_systemSettingsTakeEffect.2.2.2.2.1, witness_restartsAreAnnounced.1, witness_batchesAreQueued.2.1,
    witness_solverCommandsAnswer.2.2.2.1, witness_solverCommandsAnswer.2.2.2.2.1, witness_cancelEmptiesABatch.2.2,
    witness_solverCommandsAnswer.1, witness_problemsRunOnLanes.2.2.2.2.2.1, witness_solverCommandsAnswer.2.1,
    witness_driftSettingsAreStored.1, witness_driftSettingsAreStored.2.1, witness_driftSettingsAreStored.2.2.1,
    witness_driftSettingsAreStored.2.2.2.1, witness_driftSettingsAreStored.2.2.2.2, witness_driftRoundsStartAndStop.1,
    witness_driftRoundsStartAndStop.2, witness_driftReadsAnswer.1, witness_driftReadsAnswer.2.1,
    witness_driftReadsAnswer.2.2.2, witness_loopCommandsTakeEffect_1, witness_loopCommandsTakeEffect_2,
    witness_loopCommandsTakeEffect_3, witness_loopCommandsTakeEffect_4, witness_loopCommandsTakeEffect_6,
    witness_loopCommandsTakeEffect_7, witness_loopCommandsTakeEffect_8, witness_systemSettingsTakeEffect.2.2.2.2.2.1⟩

theorem witness_cycMtrTimeCalCommandsComplete :
    (let s : State := { ready with mem := cells 0x1010000 cont1 }
     let i : Issue := { iss with env := { prog := some { syms := [sym9] } } }
     let buf : Buf := buf 768
     let b := s.rdBuf buf
     let p := progOf s.decKeys b (i.env.prog.getD { syms := [] })
     s.admits { op := 0x0501, plen := 8 } i ∧ s.bufOk i.host false buf = true ∧ s.cycState ≠ 3 ∧
     progWhole s.decKeys b = true ∧ i.env.prog.isSome = true ∧ leAt (progSection s.decKeys b 0x50) 8 2 ≤ s.runtimeVer ∧
     cLength b ≤ 0xC0000 ∧ progLayout s.decKeys b p (s.port.groups.map fun g => g.group) s.loopPwms = true) ∧
    (let s : State := cycOff
     let i : Issue := iss
     let p : Program := prog1
     s.admits { op := 0x0502, plen := 1, frozenNo := true } i ∧ s.cyc.act = some p ∧ s.cyc.pend = none ∧
     (s.cycState = 1 ∨ s.cycState = 5) ∧ s.warmRefused p = none) ∧
    (let s : State := cycOn
     let i : Issue := iss
     s.admits { op := 0x0503, plen := 0, async := true } i ∧ s.cycState = 2) ∧
    (let s : State := { cycOn with cyc := { cycOn.cyc with pend := some { signed1 with base := 5, ver := 6 } } }
     let i : Issue := iss
     let old : Program := prog1
     let new : Program := { signed1 with base := 5, ver := 6 }
     s.admits { op := 0x0504, plen := 0, frozenNo := true, async := true } i ∧ s.cyc.act = some old ∧
     s.cyc.pend = some new ∧ s.cycState = 2 ∧ changeRefused old new = none ∧ s.progVerified new = true) ∧
    (let s : State := cycOn
     let i : Issue := iss
     let sym : W32 := 9
     let ty : Byte := 6
     let v : W64 := 5
     let x : Sym := sym9
     let k : Nat := 8
     s.admits { op := 0x0505, plen := 13 } i ∧ s.activeSym sym = some x ∧ x.ty = ty.toNat ∧ 1 ≤ ty.toNat ∧
     ty.toNat ≤ 12 ∧ forceOk ty.toNat v = true ∧ s.cyc.forces.length < 1024 ∧ k ≠ sym.toNat) ∧
    (let s : State := { cycOn with cyc := { cycOn.cyc with forces := [(9, (6, 5))] } }
     let i : Issue := iss
     let sym : W32 := 9
     s.admits { op := 0x0506, plen := 4 } i ∧ sym ≠ 0xFFFFFFFF) ∧
    (let s : State := { cycOn with cyc := { cycOn.cyc with forces := [(9, (6, 5))] } }
     let i : Issue := iss
     let buf : Buf := buf 16
     let b := s.cyc.forces.flatMap fun f => leBytes 4 f.1 ++ [BitVec.ofNat 8 f.2.1, 0] ++ leBytes 2 (((s.activeSym (w32 f.1)).map fun x => x.mask).getD 0) ++ le8 f.2.2
     s.admits { op := 0x0507, plen := 8 } i ∧ s.bufOk i.host true buf = true ∧ b.length ≤ buf.len.toNat) ∧
    (let s : State := cycOn
     let i : Issue := iss
     let t : Byte := 0
     let p : Program := prog1
     let d : TaskDef := task0
     s.admits { op := 0x0508, plen := 1 } i ∧ s.cyc.act = some p ∧ p.task? t.toNat = some d) ∧
    (let s : State := cycOn
     let i : Issue := iss
     let sym : W32 := 9
     let buf : Buf := buf 4
     let x : Sym := sym9
     s.admits { op := 0x0509, plen := 12 } i ∧ s.activeSym sym = some x ∧ s.bufOk i.host true buf = true ∧
     x.len ≤ buf.len.toNat) ∧
    (let s : State := cycOn
     let i : Issue := iss
     let sym : W32 := 9
     let buf : Buf := buf 4
     let x : Sym := sym9
     s.admits { op := 0x050A, plen := 12, async := true } i ∧ s.activeSym sym = some x ∧
     s.bufOk i.host false buf = true ∧ buf.len.toNat = x.len ∧ s.cycState = 2) ∧
    (let s : State := ready
     let i : Issue := iss
     let c : Byte := 0
     let g : Dbl := 0x3FF0000000000000
     let o : Dbl := 0
     let d : W16 := 0
     let k : Nat := 15
     s.admits { op := 0x0601, plen := 19 } i ∧ s.metroLock = false ∧ c.toNat ≤ 15 ∧ dMag g ≠ 0 ∧ dFinite g = true ∧
     dFinite o = true ∧ -2048 ≤ d.toInt ∧ d.toInt ≤ 2048 ∧
     (c.toNat < 12 → dLe (fullRating (s.gainWith c.toNat g) (c.toNat / 6)) (dOfInt 21000) = true) ∧
     s.calOf c.toNat = false ∧ k ≤ 15 ∧ k ≠ c.toNat) ∧
    (let s : State := ready
     let i : Issue := iss
     let y : Byte := 0
     let p : Byte := 0
     let q : Byte := 0
     s.admits { op := 0x0602, plen := 3 } i ∧ accOk y p q = true) ∧
    (let s : State := ready
     let i : Issue := iss
     let y : Byte := 0
     let p : Byte := 0
     let q : Byte := 0
     s.admits { op := 0x0603, plen := 3 } i ∧ accOk y p q = true) ∧
    (let s : State := { ready with mem := cells 0x1010000 [1, 0, 1, 0] }
     let i : Issue := iss
     let c : Byte := 0
     let buf : Buf := buf 64
     s.admits { op := 0x0604, plen := 9, async := true } i ∧ s.metroLock = false ∧ s.bufOk i.host false buf = true ∧
     calBufOk c.toNat (s.rdBuf buf) = true ∧ s.mtr.cal = none) ∧
    (let s : State := ready
     let i : Issue := iss
     let k : Byte := 0
     let c : W32 := 1000
     let w : W16 := 10
     s.admits { op := 0x0605, plen := 7 } i ∧ s.metroLock = false ∧ k.toNat ≤ 3 ∧ 1000 ≤ c.toNat ∧ 10 ≤ w.toNat ∧
     w.toNat ≤ 500) ∧
    (let s : State := { ready with mem := cells 0x1010000 ([1, 0, 0, 0, 0, 1, 1, 0] ++ leBytes 8 0x3FF0000000000000) }
     let i : Issue := iss
     let c : Byte := 0
     let buf : Buf := buf 64
     let b := sliceB (s.rdBuf buf) 0 32
     s.admits { op := 0x0606, plen := 9 } i ∧ s.metroLock = false ∧ c.toNat ≤ 3 ∧ 32 ≤ buf.len.toNat ∧
     s.bufOk i.host false buf = true ∧ leAt b 0 2 ≤ 1 ∧ s.heatOk b = true) ∧
    (let s : State := ready
     let i : Issue := iss
     let c : Byte := 0
     let buf : Buf := buf 96
     s.admits { op := 0x0607, plen := 9 } i ∧ c.toNat ≤ 3 ∧ 96 ≤ buf.len.toNat ∧ s.bufOk i.host true buf = true) ∧
    (let s : State := ready
     let i : Issue := iss
     s.admits { op := 0x0608, plen := 0, async := true } i) ∧
    (let s : State := ready
     let i : Issue := iss
     s.admits { op := 0x0701, plen := 0 } i) ∧
    (let s : State := ready
     let i : Issue := iss
     s.admits { op := 0x0702, plen := 8 } i ∧ s.timeState = 0 ∧ s.time.pendStep = none ∧ s.servoWins = false) ∧
    (let s : State := ready
     let i : Issue := iss
     s.admits { op := 0x0703, plen := 0 } i) ∧
    (let s : State := ready
     let i : Issue := iss
     let p : Byte := 0
     let x : W32 := 0
     let y : W32 := 0
     s.admits { op := 0x0704, plen := 13 } i ∧ p.toNat ≤ 3 ∧ x.msb = false ∧ y.msb = false) ∧
    (let s : State := { ready with mem := cells 0x1010000 ptp1 }
     let i : Issue := iss
     let buf : Buf := buf 48
     s.admits { op := 0x0705, plen := 8 } i ∧ s.bufOk i.host false buf = true ∧ ptpStatus (s.rdBuf buf) = eOk) ∧
    (let s : State := ready
     let i : Issue := iss
     let p : Byte := 0
     let m : Byte := 1
     s.admits { op := 0x0706, plen := 2 } i ∧ p.toNat ≤ 3 ∧ m.toNat ≤ 5 ∧ s.fld (tpReg p.toNat 0x200) 2 0 ≠ m.toNat) ∧
    (let s : State := ready
     let i : Issue := iss
     s.admits { op := 0x0801, plen := 0 } i ∧ s.isHead = false) ∧
    (let s : State := ready.setCal fun c => { c with secs := 3000000000 }
     let i : Issue := iss
     let v : W64 := 0x0024022900235958
     let c : Byte := 1
     let n : Nat := 762566398
     let f := byteOf v
     s.admits { op := 0x0802, plen := 9 } i ∧ secsOf (f 0) (f 1) (f 2) (f 4) (f 5) (f 6) = some n ∧ f 3 = 0 ∧ f 7 ≤ 1 ∧
     c.toNat ≤ 1 ∧ c = 1 ∧ n < s.cal.secs) ∧
    (let s : State := (ready.setBit 0x70008 0 true)
     let i : Issue := iss
     let d : Byte := 1
     (d = 1 ∨ d = 0xFF) ∧ s.admits { op := 0x0803, plen := 1 } i ∧ s.shiftRefused (d == 1) i.env.roll = false) ∧
    (let s : State := ready
     let i : Issue := iss
     let k : Byte := 1
     let v : W64 := 0x0024022907235958
     let m : Byte := 0
     let f : Nat := 6
     s.admits { op := 0x0804, plen := 10 } i ∧ k.toNat ≤ 1 ∧ byteOf v 7 ≤ 1 ∧ m.getLsbD 7 = false ∧
     (∀ f < 7, m.getLsbD f = false → almInRange f (byteOf v f) = true) ∧
     (m.getLsbD 4 = false → m.getLsbD 5 = false → ofBcd (byteOf v 4) ≤ (monthDays 0).getD (ofBcd (byteOf v 5) - 1) 0) ∧
     f < 7 ∧ f ≠ 3) ∧
    (let s : State := (ready.setBit 0x70008 0 true)
     let i : Issue := iss
     let y : Byte := 2
     let n : W16 := 10
     s.admits { op := 0x0805, plen := 3, async := true } i ∧ y.toNat ≤ 2 ∧ 10 ≤ n.toNat ∧ s.calValid = true ∧
     s.cal.meas = none) ∧
    (let s : State := ready
     let i : Issue := iss
     let v : W16 := -5000
     s.admits { op := 0x0806, plen := 2 } i ∧ -5000 ≤ v.toInt ∧ v.toInt ≤ 5000) :=
  ⟨witness_programsLoadAndStart.1, witness_programsLoadAndStart.2.1, witness_programsStopAndChange.2.2.2.1,
    witness_programsStopAndChange.2.2.2.2.2, witness_forcesAndVariablesAreReached.1,
    witness_forcesAndVariablesAreReached.2.2.2.1, witness_forcesAndVariablesAreReached.2.2.2.2.1,
    witness_forcesAndVariablesAreReached.2.2.2.2.2.1, witness_forcesAndVariablesAreReached.2.2.2.2.2.2.1,
    witness_forcesAndVariablesAreReached.2.2.2.2.2.2.2.2, witness_meteringIsConfigured.2.1,
    witness_meterReadingsAnswer.1, witness_meterReadingsAnswer.2.1, witness_meterReadingsAnswer.2.2.2.2.1,
    witness_meteringIsConfigured.2.2.1, witness_meteringIsConfigured.2.2.2, witness_meterReadingsAnswer.2.2.1,
    witness_meterReadingsAnswer.2.2.2.1, witness_timeCommandsAnswer.1, witness_theTimeBaseStepsOnce.2.2.1,
    witness_timeCommandsAnswer.2.1, witness_timeCommandsAnswer.2.2.1, witness_timeCommandsAnswer.2.2.2.1,
    witness_timeCommandsAnswer.2.2.2.2, witness_calendarCommandsTakeEffect.1,
    witness_calendarCommandsTakeEffect.2.2.2.2.2.1, witness_calendarCommandsTakeEffect.2.2.2.2.2.2.1,
    witness_calendarCommandsTakeEffect.2.2.2.2.2.2.2.1, witness_calendarCommandsTakeEffect.2.2.2.2.2.2.2.2.1,
    witness_calendarCommandsTakeEffect.2.2.2.2.2.2.2.2.2⟩

theorem witness_otherCommandsComplete :
    (let s : State := { net with mem := cells 0x1010000 (port1) }
     let i : Issue := iss
     let p : Byte := 0
     let buf : Buf := buf 56
     s.admits { op := 0x0901, plen := 9 } i ∧ s.bufOk i.host false buf = true ∧ p.toNat ≤ 3 ∧
     portStatus p.toNat (s.rdBuf buf) = eOk ∧ (p.toNat = 3 → s.paired = false) ∧ s.bit aDomBusy (0x10 + p.toNat) = false) ∧
    (let s : State := ready
     let i : Issue := iss
     let p : Byte := 0
     s.admits { op := 0x0902, plen := 1 } i ∧ p.toNat ≤ 3) ∧
    (let s : State := ready
     let i : Issue := iss
     let a : W16 := 1
     s.admits { op := 0x0903, plen := 2 } i ∧ 1 ≤ a.toNat ∧ a.toNat ≤ 16382 ∧ s.driftBusy = false) ∧
    (let s : State := { net with mem := cells 0x1010000 ([1]) }
     let i : Issue := iss
     let p : Byte := 0
     let buf : Buf := buf 4
     s.admits { op := 0x0904, plen := 9 } i ∧ p.toNat ≤ 4 ∧ s.bufOk i.host false buf = true ∧
     vlanBytesOk (s.rdBuf buf) = true ∧ (s.vidsWith p.toNat (vlansOf (s.rdBuf buf))).length ≤ 64) ∧
    (let s : State := netSec
     let i : Issue := iss
     let p : Byte := 0
     let d : Byte := 1
     let an : Byte := 1
     let slot : Byte := 5
     let pn : W64 := 1
     s.admits { op := 0x0905, plen := 12 } i ∧ p.toNat ≤ 3 ∧ d.toNat ≤ 1 ∧ an.toNat ≤ 3 ∧ slot.toNat ≤ 127 ∧
     s.slotValid slot.toNat = true ∧ (s.slot slot.toNat).usage = 0x02 ∧ (s.portCfg p.toNat).required = true ∧ pn ≠ 0 ∧
     pn.toNat ≤ pnMax (s.portCfg p.toNat).xpn) ∧
    (let s : State := { net with mem := cells 0x1010000 ([1]) }
     let i : Issue := iss
     let p : Byte := 0
     let q : Byte := 0
     let buf : Buf := buf 64
     s.admits { op := 0x0906, plen := 10 } i ∧ p.toNat ≤ 3 ∧ q.toNat ≤ 7 ∧ s.bufOk i.host false buf = true ∧
     gateOk (s.rdBuf buf) = true) ∧
    (let s : State := ready
     let i : Issue := { iss with env := { uart := some ⟨true, 8, 0, 1, 9600, 5⟩ } }
     let u : Byte := 0
     let buf : Buf := buf 64
     let c : UartCfg := ⟨true, 8, 0, 1, 9600, 5⟩
     s.admits { op := 0x0907, plen := 9 } i ∧ u.toNat ≤ 3 ∧ s.bufOk i.host false buf = true ∧ i.env.uart = some c ∧
     uartOk c = true ∧ c.timeout ≤ 2000) ∧
    (let s : State := net
     let i : Issue := iss
     let p : Byte := 0
     let q : Byte := 0
     let l : W64 := 0
     let buf : Buf := buf 64
     let b := s.rdBuf buf
     s.admits { op := 0x0908, plen := 18, frozenNo := true, async := true } i ∧ p.toNat ≤ 3 ∧ q.toNat ≤ 7 ∧
     14 ≤ b.length ∧ s.bufOk i.host false buf = true ∧ l.toNat ≤ s.now + 16000000000 ∧
     (isCmdFrame b = true → s.standby = false ∧ s.persMismatch = false) ∧ (isField b = true → s.address ≠ 0) ∧
     s.linkUp p.toNat = true ∧ s.pairBars p.toNat b = false ∧ driftStops (s.portCfg p.toNat) p.toNat b = false ∧
     s.hasRoom p.toNat q.toNat b.length = true) ∧
    (let s : State := { ready with mem := cells 0x1010000 ([1, 0, 1, 1, 2, 0, 0, 4] ++ leBytes 4 0 ++ leBytes 2 168 ++ leBytes 2 0 ++ leBytes 4 2000 ++ leBytes 4 0) }
     let i : Issue := iss
     let buf : Buf := buf 24
     let r : CfgRecord := {}
     let b := s.rdBuf buf
     let g : Nat := 15
     s.admits { op := 0x0A01, plen := 8 } i ∧ s.bufOk i.host false buf = true ∧ leAt b 0 2 = 1 ∧ pairCfgOk b = true ∧
     s.pairState ≠ 5 ∧ s.pairState ≠ 6 ∧ s.cfg = some r ∧ (b.getD 7 0).getLsbD 2 = true ∧ g < 16) ∧
    (let s : State := { ready with mem := cells 0x1010000 ([1, 0, 1, 1, 2, 0, 0, 4] ++ leBytes 4 0 ++ leBytes 2 168 ++ leBytes 2 0 ++ leBytes 4 2000 ++ leBytes 4 0) }
     let i : Issue := iss
     s.admits { op := 0x0A02, plen := 0 } i) ∧
    (let s : State := { ready with mem := cells 0x1010000 ([1, 0, 1, 1, 2, 0, 0, 4] ++ leBytes 4 0 ++ leBytes 2 168 ++ leBytes 2 0 ++ leBytes 4 2000 ++ leBytes 4 0) }
     let i : Issue := iss
     let k : Byte := 0
     let b : W32 := 0x1000000
     let l : W32 := 64
     let u := (s.wr (0x90100 + 8 * k.toNat) b).wr (0x90104 + 8 * k.toNat) l
     let j : Nat := 79
     s.admits { op := 0x0A03, plen := 9 } i ∧ s.regionOk k.toNat b.toNat l.toNat = true ∧ s.pairState ≠ 3 ∧
     s.pairState ≠ 4 ∧ s.pairState ≠ 5 ∧ u.regionTotal 0 64 ≤ 0x800000 ∧ u.regionTotal 64 16 ≤ 0x400000 ∧ j < 80 ∧
     j ≠ k.toNat) ∧
    (let s : State := pairIn 2
     let i : Issue := iss
     s.admits { op := 0x0A04, plen := 0, frozenNo := true, async := true } i ∧ s.standby = false ∧ s.pairState = 2 ∧
     s.pairLink = true ∧ s.swapOk = true) ∧
    (let s : State := pairIn 4
     let i : Issue := iss
     s.admits { op := 0x0A05, plen := 0, async := true } i ∧ s.pairState = 4 ∧ s.pairLink = true) ∧
    (let s : State := ready
     let i : Issue := iss
     s.admits { op := 0x0B01, plen := 0 } i) ∧
    (let s : State := ready
     let i : Issue := iss
     let buf : Buf := buf 72
     s.admits { op := 0x0B02, plen := 8 } i ∧ 72 ≤ buf.len.toNat ∧ s.bufOk i.host true buf = true) ∧
    (let s : State := { (ready.setBit 0xA0008 0 true) with boot := { ready.boot with goodDone := true } }
     let i : Issue := iss
     let g : Nat := 0
     s.admits { op := 0x0B03, plen := 0 } i ∧ s.frozen = true ∧ s.assertedWith i.env.rising = [] ∧ s.onTrial = false ∧
     g < 6) ∧
    (let s : State := ready
     let i : Issue := iss
     let o : W16 := 23
     let v : W64 := 2
     s.admits { op := 0x0B04, plen := 10 } i ∧ safeOk o.toNat v = true ∧ o.toNat < 24) ∧
    (let s : State := ready
     let i : Issue := iss
     let o : W16 := 0x10F
     let v : W64 := 0x4059000000000000
     s.admits { op := 0x0B04, plen := 10 } i ∧ safeOk o.toNat v = true ∧ 0x100 ≤ o.toNat ∧ o.toNat < 0x110) ∧
    (let s : State := ready
     let i : Issue := iss
     let o : W16 := 0x203
     let v : W64 := 1
     s.admits { op := 0x0B04, plen := 10 } i ∧ safeOk o.toNat v = true ∧ 0x200 ≤ o.toNat) ∧
    (let s : State := { ready with cfg := some { testAllow := true } }
     let i : Issue := iss
     let n : Byte := 191
     s.admits { op := 0x0B05, plen := 1 } i ∧ sourceDefined n.toNat = true ∧ s.conf.testAllow = true ∧
     s.fld 0x90008 3 0 ≠ 2) ∧
    (let s : State := ready
     let i : Issue := iss
     let n : W32 := 1
     let buf : Buf := buf 64
     s.admits { op := 0x0C01, plen := 22 } i ∧ 1 ≤ n.toNat ∧ n.toNat ≤ 4096 ∧ 32 ≤ buf.len.toNat ∧
     s.bufOk i.host true buf = true) ∧
    (let s : State := ready
     let i : Issue := iss
     s.admits { op := 0x0C02, plen := 0 } i) ∧
    (let s : State := (ready.setBit 0xB0004 0 true)
     let i : Issue := iss
     s.admits { op := 0x0C03, plen := 0, async := true } i ∧ s.bit 0xB0004 0 = true ∧ s.log.flush = none) ∧
    (let s : State := ready
     let i : Issue := iss
     let c : W16 := 0x0101
     let r : W16 := 1000
     let b : W16 := 255
     s.sound ∧ s.admits { op := 0x0C04, plen := 6 } i ∧ limitedCode c.toNat = true ∧ r.toNat ≤ 1000 ∧ 1 ≤ b.toNat ∧
     b.toNat ≤ 255 ∧ (s.rateOf c.toNat ≠ none ∨ s.rateFree ≠ none)) ∧
    (let s : State := { near with key := { near.key with slots := near.key.slots ++ [(7, ⟨List.replicate 32 1, 0, 1, 3, 1, 1, true, false, false⟩)] } }
     let i : Issue := iss
     let k : Byte := 7
     let f : W64 := 0
     let l : W64 := 9
     s.admits { op := 0x0C05, plen := 17, async := true } i ∧ k.toNat ≤ 127 ∧ s.seqOf f.toNat ≤ s.seqOf l.toNat ∧
     s.seqOf l.toNat - s.seqOf f.toNat < 262143 ∧ s.slotValid k.toNat = true ∧ (s.slot k.toNat).usage = 0x03) ∧
    (let s : State := { ready with log := { ready.log with unset := false, fifo := [] } }
     let i : Issue := iss
     let c : W16 := 0x0CFF
     s.admits { op := 0x0C06, plen := 14 } i ∧ 0x0C80 ≤ c.toNat ∧ c.toNat ≤ 0x0CFF ∧ s.log.fifo = [] ∧
     s.log.waitWrites = [] ∧ s.log.unset = false ∧ s.log.lostPend = 0 ∧ s.unflushed ≤ 4094) ∧
    (let s : State := ready
     let i : Issue := iss
     let k : Byte := 1
     let n : W32 := 448
     s.admits { op := 0x0D01, plen := 5 } i ∧ k.toNat ≤ 1 ∧ n.toNat % 64 = 0 ∧ 192 ≤ n.toNat ∧ n.toNat ≤ 0x600000 ∧
     (k.toNat ≠ s.running ∨ s.recovery = true) ∧ s.slotState k.toNat ≠ slTrial ∧ s.boot.opened = none ∧
     s.receiving k.toNat = false) ∧
    (let s : State := { ready with boot := { ready.boot with opened := some (1, 448) } }
     let i : Issue := iss
     let o : W32 := 416
     let buf : Buf := buf 32
     let k : Nat := 1
     let n : Nat := 448
     s.admits { op := 0x0D02, plen := 12 } i ∧ s.boot.opened = some (k, n) ∧ o.toNat + buf.len.toNat ≤ n ∧
     buf.len.toNat ≤ 65536 ∧ s.bufOk i.host false buf = true) ∧
    (let s : State := { staged with boot := { ready.boot with opened := some (1, 448), blocks := [0] } }
     let i : Issue := iss
     let k : Nat := 1
     let n : Nat := 448
     s.admits { op := 0x0D03, plen := 0 } i ∧ s.boot.opened = some (k, n) ∧ k ≤ 1 ∧ s.boot.blocks.length = nBlocks n ∧
     s.slotCheck k = none ∧ cLength (s.slotBytes k) ≤ n) ∧
    (let s : State := ready
     let i : Issue := iss
     s.admits { op := 0x0D04, plen := 1, frozenNo := true, async := true } i ∧ s.boot.activating = none ∧
     s.slotState s.running ≠ slTrial) ∧
    (let s : State := ready
     let i : Issue := iss
     s.admits { op := 0x0D05, plen := 0 } i) ∧
    (let s : State := { head.setSlotState 0 slGood with cfg := some { personality := 1, downAddr := [5] } }
     let i : Issue := iss
     let p : Byte := 0
     let k : Byte := 0
     s.admits { op := 0x0D06, plen := 2, pers := some 1 } i ∧ p.toNat ≤ 1 ∧ k.toNat ≤ 1 ∧ s.standby = false ∧
     (s.slotState k.toNat = slStaged ∨ s.slotState k.toNat = slTrial ∨ s.slotState k.toNat = slGood) ∧
     kfind s.boot.tx p.toNat = none ∧ s.downAddr p.toNat ≠ 0) ∧
    (let s : State := near
     let i : Issue := { iss with env := { icv := true } }
     let p : Byte := 0
     let n : Byte := 0xFF
     let u : Byte := 2
     let l : Buf := buf 1
     s.admits { op := 0x0E01, plen := 11 } i ∧ s.bufOk i.host false l = true ∧ p ≠ 0xFF ∧
     s.deriveStatus p n u (s.rdBuf l).length = eOk ∧ s.validUp 9 p.toNat = true ∧ i.env.icv = true) ∧
    (let s : State := ready
     let i : Issue := iss
     let n : Byte := 0
     s.admits { op := 0x0E02, plen := 1 } i ∧ (n.toNat = 0 ∨ (4 ≤ n.toNat ∧ n.toNat ≤ 127))) ∧
    (let s : State := ready
     let i : Issue := iss
     let n : Byte := 0
     s.admits { op := 0x0E03, plen := 1 } i ∧ n.toNat ≤ 127) ∧
    (let s : State := ready
     let i : Issue := iss
     s.admits { op := 0x0E04, plen := 0 } i) ∧
    (let s : State := ready
     let i : Issue := iss
     let n : Byte := 0
     let m : Byte := 0
     s.admits { op := 0x0E05, plen := 2 } i ∧ s.tamperStatus n.toNat m.toNat = eOk) ∧
    (let s : State := { ({ near with cfg := some { debugKey := signKey } } : State) with key := { near.key with challenge := List.replicate 16 0 }, mem := cells 0x1010000 resp1 }
     let i : Issue := iss
     let buf : Buf := buf 88
     s.admits { op := 0x0E06, plen := 8 } i ∧ buf.len.toNat = 88 ∧ s.bufOk i.host false buf = true ∧
     s.key.debug = false ∧ s.key.refused < 3 ∧ s.noDebugKey = false ∧ sliceB (s.rdBuf buf) 0 16 = s.key.challenge ∧
     s.responseOk (s.rdBuf buf) = true) ∧
    (let s : State := ready.setBit aDomOn 0x0C false
     let i : Issue := iss
     let d : Byte := 0x0C
     let o : Byte := 1
     s.admits { op := 0x0F01, plen := 2, frozenNo := true, async := true } i ∧ domainCode d.toNat = true ∧ o.toNat ≤ 1 ∧
     s.bit aDomBusy d.toNat = false ∧ s.bit aDomOn d.toNat ≠ (o == 1) ∧ s.domainRefused i.host d.toNat (o == 1) = false ∧
     o = 1) ∧
    (let s : State := ready
     let i : Issue := iss
     s.admits { op := 0x0F02, plen := 0 } i) ∧
    (let s : State := ready
     let i : Issue := iss
     let k : Byte := 0
     s.admits { op := 0x0F03, plen := 1 } i ∧ k.toNat ≤ 15) ∧
    (let s : State := ready
     let i : Issue := iss
     s.admits { op := 0x0F04, plen := 0 } i) :=
  ⟨witness_networkIsConfigured.1, witness_networkIsConfigured.2.2.2.1, witness_networkIsConfigured.2.2.2.2.1,
    witness_networkIsConfigured.2.2.2.2.2.1, witness_networkIsConfigured.2.2.2.2.2.2.2.1,
    witness_networkIsConfigured.2.2.2.2.2.2.2.2.1, witness_networkIsConfigured.2.2.2.2.2.2.2.2.2,
    witness_framesAreHandedOver.1, witness_pairCommandsTakeEffect.1, witness_pairCommandsTakeEffect.2.1,
    witness_pairCommandsTakeEffect.2.2.1, witness_pairCommandsTakeEffect.2.2.2.2.1,
    witness_pairCommandsTakeEffect.2.2.2.2.2, witness_faultCommandsTakeEffect.1, witness_faultCommandsTakeEffect.2.1,
    witness_faultCommandsTakeEffect.2.2.2.1, witness_faultCommandsTakeEffect.2.2.2.2.2.2.1,
    witness_faultCommandsTakeEffect.2.2.2.2.2.2.2.1, witness_faultCommandsTakeEffect.2.2.2.2.2.2.2.2.1,
    witness_faultCommandsTakeEffect.2.2.2.2.2.2.2.2.2.2.2, witness_logCommandsTakeEffect.1,
    witness_logCommandsTakeEffect.2.1, witness_logCommandsTakeEffect.2.2.1, witness_logCommandsTakeEffect.2.2.2.2.2.1,
    witness_logCommandsTakeEffect.2.2.2.2.2.2.1, witness_logCommandsTakeEffect.2.2.2.2.2.2.2,
    witness_imagesAreWrittenAndStaged.1, witness_imagesAreWrittenAndStaged.2.2.1,
    witness_imagesAreWrittenAndStaged.2.2.2.1, witness_activationAndGoodBoot_2,
    witness_imagesAreWrittenAndStaged.2.2.2.2.1, witness_imagesAreWrittenAndStaged.2.2.2.2.2,
    witness_keyCommandsTakeEffect_3, witness_keyCommandsTakeEffect_6, witness_keyCommandsTakeEffect_7,
    witness_keyCommandsTakeEffect_8, witness_keyCommandsTakeEffect_10, witness_keyCommandsTakeEffect_12,
    witness_powerIsSwitched.2.2.1, witness_powerIsSwitched.2.2.2.2.1, witness_powerIsSwitched.2.2.2.2.2.1,
    witness_powerIsSwitched.2.2.2.2.2.2.1⟩

theorem witness_hostAndRegisterAccessesComplete :
    (let s : State := qpOn
     let h : HostId := .hostp
     let p : Byte := 0
     let v : W32 := 0
     let k := p.toNat
     let tail := fldOf v 15 0
     let head := fldOf v 31 16
     let mine := s.qpActive k = true ∧ s.fld (qpReg k 0x1C) 13 12 = ownerCode h
     let inRange := head < s.cqLen k ∧ inQueueOrder (s.cqLen k) (s.rd (qpReg k 0x14)).toNat head (s.rd (qpReg k 0x18)).toNat = true
     p.toNat ≤ 7 ∧ s.hostOn h = true ∧ mine ∧ tail < s.sqLen k ∧ inRange) ∧
    (let s : State := qpSet
     let h : HostId := .hostp
     let p : Byte := 0
     let v : W32 := 1
     let k := p.toNat
     let u := s.wr (qpReg k 0x1C) ((s.rd (qpReg k 0x1C) &&& 0xFFFFF0E6) ||| (v &&& 0xF19))
     let o : Nat := 0xC
     p.toNat ≤ 7 ∧ s.hostOn h = true ∧ s.bit (qpReg k 0x1C) 0 = false ∧ v.getLsbD 0 = true ∧ u.recovery = false ∧
     u.qpOk h k = true ∧ o ∈ [0xC, 0x10, 0x14, 0x18]) ∧
    (let s : State := qpOn
     let h : HostId := .hostp
     let p : Byte := 0
     let v : W32 := 0
     let k := p.toNat
     p.toNat ≤ 7 ∧ s.hostOn h = true ∧ s.bit (qpReg k 0x1C) 0 = true ∧ v.getLsbD 0 = false ∧ s.pairBusy k = false) ∧
    (let s : State := ready
     let h : HostId := .hostp
     s.hostOn h = true ∧ s.bit 0x10048 2 = false) ∧
    (let s : State := serving1
     let k : Fin 8 := 0
     s.serving = true ∧ s.chip.draining = none ∧ s.logWrites = [] ∧ s.mb.waiting = [] ∧ s.pick = some k.val ∧
     s.sramOk (hostMaster (s.ownerOf k.val)) false (s.entryAt k.val) 64 = true) ∧
    (let s : State := ready
     let h : HostId := .hostp
     let r : W16 := 0
     let b : Nat := 0
     s.hostOn h = true ∧ b < 16 ∧ r.getLsbD b = false) ∧
    (let s : State := ready
     let h : HostId := .hostp
     let r : W16 := 0xFFFF
     let b : Nat := 0
     s.hostOn h = true ∧ b < 16 ∧ r.getLsbD b = true) ∧
    (let s : State := ready
     s.hostOn .hostp = true) ∧
    (let s : State := ready
     let h : HostId := .hostp
     let p : Byte := 0
     let k := p.toNat
     let mine := s.qpActive k = true ∧ s.fld (qpReg k 0x1C) 13 12 = ownerCode h
     p.toNat ≤ 7 ∧ s.hostOn h = true ∧ ¬ mine) ∧
    (let s : State := ready
     s.spiOn = true) ∧
    (let s : State := { problem with spi := { octal := true, wel := true } }
     let a : W32 := 0x01010000
     let n : Nat := 4
     let o := a.toNat - 0x01000000
     s.spiOn = true ∧ 0x01000000 ≤ a.toNat ∧ a.toNat + n ≤ 0x02000000 ∧ (∀ j < n, s.spiTakes false (o + j) = true)) ∧
    (let s : State := { problem with spi := { octal := true, wel := true } }
     let a : W32 := 0x01010000
     let d : Bytes := [5, 6]
     let o := a.toNat - 0x01000000
     let j : Nat := 0
     s.spiOn = true ∧ 0x01000000 ≤ a.toNat ∧ a.toNat + d.length ≤ 0x02000000 ∧ 1 ≤ d.length ∧ d.length ≤ 256 ∧
     s.spi.wel = true ∧ j < d.length ∧ s.spiTakes true (o + j) = true) ∧
    (let s : State := ready
     let m : Master := .firn
     let address : Nat := 0x2001C
     let r : RegRow := (regRow 0x2001C).getD { off := 0 }
     let a := address / 4 * 4
     4 ≤ a ∧ isPairLo (a - 4) = true ∧ s.regDenied m a true = none ∧ regRow a = some r ∧ r.opens m = true ∧
     (a / 0x40 = 0x60000 / 0x40 → s.servoWriter m = true)) ∧
    (let s : State := ready
     let m : Master := .firn
     let address : Nat := 0x20018
     let a := address / 4 * 4
     isReadLo a = true ∧ actsOnRead a = false ∧ s.regDenied m a false = none ∧
     kfind s.halves.shadows (halfKey a (masterId m)) = none) ∧
    (let s : State := ready
     let m : Master := .hostp
     let kind : Byte := 1
     let address : Nat := 0x10000000
     kind.toNat % 4 ≤ 2 ∧ s.admits24 m (kind.toNat % 4) (address % 2 ^ 40) = false ∧ s.bit 0x34 31 = false) ∧
    (let s : State := ready.wrAll [(0x10, 0xB00), (0x14, 0x1000000), (0x18, 0x1FFFFFF), (0x1C, 1)]
     let e : AccEntry := ⟨s.fld 0x10 5 0, s.fld 0x10 11 8, s.fld 0x10 19 16, (s.rd 0x14).toNat, (s.rd 0x18).toNat, BitVec.ofNat 8 (s.fld 0x1C 7 0)⟩
     let old := s.accEntry e.target e.master e.region
     let g : Nat := 0
     let m : Nat := 1
     let r : Nat := 0
     old.rights.getLsbD 7 = false ∧ s.entryShape e = true ∧ s.rightsPathed e = true ∧ notWX e = true ∧
     writersKept e = true ∧ ¬ (g = e.target ∧ m = e.master ∧ r = e.region)) ∧
    (let s : State := { problem with key := { ready.key with debug := true, scope := 3 } }
     let core : Master := .cyc0
     let address : Nat := 0x1010000
     let a := address % 2 ^ 40
     s.inScope core = true ∧ ¬ (0x40000000 ≤ a ∧ a < 0x41000000) ∧ s.memAdmits core 0 a 4 = true) ∧
    (let s : State := ready.wr 0x1001C 0x70003
     let m : Master := .firn
     let address : Nat := 0x1001C
     let rising : W32 := 0
     let r : RegRow := (regRow 0x1001C).getD { off := 0 }
     let a := address / 4 * 4
     actsOnRead a = false ∧ s.regDenied m a false = none ∧ regRow a = some r ∧ r.rc ≠ 0 ∧
     kfind s.halves.shadows (halfKey a (masterId m)) = none ∧ rising &&& w32 r.rc = 0) ∧
    (let s : State := ready
     let m : Master := .firn
     let address : Nat := 0xB0004
     let r : RegRow := (regRow 0xB0004).getD ⟨0, 1, 4, 0, 0, 0, 0, 0, 0, 1, .none, false⟩
     let a := address / 4 * 4
     ((a / 0x10000 = 2 ∧ a ≠ 0x20044) ∨ (a / 0x10000 = 0xB ∧ a ≠ 0xB004C)) ∧ isPairLo a = false ∧
     isPairLo (a - 4) = false ∧ s.regDenied m a true = none ∧ regRow a = some r ∧ r.opens m = true ∧ r.banked = false) ∧
    (let s : State := ready
     let h : HostId := .hostp
     let o : W32 := 0
     let d : Bytes := [1, 2]
     s.hostOn h = true ∧ o.toNat + d.length ≤ 0x1000000 ∧
     s.sramOk (hostMaster h) true (s.window + o.toNat) d.length = true ∧
     s.cleanRun true (s.window + o.toNat) d.length = true) :=
  ⟨witness_doorbellIsJudgedInOrder.2.2.2, witness_queuePairsStartAndEnd.1, witness_queuePairsStartAndEnd.2.2.1,
    witness_mailboxRegistersRespond.2.1, witness_firnFetchesInTurn.2.2.2.2, witness_mailboxRegistersRespond.2.2.2.2.1,
    witness_mailboxRegistersRespond.2.2.2.2.2, witness_hostLinksAct.2.1, witness_doorbellIsJudgedInOrder.1,
    witness_hostLinksAct.2.2.2.2.2.2.1, witness_spiReachesTheWindow.1, witness_spiReachesTheWindow.2.2.2.2.1,
    witness_registerPairsMoveAsOne.2.1, witness_registerPairsMoveAsOne.2.2, witness_violationsAreRecorded.2.2.1,
    witness_accessTablesAreWrittenWhole.1, witness_debuggersActAsTheirCore.2.1, witness_readsClearRcFields.1,
    witness_registerWritesFollowAccessTypes.1, witness_hostLinksAct.2.2.2.1⟩

theorem witness_bootPowerAndGuardEventsComplete :
    (let straps : Straps := { ready.chip.straps with bootsel := 1 }
     straps.pers.toNat ≤ 1 ∧ straps.bootsel = 1) ∧
    (let s : State := { ready with chip := { ready.chip with straps := { ready.chip.straps with bootsel := 1 } } }
     let c : Byte := 2
     2 ≤ c.toNat ∧ c.toNat ≤ 5 ∧ s.chip.straps.pers.toNat ≤ 1 ∧ s.chip.straps.bootsel = 1) ∧
    (let s : State := ready.wr 0xC001C 0xFF
     let at_ : Nat := 60000000000
     let u := s.reach at_
     u.recovery = false ∧ u.boot.goodDone = false ∧ u.rolesCurrent = true ∧ u.cfg.isSome = true ∧
     u.chip.firnStart + 60000000000 ≤ u.now) ∧
    (let s : State := ready
     s.onTrial = true) ∧
    (let s : State := { ready with boot := { ready.boot with goodDone := true } }
     let at_ : Nat := 0
     (s.reach at_).onTrial = false ∧ (s.reach at_).mb.outstanding = [] ∧ (s.reach at_).mb.waiting = [] ∧
     s.chip.restarts = []) ∧
    (let s : State := ready
     (s.raise 0).onTrial = true) ∧
    (let s : State := { head.setSlotState 0 slGood with cfg := some { personality := 1, downAddr := [5] } }
     let i : Issue := iss
     let p : Byte := 0
     let k : Byte := 0
     s.admits { op := 0x0D06, plen := 2, pers := some 1 } i ∧ p.toNat ≤ 1 ∧ k.toNat ≤ 1 ∧ s.standby = false ∧
     (s.slotState k.toNat = slStaged ∨ s.slotState k.toNat = slTrial ∨ s.slotState k.toNat = slGood) ∧
     kfind s.boot.tx p.toNat = none ∧ s.downAddr p.toNat ≠ 0) ∧
    (let x : Readings := { temps := [-5] }
     let k : Nat := 0
     let v : W32 := -5
     k < 16 ∧ x.temps[k]? = some v) ∧
    (let s : State := { (ready).wr (0xE0080 + 4 * 0) 5121 with pwr := { ready.pwr with skew := [(1, 100)] } }
     let h : Byte := 0
     let c : Byte := 1
     let d : Nat := 5121
     let k : Nat := 0
     h.toNat < 9 ∧ 100 ≤ s.skewRun h.toNat c.toNat ∧ (d : Int) = s.therm h.toNat - s.therm c.toNat ∧
     s.tileRole (h.toNat + 2) = some k ∧ s.hasRsv = true ∧ s.rotPhase = 0 ∧ s.pwr.thermalAt = none ∧ s.frozen = false) ∧
    (let s : State := (ready.setBit 0xE0030 0 true).setFld 0xE0034 9 0 845
     let x : AvsStep := ⟨850, 850, true⟩
     let cur := s.fld 0xE0034 9 0
     s.bit 0xE0030 0 = true ∧ x.ack = true ∧ max cur x.meas - min cur x.meas ≤ 25 ∧ 650 ≤ cur ∧ cur ≤ 850 ∧
     cur + 5 ≤ x.want ∧ cur ≤ 845) ∧
    (let s : State := near
     let h : FrameHeader := hdr
     let b : AnnounceBody := ⟨7, 4096, 6, 1, 0, 0, cmac256 (near.heard hdr true).avlKey (annBody 7 4096 6 1 0 0)⟩
     let u := s.heard h true
     (s.reach h.at_).carried h ∧ (h.port ≠ 3 ∨ (s.reach h.at_).paired = false) ∧ s.avStopped = false ∧
     (s.reach h.at_).accepts h true = .ok ∧ u.upOk h = true ∧ u.slotValid 2 = true ∧
     cmac256 u.avlKey (annBody b.image b.length.toNat b.flags b.version b.svn b.activateAt) = b.cmac ∧
     cAllows b.flags u.isHead = true ∧ (u.rd 0xC0010).toNat ≤ b.svn.toNat ∧ 1 ≤ b.length.toNat ∧
     b.length.toNat ≤ 0x600000 ∧ u.boot.opened = none ∧ u.boot.rx = none) ∧
    (let s : State := receiving7
     let h : FrameHeader := hdr
     let b : FragBody := ⟨7, 0, 1, [9], []⟩
     let r : AvRx := rx7
     (s.reach h.at_).carried h ∧ (h.port ≠ 3 ∨ (s.reach h.at_).paired = false) ∧ s.avStopped = false ∧
     (s.reach h.at_).accepts h false = .ok ∧ (s.heard h false).boot.rx = some r ∧ r.image = b.image ∧ r.sender = h.src ∧
     (s.heard h false).receiving r.slot = true ∧ b.block.toNat = r.block ∧ b.block.toNat < nBlocks r.length ∧
     r.frags = [] ∧ b.frag ≠ 3) ∧
    (let s : State := { near with boot := { near.boot with tx := [(0, tx7)] } }
     let h : FrameHeader := hdr
     let b : AvAckBody := ⟨7, 1, 1, 1⟩
     let x : AvTx := tx7
     (s.reach h.at_).carried h ∧ (h.port ≠ 3 ∨ (s.reach h.at_).paired = false) ∧ s.avStopped = false ∧
     (s.reach h.at_).accepts h false = .ok ∧ kfind (s.heard h false).boot.tx h.port = some x ∧ x.image = b.image ∧
     (s.heard h false).downAddr h.port = h.src ∧ (b.state = 1 ∨ b.state = 2)) ∧
    (let s : State := receiving7
     let h : FrameHeader := hdr
     let img : W32 := 7
     let r : AvRx := rx7
     (s.reach h.at_).carried h ∧ (h.port ≠ 3 ∨ (s.reach h.at_).paired = false) ∧ s.avStopped = false ∧
     (s.reach h.at_).accepts h true = .ok ∧ (s.heard h true).boot.rx = some r ∧ r.image = img ∧ r.sender = h.src ∧
     (s.heard h true).receiving r.slot = true) ∧
    (let s : State := { near with boot := { near.boot with tx := [(0, { tx7 with resends := 20 })] } }
     let h : FrameHeader := hdr
     let p : Byte := 0
     let x : AvTx := { tx7 with resends := 20 }
     (s.reach h.at_).carried h ∧ (h.port ≠ 3 ∨ (s.reach h.at_).paired = false) ∧ s.avStopped = false ∧
     kfind s.boot.tx p.toNat = some x ∧ x.suspended = false ∧ x.resends ≥ 20) ∧
    (let s : State := { near with boot := { near.boot with tx := [(0, { tx7 with suspended := true })] } }
     let h : FrameHeader := hdr
     let p : Byte := 0
     let x : AvTx := { tx7 with suspended := true }
     (s.reach h.at_).carried h ∧ (h.port ≠ 3 ∨ (s.reach h.at_).paired = false) ∧ s.avStopped = false ∧
     kfind s.boot.tx p.toNat = some x ∧ x.suspended = true) ∧
    (let s : State := { (staged.setFld 0x60004 2 0 2) with cfg := near.cfg, boot := { staged.boot with actAt := some (7, 1, 1) } }
     let at_ : Nat := 1
     let img : W32 := 7
     let slot : Nat := 1
     let w : W64 := 1
     let u := ({ s.reach at_ with boot := { (s.reach at_).boot with actAt := none } } : State).bootWrite
     (s.reach at_).boot.actAt = some (img, slot, w) ∧ (s.reach at_).isHead = false ∧ (s.reach at_).recovery = false ∧
     (s.reach at_).conf.avActivate = true ∧ w.toNat ≤ (s.reach at_).now ∧ (s.reach at_).activateSkip slot = none ∧
     u.firnVerdict = eOk) ∧
    (let s : State := (ready.setBit aRotCtrl 0 true)
     let at_ : Nat := 0
     let f : LaneList := {}
     let u := s.reach at_
     let v := (u.setRotNext at_).testSpares f.lanes
     u.rotating = true ∧ (u.rd64 aRotNext).toNat ≤ at_ ∧ v.frozen = false ∧ v.rotPhase = 0 ∧ s.boot.activating = none ∧
     s.pwr.counted = [] ∧ s.pwr.pos < 8) ∧
    (let s : State := ready
     let f : LaneList := {}
     let v := s.testSpares f.lanes
     s.hasRsv = true ∧ v.frozen = false ∧ v.rotPhase = 0 ∧ s.boot.activating = none ∧ s.pwr.counted = [] ∧ s.pwr.pos < 8) ∧
    (let s : State := (ready.wr aRotState (w32 (1 + 0 * 256 + 2 * 4096 + 10 * 65536)))
     s.rotPhase = 1 ∧ 2 ≤ s.rotDst ∧ s.rotDst ≤ 10) ∧
    (let s : State := (ready.wr aRotState (w32 (4 + 7 * 256 + 9 * 4096 + 10 * 65536)))
     let d : Nat := 256
     s.rotPhase = 4 ∧ d ≤ 256 ∧ s.frozen = false ∧ s.cutWindow s.rotRole = true ∧ s.rotRole < 8 ∧
     s.pwr.rotThermal = false) ∧
    (let s : State := (ready.wr aRotState (w32 (1 + 0 * 256 + 2 * 4096 + 10 * 65536)))
     1 ≤ s.rotPhase ∧ s.rotPhase ≤ 4 ∧ s.boot.activating = none) ∧
    (let s : State := ready
     let tile : Byte := 2
     let k : Nat := 0
     s.tileRole tile.toNat = some k ∧ ¬ (1 ≤ s.rotPhase ∧ s.rotPhase ≤ 5 ∧ s.rotRole = k)) ∧
    (let s : State := ready
     let a : Nat := 0x1FFFFFF
     a < 0x02000000 ∧ (s.pwr.ceWords.any fun v => sramRow v == sramRow (a / 8 * 8)) = false) ∧
    (let s : State := ready.wr 0xA0060 0xFFFFFFFF
     let a : Nat := 0x1FFFFFF
     a < 0x02000000 ∧ s.mb.waiting = [] ∧ s.mtr.cal = none ∧ (∀ p < 4, s.portFrames p = [])) ∧
    (let s : State := ready
     let a : Nat := 0x1FFF
     a < 0x2000 ∧ s.pwr.remap.length < 255) ∧
    (let s : State := { ready with pwr := { ready.pwr with switching := [⟨12, true, 0⟩] } }
     let d : Byte := 0x0C
     let x : DomSwitch := ⟨12, true, 0⟩
     (s.pwr.switching.find? fun x => x.code == d.toNat) = some x ∧ domainCode d.toNat = true) ∧
    (let s : State := ready.setBit 0x10010 1 true
     s.bit 0x10010 1 = true ∧ s.chip.draining = none) :=
  ⟨witness_resetsStartTheChip.2.1, witness_resetsStartTheChip.2.2.1, witness_activationAndGoodBoot_1,
    witness_restartsAreAnnounced.2.2.2.2.2.1, witness_restartsAreAnnounced.2.2.1,
    witness_restartsAreAnnounced.2.2.2.2.1, witness_imagesAreWrittenAndStaged.2.2.2.2.2,
    witness_clocksAndHeatAreHandled.2.2.2.2.2.1, witness_clocksAndHeatAreHandled.2.2.2.2.2.2.2.2.2.2.2.2.1,
    witness_clocksAndHeatAreHandled.2.2.2.2.2.2.2.2.2.2.2.2.2.2.2.2.2.2.1, witness_avalancheTransfers_1,
    witness_avalancheTransfers_2, witness_avalancheTransfers_3, witness_avalancheTransfers_4,
    witness_avalancheTransfers_5, witness_avalancheTransfers_7, witness_activationAndGoodBoot_6,
    witness_rolesRotate.2.2.2.1, witness_rolesRotate.2.2.2.2.2.2.1, witness_rolesRotate.2.2.2.2.2.2.2.2.2.1,
    witness_rolesRotate.2.2.2.2.2.2.2.2.2.2.2.2.2.2.1, witness_rolesRotate.2.2.2.2.2.2.2.2.2.2.2.2.2.2.2.2.2.2.2,
    witness_activationAndGoodBoot_7, witness_memoriesAreRepaired.1, witness_memoriesAreRepaired.2.2.2.1,
    witness_memoriesAreRepaired.2.2.2.2.2.1, witness_powerIsSwitched.2.2.2.2.2.2.2.2,
    witness_restartsAreAnnounced.2.2.2.2.2.2.2⟩

theorem witness_engineEventsComplete :
    (let s : State := problem.wr (bankKey 0x20040 2) 0x1010000
     let m : Master := .cyc0
     let desc : Nat := 0x1010000
     let n : Nat := 20
     let h := s.rdMem desc 16
     let v : W32 := 1
     s.sramOk m false desc 16 = true ∧ (∀ j < n, s.poisoned (desc + j) = false) ∧
     n = 16 + 4 * leAt (s.rdMem desc 16) 0 4 ∧ s.sramOk m false desc n = true ∧ 1 ≤ leAt h 0 4 ∧ leAt h 0 4 ≤ 1024 ∧
     leAt h 8 1 ≤ 3 ∧ leAt h 9 1 ≤ 1 ∧ leAt h 10 6 = 0 ∧ (leAt h 8 1 = 3 → m = .seq) ∧
     w32 (leAt h 4 4) &&& ~~~(s.rd 0x20004) = 0 ∧ s.solv.batches.length < 64 ∧ s.regDenied m 0x20044 true = none ∧
     (m = .cyc0 ∨ m = .cyc1 ∨ m = .cyc2 ∨ m = .cyc3 ∨ m = .seq) ∧ desc = (s.rd (bankKey 0x20040 (masterId m))).toNat ∧
     v.getLsbD 0 = true ∧ s.bit (bankKey 0x20044 (masterId m)) 1 = false) ∧
    (let s : State := queued
     let at_ : Nat := 0
     let lg : Nat := 0
     let w : Waiting := ⟨batch1, 0, 0x1020000, false, false⟩
     let u := (s.reach at_).takeWaiting w
     (s.reach at_).solvStopped = false ∧ (s.reach at_).nextDispatch = some (lg, w) ∧
     u.accessFault w.batch.master w.off = 0) ∧
    (let s : State := running1
     let lane : Byte := 0
     let r : SolvRun := run1
     kfind s.solv.runs lane.toNat = some r ∧ s.persMismatch = false ∧ s.broken r.batch r.index = false) ∧
    (let s : State := queued
     let lane : Byte := 0
     lane.toNat ≤ 33 ∧ s.laneRetired lane.toNat = false ∧ s.lanePowered lane.toNat = true ∧
     s.laneInService lane.toNat = true ∧ kfind s.solv.runs (s.laneLogical lane.toNat) = none) ∧
    (let s : State := { problem with time := { ready.time with ns := 100 }, solv := { queued.solv with nextId := 1 } }.setFld 0x60004 2 0 2
     let at_ : Nat := 100
     let w : Waiting := ⟨batch1, 0, 0x1020000, false, false⟩
     let u := (s.reach at_).takeWaiting w
     (s.reach at_).solvStopped = false ∧ (s.reach at_).timeState ≠ 0 ∧ (s.reach at_).orphan = some w ∧
     u.accessFault w.batch.master w.off = 0) ∧
    (let s : State := headNet
     let at_ : Nat := 1000000000
     let u := s.reach at_
     let k : Nat := 0
     let r : Nat := 1
     let v := if u.drift.hd.period ≠ k ∨ u.drift.hd.ran = false then u.beginPeriod k r else u
     let x : NetBranch := (netBranches net1).getD 0 ⟨0, 0, 0, [], []⟩
     u.roundOf at_ = some (k, r) ∧ u.isHead = true ∧ (∃ k0, u.drift.hd.started = some k0 ∧ k0 ≤ k) ∧ u.standby = false ∧
     v.drift.hd.final = 0 ∧ u.launches = true ∧ x ∈ netBranches (v.drift.hd.net.getD [])) ∧
    (let s : State := stn
     let h : FrameHeader := { hdr with src := 1, claim := 0x10 }
     (s.reach h.at_).carried h ∧ (s.reach h.at_).accepts h true = .ok ∧ (h.port ≠ 3 ∨ (s.reach h.at_).paired = false) ∧
     (s.heard h true).driftStopped = false ∧ (s.heard h true).isHead = false) ∧
    (let s : State := stn
     let h : FrameHeader := { hdr with src := 1, claim := 0x10 }
     let v : PriceBody := ⟨0, 1, 1, 1, 0, 0, [0x3FF0000000000000]⟩
     let q : RoundInfo := info1
     let n : Nat := 1
     let b : Bytes := tmpl1
     let u := (s.heard h true).keepResult
     (s.reach h.at_).carried h ∧ (s.reach h.at_).accepts h true = .ok ∧ (h.port ≠ 3 ∨ (s.reach h.at_).paired = false) ∧
     u.curRound = some q ∧ u.drift.st.tmpl = some (n, b) ∧ u.driftStopped = false ∧ u.isHead = false ∧ q.stop = false ∧
     v.period.toNat = q.period ∧ v.round.toNat = q.round ∧ v.branch.toNat = tBranch b ∧ v.prices.length = tK b ∧
     (∀ w, u.drift.st.work = some w → ¬(w.info.period = q.period ∧ w.info.round = q.round)) ∧
     u.solv.batches.length < 64 ∧ u.memAdmits .seq 0 (tBase b) (u.probAt (tBase b)).recLen = true ∧
     u.memAdmits .seq 1 (tWork b) (u.probAt (tBase b)).recLen = true) ∧
    (let s : State := { stn with mem := cells 0x1040000 rec1 ++ cells 0x1050000 ([0, 0, 1, 1] ++ List.replicate 44 0 ++ leBytes 4 5 ++ List.replicate 4 0 ++ [1, 1] ++ List.replicate 22 0), drift := { stn.drift with st := { stn.drift.st with historyOf := 0, work := some { claim := 0, crc := 0, batch := 5, info := info1, tmpl := (1, tmpl1), out := some ⟨0, 1, 0, false, [5]⟩ } } } }
     let at_ : Nat := 1000900000
     let q : RoundInfo := info1
     let w : Assembled := { claim := 0, crc := 0, batch := 5, info := info1, tmpl := (1, tmpl1), out := some ⟨0, 1, 0, false, [5]⟩ }
     let o : Solved := ⟨0, 1, 0, false, [5]⟩
     let u := (s.reach at_).keepResult
     u.curRound = some q ∧ u.driftStopped = false ∧ u.isHead = false ∧ q.stop = false ∧ u.drift.st.work = some w ∧
     w.info.period = q.period ∧ w.info.round = q.round ∧ w.out = some o ∧ o.status ≠ 0x0108 ∧ o.flags.getLsbD 0 = true ∧
     u.schedMatches q = true ∧ at_ < u.bidAt q ∧ u.drift.st.ended ≠ some (q.period, q.round)) ∧
    (let s : State := inRound
     let h : FrameHeader := hdr
     let v : BidBody := ⟨0, 1, 0, 0, 0, 0, 1, BitVec.ofNat 32 (priceCrc (inRound.headBranch 0).lam), [0]⟩
     let w := s.reach h.at_
     (s.reach h.at_).carried h ∧ (s.reach h.at_).accepts h false = .ok ∧ (h.port ≠ 3 ∨ (s.reach h.at_).paired = false) ∧
     (s.reach h.at_).driftStopped = false ∧ (s.reach h.at_).isHead = true ∧ w.bidFails h v = 0) ∧
    (let s : State := inRound
     let at_ : Nat := 1002000000
     let u := s.reach at_
     let d := u.drift.hd
     let b := d.net.getD []
     u.driftStopped = false ∧ u.isHead = true ∧ d.started ≠ none ∧ d.ran = true ∧ d.closed ≠ d.round ∧
     u.roundAt d.period d.round + (leAt b 8 4 + leAt b 16 4) * 1000 ≤ at_ ∧ ((netStations b).map fun x => x.addr).Nodup ∧
     d.round = u.rounds) ∧
    (let s : State := inRound.setHd fun h => { h with final := 1, closed := 1 }
     let at_ : Nat := 3000000000
     let u := s.reach at_
     let d := u.drift.hd
     let x : NetStation := ⟨2, 0, 0, 1, 1, 128⟩
     u.driftStopped = false ∧ u.isHead = true ∧ d.ran = true ∧ d.final ≠ 0 ∧ at_ = u.commitAt d.period ∧
     u.standby = false ∧ x ∈ netStations (d.net.getD [])) ∧
    (let s : State := stn.setSt fun t => { t with history := [(1, [7], [8])] }
     let h : FrameHeader := { hdr with src := 1, claim := 0x10, at_ := 3000000000 }
     let v : PlanBody := ⟨0, 1, 1, 0, [1]⟩
     let n : Nat := 1
     let b : Bytes := tmpl1
     let k : Nat := 0
     let x : Nat × List W64 × List W64 := (1, [7], [8])
     let u := (s.heard h true).keepResult
     let pos := u.drift.st.place.1
     let code := (v.src.getD (pos - 1) 0x1F).toNat
     (s.reach h.at_).carried h ∧ (s.reach h.at_).accepts h true = .ok ∧ (h.port ≠ 3 ∨ (s.reach h.at_).paired = false) ∧
     u.drift.st.tmpl = some (n, b) ∧ u.periodAt u.now = some k ∧ u.driftStopped = false ∧ u.isHead = false ∧
     v.period.toNat = k % 2 ^ 32 ∧ v.chain.toNat = tChain b ∧ 1 ≤ pos ∧ pos ≤ v.npos.toNat ∧ 1 ≤ code ∧ code ≤ 16 ∧
     u.drift.st.historyOf = v.period.toNat ∧ (u.drift.st.history.find? fun e => e.1 == code) = some x) ∧
    (let s : State := { (stn.setSt fun t => { t with lastPlan := some 0 }) with drift := { (stn.setSt fun t => { t with lastPlan := some 0 }).drift with hold := 1 } }
     let at_ : Nat := 8000000000
     let j : Nat := 0
     let u := s.reach at_
     u.drift.st.lastPlan = some j ∧ u.isHead = false ∧ u.drift.st.expired = false ∧
     u.periodStart (j + 1 + u.drift.hold) ≤ at_) ∧
    (let s : State := { (ready.setBit 0x30058 1 true).setBit 0x30004 0 true with loop := { ready.loop with plan := some (List.replicate 64 5, 10000) } }
     let at_ : Nat := 10000
     let l : List W64 := List.replicate 64 5
     let eff : Nat := 10000
     let j : Nat := 63
     (s.reach at_).ticks at_ = true ∧ s.loop.plan = some (l, eff) ∧ l.length = 64 ∧ eff ≤ at_ ∧ j < 64) ∧
    (let s : State := { (ready.setBit 0x30058 1 true).setBit 0x30004 0 true with loop := { ready.loop with plan := some (List.replicate 64 5, 10000) } }
     let m : Master := .firn
     s.regDenied m 0x30058 true = none ∧ (m = .seq ∨ m = .firn)) ∧
    (let s : State := loopMan.setBit 0x30004 0 true
     let at_ : Nat := 100000
     let u := s.reach at_
     let v := u.applyPlan at_
     let due := v.dueLoops (at_ / 10000)
     let k : Nat := 0
     at_ % 10000 = 0 ∧ u.bit 0x30004 0 = true ∧ u.persMismatch = false ∧ k ∈ due) ∧
    (let s : State := { loopMan with loop := { loopMan.loop with proposal := some tune1 } }
     let t : Tune := tune1
     let q := proposal t (cFlag (s.lcfg t.loop) 2) (cPeriod (s.lcfg t.loop))
     s.loop.proposal = some t ∧ t.loop ≤ 255 ∧ (q.1 :: q.2).all dFinite = true) ∧
    (let s : State := loopMan
     let m : Master := .seq
     let loop : Byte := 0
     let k := loop.toNat
     let mode : Byte := 1
     s.regDenied m (lReg k 0xC) true = none ∧ loopWriter m = true ∧ mode.toNat % 8 ≤ 2 ∧ s.frozen = false ∧
     (mode.toNat % 8 = 0 ∨ s.loopLive k = true)) ∧
    (let s : State := loopMan
     let m : Master := .seq
     let loop : Byte := 0
     let k := loop.toNat
     s.regDenied m (lReg k 0xC) true = none ∧ loopWriter m = true ∧ s.swapRefusal k = 0) ∧
    (let s : State := { loopMan with loop := { loopMan.loop with tune := some { tune1 with prev := none } } }
     let m : Master := .seq
     let loop : Byte := 0
     let k := loop.toNat
     let t : Tune := { tune1 with prev := none }
     s.regDenied m (lReg k 0xC) true = none ∧ loopWriter m = true ∧ s.tuneOf k = some t) ∧
    (let s : State := loopMan
     s.regDenied .firn 0x30024 false = none) ∧
    (let s : State := cycOn
     let task : Byte := 0
     let at_ : Nat := 1000000
     let p : Program := prog1
     let d : TaskDef := task0
     let u := s.reach at_
     u.cycState = 2 ∧ u.cyc.act = some p ∧ p.task? task.toNat = some d ∧ u.persMismatch = false ∧ u.overdue at_ = [] ∧
     releasedAt d at_ = true ∧ u.cyc.first ≤ at_ ∧ u.inCycle task.toNat = false) ∧
    (let s : State := { cycOn with cyc := { (cycOn).cyc with reqs := [⟨0, false, 0⟩] } }
     let at_ : Nat := 1000000
     let r : EngReq := ⟨0, false, 0⟩
     let rest : List EngReq := []
     let p : Program := prog1
     let d : TaskDef := task0
     let v := (s.reach at_).doLatch p d
     s.cyc.reqs = r :: rest ∧ r.isCommit = false ∧ s.progOfTask r.task = some p ∧ s.defOfTask r.task = some d ∧
     s.persMismatch = false ∧ s.overdue at_ = [] ∧ (v.dirtyOf d).length ≤ 1024) ∧
    (let s : State := cycOn.setPhase 0 3
     let m : Master := .cyc0
     let task : Byte := 0
     let st : Stores := ⟨[(0x800000, [5])]⟩
     let d : TaskDef := task0
     let u := st.writes.foldl (fun t w => t.logicStore m w) s
     2 ≤ masterId m ∧ masterId m ≤ 5 ∧ s.curTask (masterId m - 2) = some d ∧ d.task = task.toNat ∧
     s.persMismatch = false ∧ u.regDenied m 0x40020 true = none ∧ (u.dirtyOf d).length ≤ 1024) ∧
    (let s : State := { cycOn with cyc := { (cycOn).cyc with reqs := [⟨0, true, 0⟩] } }
     let at_ : Nat := 1000000
     let r : EngReq := ⟨0, true, 0⟩
     let rest : List EngReq := []
     let p : Program := prog1
     let d : TaskDef := task0
     s.cyc.reqs = r :: rest ∧ r.isCommit = true ∧ (∀ x ∈ s.cyc.drains, x.task ≠ r.task) ∧ s.progOfTask r.task = some p ∧
     s.defOfTask r.task = some d ∧ s.persMismatch = false ∧ s.overdue at_ = [] ∧
     (((s.reach at_).applyForces p r.task [1, 2, 3]).dirtyOf d).length ≤ 1024) ∧
    (let s : State := cycOn.setPhase 0 3
     let task : Byte := 0
     let at_ : Nat := 1000000
     let d : TaskDef := task0
     s.persMismatch = false ∧ d ∈ s.overdue at_ ∧ d.task = task.toNat ∧ s.overdue at_ = [d]) ∧
    (let s : State := cycOn.setPhase 0 3
     let task : Byte := 0
     s.tphase task.toNat = 3) ∧
    (let s : State := { (cycOn.setBit 0x40300 31 true) with cyc := { (cycOn.setBit 0x40300 31 true).cyc with drains := [⟨0, 0, []⟩] } }
     let x : Drain := ⟨0, 0, []⟩
     let rest : List Drain := []
     s.cyc.drains = x :: rest ∧ s.bit (markReg x.task) 31 = true ∧ s.pwr.pfw = false) ∧
    (let s : State := { cycOn with cyc := { cycOn.cyc with pend := some { prog1 with base := 5, ver := 6 } } }.setCycState 3
     let at_ : Nat := 2000000
     (s.reach at_).cycState = 3 ∧ (s.reach at_).switchAt ≤ at_) ∧
    (let s : State := cycOn
     let g : Byte := 1
     let at_ : Nat := 1000000
     let p : Program := prog1
     let r : Remote := rem1
     s.cyc.act = some p ∧ (p.publications.find? fun r => r.group == g.toNat) = some r ∧
     tickOf at_ r.phase r.interval = true) ∧
    (let s : State := cycOn
     let h : FrameHeader := { hdr with claim := 0x10 }
     let b : ValuesBody := ⟨3, 7, [5]⟩
     let u := s.heard h false
     let l := u.numbered.filter fun p => p.2.ty == 3 && p.2.peer == h.src.toNat && p.2.group == b.group.toNat && p.2.count == b.values.length
     let p : Nat × Remote := l.headD (0, rem3)
     (s.reach h.at_).carried h ∧ (s.reach h.at_).accepts h false = .ok ∧ (h.port ≠ 3 ∨ (s.reach h.at_).paired = false) ∧
     p ∈ l) ∧
    (let s : State := cycOn.setSub rem3 { got := true }
     let at_ : Nat := 1000000
     let n : Nat := 0
     let r : Remote := rem3
     let u := s.reach at_
     (u.numbered.filter fun p => p.2.ty == 3 && tickOf at_ p.2.phase p.2.interval) = [(n, r)] ∧ (u.subRun r).got = true) ∧
    (let s : State := cycOn
     let h : FrameHeader := { hdr with claim := 0x10 }
     let b : ValuesBody := ⟨4, 7, [5]⟩
     let u := s.heard h true
     let mine := (u.numbered.map fun p => p.2).filter fun r => r.ty == 4 && r.peer == h.src.toNat && r.group == b.group.toNat
     let fit := mine.filter fun r => r.count == b.values.length
     let r : Remote := rem4
     (s.reach h.at_).carried h ∧ (s.reach h.at_).accepts h true = .ok ∧ (h.port ≠ 3 ∨ (s.reach h.at_).paired = false) ∧
     r ∈ fit) ∧
    (let s : State := cycOn
     let h : FrameHeader := { hdr with claim := 0x10 }
     let b : AckBody := ⟨2, 0, 0⟩
     let p : Program := prog1
     let r : Remote := rem2
     let u := s.heard h false
     (s.reach h.at_).carried h ∧ (s.reach h.at_).accepts h false = .ok ∧ (h.port ≠ 3 ∨ (s.reach h.at_).paired = false) ∧
     u.cyc.act = some p ∧
     (p.remotes.find? fun r => r.ty == 2 && r.group == b.group.toNat && r.peer == h.src.toNat) = some r ∧ b.result = 0 ∧
     b.seq.toNat = (u.group b.group.toNat).seq) ∧
    (let s : State := cycOn.setSub rem4 { holding := true }
     let at_ : Nat := 100000000000
     let n : Nat := 1
     let r : Remote := rem4
     let u := s.reach at_
     (u.numbered.filter fun p => p.2.ty == 4 && (u.subRun p.2).holding && decide ((u.subRun p.2).since + u.drift.hold * u.districtNs ≤ at_)) = [(n, r)]) ∧
    (let s : State := { cycOn with port := { cycOn.port with groups := [⟨1, 0, 5, 2, 0, 1, 100, 0⟩] } }
     let g : Byte := 1
     let at_ : Nat := 1000000
     let v : ValueGroup := ⟨1, 0, 5, 2, 0, 1, 100, 0⟩
     (s.port.groups.find? fun v => v.group == g.toNat) = some v ∧ tickOf at_ v.phase v.interval = true) ∧
    (let s : State := { queued with mb := { queued.mb with outstanding := [{ id := 0, cmd := .solvBatchWait iss 1 0, iss := iss, ref := 1 }] } }
     let n : W32 := 1
     let o : Outst := { id := 0, cmd := .solvBatchWait iss 1 0, iss := iss, ref := 1 }
     let b : Batch := batch1
     s.firstWait n.toNat = some o ∧ s.batch n.toNat = some b) :=
  ⟨witness_batchesAreQueued.2.2, witness_problemsRunOnLanes.2.1, witness_problemsRunOnLanes.2.2.2.1,
    witness_problemsRunOnLanes.2.2.2.2.2.2.1, witness_problemsRunOnLanes.2.2.2.2.2.2.2.2, witness_headRunsItsRounds.1,
    witness_stationBidsInRounds.1, witness_stationBidsInRounds.2.1, witness_stationBidsInRounds.2.2.1,
    witness_headRunsItsRounds.2.2.1, witness_headRunsItsRounds.2.2.2.2.1, witness_headRunsItsRounds.2.2.2.2.2.2.2,
    witness_stationStagesPlans.1, witness_stationStagesPlans.2, witness_plansAreAppliedWhole.2.2.2.1,
    witness_plansAreAppliedWhole.2.1, witness_ticksEvaluateDueLoops.2, witness_tuneProposalsGoToTheInactiveBank.2.1,
    witness_loopRegistersMakeRequests.2.2.1, witness_loopRegistersMakeRequests.2.2.2.2.1,
    witness_loopRegistersMakeRequests.2.2.2.2.2.2.1, witness_loopRegistersMakeRequests.2.2.2.2.2.2.2.2.2.2,
    witness_tasksRunTheirCycle.1, witness_tasksRunTheirCycle.2.2.1, witness_tasksRunTheirCycle.2.2.2.2.1,
    witness_tasksRunTheirCycle.2.2.2.2.2.2.1, witness_tasksRunTheirCycle.2.2.2.2.2.2.2.1,
    witness_tasksRunTheirCycle.2.2.2.2.2.2.2.2.2.1, witness_tasksRunTheirCycle.2.2.2.2.2.2.2.2.2.2.1,
    witness_tasksRunTheirCycle.2.2.2.2.2.2.2.2.2.2.2.1, witness_remoteValuesArrive.1, witness_remoteValuesArrive.2.2.1,
    witness_remoteValuesArrive.2.2.2.2.1, witness_remoteValuesArrive.2.2.2.2.2.2.1,
    witness_remoteValuesArrive.2.2.2.2.2.2.2.2.1, witness_remoteValuesArrive.2.2.2.2.2.2.2.2.2,
    witness_remoteValuesArrive.2.1, witness_solverCommandsAnswer.2.2.2.2.2.2⟩

theorem witness_meterTimeAndCalendarEventsComplete :
    (let s : State := ready.setBit 0x50004 0 true
     let at_ : Nat := 100000000
     let x : Samples := ⟨rest⟩
     let u := s.reach at_
     let c : Nat := 0
     u.intervalDue at_ = true ∧ samplesOk x.phases = true ∧ c ≤ 15) ∧
    (let s : State := { ready with mtr := { ready.mtr with save := some (3, 0, List.replicate 2048 7) } }
     let q : Nat := 3
     let k : Nat := 0
     let b : Bytes := List.replicate 2048 7
     let j : Nat := 2047
     s.mtr.save = some (q, k, b) ∧ (∀ o ∈ s.mb.outstanding, o.ref ≠ q) ∧ b.length = 2048 ∧
     (∀ j < 2048, s.poisoned (saveAddr q + j) = false) ∧ j < 2048) ∧
    (let w : MeterWindow := ⟨rest, [], []⟩
     let k : Nat := 0
     samplesOk w.phases = true ∧ k < 8) ∧
    (let s : State := ready
     let c : Byte := 0
     let cause : Byte := 2
     c.toNat ≤ 15 ∧ (cause = 1 ∨ cause = 2) ∧ s.chFaulted c.toNat = false) ∧
    (let s : State := ready.setBit (chReg 0) 0 true
     let c : Byte := 0
     c.toNat ≤ 15 ∧ s.chFaulted c.toNat = true) ∧
    (let s : State := (ready.setBit 0xA0004 0 true).wr (poutReg 0 8) 2
     let at_ : Nat := 0
     let u := s.reach at_
     let k : Nat := 0
     let p := kget {} u.mtr.pulse k
     let n := u.fld (poutReg k 8) 15 0
     u.outputsHeld = false ∧ u.outputsDriven = true ∧ k < 4 ∧ p.stop ≤ at_ ∧ p.next ≤ at_ ∧ n ≠ 0) ∧
    (let s : State := ready
     let h : HostId := .hostp
     let p : Byte := 0
     let k := p.toNat
     let mine := s.qpActive k = true ∧ s.fld (qpReg k 0x1C) 13 12 = ownerCode h
     p.toNat ≤ 7 ∧ s.hostOn h = true ∧ ¬ mine) ∧
    (let s : State := ready
     let c : Byte := 0
     c.toNat ≤ 3 ∧ s.pwr.lost.getLsbD 6 = false) ∧
    (let s : State := ready
     let c : Byte := 0
     let j : Nat := 0
     c.toNat ≤ 3 ∧ s.regDenied .mtr (0x513F0 + 0x100 * c.toNat) true = none ∧ j < 24) ∧
    (let s : State := ready
     let m : Master := .firn
     s.regDenied m 0x51700 true = none) ∧
    (let s : State := { ready with mtr := { ready.mtr with cal := some { id := 0, channel := 1, kind := 1, ref := 0, seconds := 1, left := some 0 } } }
     let r : CalRun := { id := 0, channel := 1, kind := 1, ref := 0, seconds := 1, left := some 0 }
     let c : Nat := 2
     s.mtr.cal = some r ∧ r.left = some 0 ∧ r.channel ≤ 15 ∧ c ≤ 15) ∧
    (let s : State := { (ready.setBit aFeed 0 false).setBit aFeed 1 false with mtr := { ready.mtr with save := some (3, 0, List.replicate 2048 7) } }
     s.bit aFeed 0 = false ∧ s.bit aFeed 1 = false ∧ (∀ x ∈ s.cyc.drains, x.task ≤ 15)) ∧
    (let s : State := (ready.setFld 0x60004 2 0 1)
     let m : Master := .firn
     let u := s.timeEdges 3
     s.regDenied m 0x60028 true = none ∧ s.servoWriter m = true ∧ u.timeState = 1 ∧ u.time.ptp.refsrc ≠ 0 ∧
     (u.rd 0x60024).toInt.natAbs ≤ (u.rd 0x60040).toNat) ∧
    (let s : State := ready.wrAll [(0x60030, 100), (0x60038, 7)]
     let m : Master := .firn
     let u := s.timeEdges 3
     s.regDenied m 0x60028 true = none ∧ s.servoWriter m = true ∧ u.timeState = 0 ∧ u.time.pendStep = none ∧
     u.now < (s.rd64 0x60030).toNat) ∧
    (let s : State := ready
     let m : Master := .firn
     let u := s.timeEdges 3
     s.regDenied m 0x60028 true = none ∧ s.servoWriter m = true ∧
     (u.timeState ≠ 0 ∨ u.time.pendStep ≠ none ∨ (s.rd64 0x60030).toNat ≤ u.now)) ∧
    (let s : State := { ready with time := { ready.time with pendStep := some (1, 2) } }
     let at_ : W64 := 1
     let v : W64 := 2
     s.time.pendStep = some (at_, v)) ∧
    (let s : State := ready
     let m : Master := .firn
     s.regDenied m 0x60020 true = none ∧ s.servoWriter m = true ∧ s.time.pendStep = none) ∧
    (let s : State := ready
     let m : Master := .firn
     s.regDenied m 0x60010 false = none) ∧
    (let s : State := { (ready.setFld 0x60004 2 0 2) with time := { (ready.setFld 0x60004 2 0 2).time with lastUpd := some 0 } }
     s.timeState = 2 ∧ s.time.ptp.refsrc ≠ 0) ∧
    (let s : State := (ready.setFld 0x60060 1 0 1)
     let at_ : Nat := 0
     let u := s.reach at_
     let mode := u.fld 0x60060 1 0
     let rises := u.firstEdgeOf at_ = true ∧ ((at_ : Int) - (u.rd 0x60068).toInt) % 1000000000 = 0 ∧ (mode = 1 ∨ (mode = 2 ∧ u.timeState = 2))
     rises) ∧
    (let s : State := ready.wr (tpReg 0 0x200) 1
     let p : Byte := 0
     let r : Bool := true
     let at_ : Nat := 0
     let u := s.reach at_
     let mode := u.fld (tpReg p.toNat 0x200) 2 0
     let takes := mode = 3 ∨ (mode = 1 ∧ r = true) ∨ (mode = 2 ∧ r = false)
     p.toNat < 4 ∧ takes ∧ (kget [] u.time.fifo p.toNat).length < 16) ∧
    (let s : State := { (ready.wr (tpReg 0 0x200) 4) with time := { (ready.wr (tpReg 0 0x200) 4).time with armed := 1 } }
     let p : Byte := 0
     let at_ : Nat := 5
     let u := s.reach (s.compareAt p.toNat at_)
     p.toNat < 4 ∧ u.compareDue p.toNat at_ = true ∧ u.fld (tpReg p.toNat 0x200) 2 0 = 4) ∧
    (let s : State := ready
     let m : Master := .firn
     let p : Byte := 0
     p.toNat < 4 ∧ s.regDenied m (tpReg p.toNat 0x208) true = none ∧ eventWriter m = true) ∧
    (let s : State := { ready with time := { ready.time with fifo := [(0, [9])] } }
     let m : Master := .firn
     let p : Byte := 0
     let v : W64 := 9
     let rest : List W64 := []
     p.toNat < 4 ∧ s.regDenied m (0x60214 + 0x20 * p.toNat) false = none ∧ kget [] s.time.fifo p.toNat = v :: rest) ∧
    (let s : State := ready.wrAll [(0x70030, 0x58), (0x70034, 0x59), (0x70038, 0x23), (0x70040, 0x29), (0x70044, 0x02), (0x70048, 0x24)]
     let m : Master := .firn
     let n : Nat := 762566398
     s.regDenied m 0x70004 true = none ∧ calWriter m = true ∧ s.calStaged = some n) ∧
    (let s : State := head
     let m : Master := .firn
     let f : Nat := 6
     s.regDenied m 0x70004 true = none ∧ calWriter m = true ∧ s.isHead = true ∧ f < 7) ∧
    (let s : State := (ready.setBit 0x70008 0 true)
     let m : Master := .firn
     s.regDenied m 0x70004 true = none ∧ calWriter m = true ∧ s.shiftRefused true false = false) ∧
    (let s : State := ((ready.setBit 0x70008 0 true).setBit 0x70008 1 true).setCal fun c => { c with secs := 3600 }
     let m : Master := .firn
     s.regDenied m 0x70004 true = none ∧ calWriter m = true ∧ s.shiftRefused false false = false) ∧
    (let s : State := ready
     let m : Master := .firn
     let f : Byte := 6
     f.toNat ≤ 6 ∧ s.regDenied m (0x70010 + 4 * f.toNat) false = none ∧ s.isHead = false ∧ f.toNat = 6) ∧
    (let s : State := ready.setCal fun c => { c with meas := some { id := 0, source := 2, seconds := 10, left := some 0, endNs := 10000100000 } }
     let r : TrimRun := { id := 0, source := 2, seconds := 10, left := some 0, endNs := 10000100000 }
     let n : Int := if r.source = 2 then (r.endNs : Int) - r.ns else (((r.endZc + 2 ^ 32 - r.zc) % 2 ^ 32 : Nat) : Int)
     s.cal.meas = some r ∧ r.left = some 0 ∧ r.lost = false ∧ 0 < n) :=
  ⟨witness_intervalsAreCommitted.2.1, witness_savesAreWritten.2.1, witness_meteringEventsTakeEffect.2.2.2.1,
    witness_meteringEventsTakeEffect.1, witness_meteringEventsTakeEffect.2.1,
    witness_meteringEventsTakeEffect.2.2.2.2.2.1, witness_doorbellIsJudgedInOrder.1,
    witness_meteringEventsTakeEffect.2.2.2.2.2.2.2.2.1, witness_meteringEventsTakeEffect.2.2.2.2.2.2.2.2.2.2.1,
    witness_meterReadingsAnswer.2.2.2.2.2.1, witness_meterReadingsAnswer.2.2.2.2.2.2.2, witness_savesAreWritten.2.2.2,
    witness_servoMovesTheTimeBase.2.2.2.2.2.1, witness_theTimeBaseStepsOnce.2.2.2.2.1,
    witness_theTimeBaseStepsOnce.2.2.2.2.2.1, witness_theTimeBaseStepsOnce.2.2.2.2.2.2.2,
    witness_servoMovesTheTimeBase.2.2.2.2.2.2.2.1, witness_timeEventsAreStamped.1,
    witness_servoMovesTheTimeBase.2.2.2.2.2.2.2.2.2.1, witness_timeEventsAreStamped.2.1,
    witness_timeEventsAreStamped.2.2.2.1, witness_timeEventsAreStamped.2.2.2.2.2.2.1,
    witness_timeEventsAreStamped.2.2.2.2.2.2.2.2.1, witness_timeEventsAreStamped.2.2.2.2.2.2.2.2.2.2,
    witness_theCalendarAdvances.2.2.2.2.2.2.1, witness_theCalendarAdvances.2.2.2.2.2.2.2.2.1,
    witness_theCalendarAdvances.2.2.2.2.2.2.2.2.2.2.2.2.1, witness_theCalendarAdvances.2.2.2.2.2.2.2.2.2.2.2.2.2.1,
    witness_theCalendarAdvances.2.2.2.2.2.2.2.2.2.2.2.2.2.2.2.1,
    witness_theCalendarAdvances.2.2.2.2.2.2.2.2.2.2.2.2.2.2.2.2.2.2⟩

theorem witness_portAndPairEventsComplete :
    (let s : State := ready.setBit aFeed 1 true
     let f : Byte := 1
     f.toNat ≤ 1 ∧ s.bit aFeed f.toNat = true) ∧
    (let f : Byte := 0
     f.toNat ≤ 1) ∧
    (let s : State := { net with port := { net.port with queues := [(0, [qf1])] } }
     let p : Byte := 0
     let b : Nat := 1000
     let iv : Nat := 400
     let st : Nat := 0
     let fr : Nat := 0
     let t0 := s.internalOf p.toNat b
     let v := (s.reach t0).applyGates
     let u := (List.range 8).foldl (fun x q => x.dropLate p.toNat q b 64) v
     let q : Nat := 0
     let f : QFrame := qf1
     p.toNat ≤ 2 ∧ v.linkUp p.toNat = true ∧ v.boundaryIs p.toNat b iv st fr = true ∧ u.idleAt p.toNat b = true ∧
     u.nextFrame p.toNat t0 b = some (q, f) ∧ f.origin = .own ∧ f.oneStep = false ∧ f.residence = none ∧
     f.bytes.length ≤ 1518 ∧ (u.portCfg p.toNat).required = false ∧ u.driftWaiting p.toNat = []) ∧
    (let s : State := (net.setBit (pReg 1 0x104) 0 true)
     let p : Byte := 0
     let f : RxFrame := { rxf with bytes := frame1 }
     let u := s.reach f.at_
     u.cutsThrough p.toNat f = true ∧ u.linkUp (1 - p.toNat) = true ∧ u.abortCause p.toNat f = 0 ∧ u.tcOn = false ∧
     (u.portCfg (1 - p.toNat)).required = false ∧ f.bytes.length ≤ 1518) ∧
    (let s : State := net
     let p : Byte := 0
     let f : RxFrame := { rxf with bytes := frame1 }
     let u := s.reach f.at_
     p.toNat ≤ 3 ∧ u.switching = true ∧ u.abortCause p.toNat f = 0 ∧ u.pairBars p.toNat f.bytes = false ∧
     (∀ q, q ≤ 3 → (u.portCfg q).defQ ≤ 7) ∧ etherType f.bytes ≠ 0x8808 ∧ isField f.bytes = false ∧
     u.port.addr.length < 1024) ∧
    (let s : State := { net with mem := cells 0x1000004 [64, 0, 0, 0x80], port := { net.port with queues := [(0, List.replicate 64 qf1)] } }.wr 0x80018 0x1000000
     let m : Master := .net0
     let v : W32 := 1
     let u := s.setFld 0x8001C 7 0 v.toNat
     let t := u.txDescriptor s.port.txIdx
     s.regDenied m 0x8001C true = none ∧ netWriter m = true ∧ s.port.txIdx ≠ v.toNat % 256 ∧
     (t.port.txIdx + 1) % 256 = t.fld 0x8001C 7 0) ∧
    (let s : State := ready
     let p : Byte := 0
     let v : Byte := 1
     p.toNat ≤ 2 ∧ s.subOn (0x10 + p.toNat) = true ∧ s.bit aDomBusy (0x10 + p.toNat) = false ∧
     s.speedOk p.toNat v.toNat = true) ∧
    (let s : State := net
     let i : Issue := iss
     let p : Byte := 0
     let q : Byte := 0
     let l : W64 := 0
     let buf : Buf := buf 64
     let b := s.rdBuf buf
     s.admits { op := 0x0908, plen := 18, frozenNo := true, async := true } i ∧ p.toNat ≤ 3 ∧ q.toNat ≤ 7 ∧
     14 ≤ b.length ∧ s.bufOk i.host false buf = true ∧ l.toNat ≤ s.now + 16000000000 ∧
     (isCmdFrame b = true → s.standby = false ∧ s.persMismatch = false) ∧ (isField b = true → s.address ≠ 0) ∧
     s.linkUp p.toNat = true ∧ s.pairBars p.toNat b = false ∧ driftStops (s.portCfg p.toNat) p.toNat b = false ∧
     s.hasRoom p.toNat q.toNat b.length = true) ∧
    (let s : State := ready
     let m : Master := .firn
     let k : Byte := 0
     k.toNat ≤ 3 ∧ s.regDenied m (0x80600 + 0x20 * k.toNat) true = none ∧ uartWriter m = true ∧
     kfind s.port.utx k.toNat = none) ∧
    (let s : State := { ready with port := { ready.port with utx := [(0, ⟨none, 0, 0, 4, 0, 0⟩)] } }
     let k : Byte := 0
     let st : Nat := 0
     let x : UartTx := ⟨none, 0, 0, 4, 0, 0⟩
     kfind s.port.utx k.toNat = some x ∧ x.launch ≤ st ∧ x.command = none ∧ kget [] s.port.uwait k.toNat = []) ∧
    (let s : State := pairIn 3
     let at_ : Nat := 0
     let u := s.reach at_
     at_ % 1000000 = 0 ∧ u.pair.alive = true ∧ u.pair.pfail = false ∧ u.paired = true ∧ u.address ≠ 0 ∧
     u.linkUp 3 = true ∧ u.hasRoom 3 7 54 = true) ∧
    (let s : State := pairIn 3
     let h : FrameHeader := hdr
     let b : HeartbeatBody := { state := 2, flags := 0, hbseq := 1, epoch := 0 }
     let u := s.reach h.at_
     (s.reach h.at_).carried h ∧ (s.reach h.at_).accepts h false = .ok ∧ u.hbValid h b = true ∧ u.pairState = 3 ∧
     b.flags.getLsbD 7 = false ∧ b.state = 2 ∧ b.flags.getLsbD 1 = false) ∧
    (let s : State := pairIn 3
     let at_ : Nat := 500000
     let u := s.reach at_
     u.paired = true ∧ at_ % 1000000 = 500000 ∧ u.pair.seen = false) ∧
    (let s : State := pairIn 1
     let e : Nat := 4000
     let w := s.pair.cfg.startWait * (if s.pair.cfg.primary then 1 else 2)
     s.pairState = 1 ∧ s.ilIn = false ∧ w ≤ e ∧ s.topEpoch < 0xFFFFFF) ∧
    (let s : State := pairIn 3
     s.regDenied .firn aPairCtrl true = none ∧ s.pairState ≠ 4) ∧
    (let s : State := pairIn 2
     s.pair.alive = true ∧ s.paired = true ∧ s.pairState < 7) ∧
    (let s : State := { (pairIn 2) with pair := { ((pairIn 2)).pair with dirty := [5] } }
     let at_ : Nat := 0
     let u := (s.reach at_).wr aMbytes 0
     let n := 64 * u.pair.dirty.length
     (s.reach at_).mirrorInstant at_ = true ∧ u.pairState = 2 ∧ u.pair.mirrorOff = false ∧ n ≤ 0x200000) ∧
    (let s : State := { (pairIn 2) with pair := { ((pairIn 2)).pair with dirty := [5] } }
     let m : Master := .seq
     let n := 64 * s.pair.dirty.length
     (m = .seq ∨ m = .firn) ∧ s.regDenied m 0x90034 true = none ∧ s.pairState = 2 ∧ s.pair.mirrorOff = false ∧
     n ≤ 0x200000 ∧ (s.rd aMbytes).toNat + n ≤ 0x800000) ∧
    (let s : State := pairIn 3
     let h : FrameHeader := hdr
     let u := s.reach h.at_
     (s.reach h.at_).carried h ∧ (s.reach h.at_).accepts h false = .ok ∧ u.fromPartner h = true ∧
     (u.pairState = 3 ∨ u.pairState = 5) ∧ u.pair.staged = none) ∧
    (let s : State := { (pairIn 3) with pair := { ((pairIn 3)).pair with staged := some (1, 0, line1) } }
     let h : FrameHeader := hdr
     let u := s.reach h.at_
     let e : MirrorEndBody := ⟨1, 1, 0⟩
     let f : Byte := 0
     let l : List (W32 × Bytes) := line1
     let a : W32 := 0x1000000
     let bs : Bytes := List.replicate 64 7
     let j : Nat := 63
     (s.reach h.at_).carried h ∧ (s.reach h.at_).accepts h false = .ok ∧ u.fromPartner h = true ∧ u.pairState = 3 ∧
     u.pair.rsFirst = false ∧ u.pair.staged = some (e.mseq, f, l) ∧ e.mseq = u.rd aMseq + 1 ∧ l.length = e.lines.toNat ∧
     l = [(a, bs)] ∧ a.toNat + 64 ≤ 0x02000000 ∧ bs.length = 64 ∧ (∀ j < 64, u.poisoned (a.toNat + j) = false) ∧ j < 64) ∧
    (let s : State := pairIn 3
     let h : FrameHeader := hdr
     let u := s.reach h.at_
     let r : Regions := ⟨List.replicate 80 (0x1000000, 0)⟩
     let k : Nat := 79
     let p : W32 × W32 := (0x1000000, 0)
     (s.reach h.at_).carried h ∧ (s.reach h.at_).accepts h false = .ok ∧ u.fromPartner h = true ∧
     (u.pairState = 3 ∨ u.pairState = 4 ∨ u.pairState = 5) ∧ k < 80 ∧ r.entries[k]? = some p) ∧
    (let s : State := pairIn 2
     let at_ : Nat := 3600000000000
     let u := s.reach at_
     let past := (u.now : Int) - (u.pair.activeSince + (u.pair.cfg.swapH * 3600000000000 : Nat))
     let due := u.pairState = 2 ∧ u.pair.cfg.swapH ≠ 0 ∧ u.swapInstant at_ = true ∧ 0 ≤ past
     due ∧ u.swapOk = true) ∧
    (let s : State := pairIn 3
     let h : FrameHeader := hdr
     let u := s.reach h.at_
     (s.reach h.at_).carried h ∧ (s.reach h.at_).accepts h false = .ok ∧ u.fromPartner h = true ∧
     (u.pairState = 3 ∨ u.pairState = 4 ∨ u.pairState = 5) ∧ u.pairState = 3) ∧
    (let s : State := pairIn 6
     let h : FrameHeader := hdr
     let u := s.reach h.at_
     let c : W32 := 9
     (s.reach h.at_).carried h ∧ (s.reach h.at_).accepts h false = .ok ∧ u.fromPartner h = true ∧ u.pairState = 6 ∧
     (u.rd aClaim).toNat < c.toNat) ∧
    (let s : State := pairIn 6
     s.pairState = 6 ∧ s.pair.pState = 3 ∧ s.ilIn = false) ∧
    (let s : State := pairIn 2
     let h : FrameHeader := hdr
     let u := s.reach h.at_
     (s.reach h.at_).carried h ∧ (s.reach h.at_).accepts h false = .ok ∧ u.fromPartner h = true ∧ u.pairState = 2) ∧
    (let s : State := pairIn 5
     let h : FrameHeader := hdr
     let u := s.reach h.at_
     let m : W32 := 0
     (s.reach h.at_).carried h ∧ (s.reach h.at_).accepts h false = .ok ∧ u.fromPartner h = true ∧ u.pairState = 5 ∧
     u.rd aMseq = m ∧ u.pair.rsFirst = false) ∧
    (let s : State := pairIn 5
     s.pairState = 5) ∧
    (let s : State := (pairHigh 2).wr aPClaim 5
     let b : Bool := true
     b = (s.pairState == 2 && s.ilIn && decide ((s.rd aPClaim).toNat > (s.rd aClaim).toNat)) ∧ b = true) :=
  ⟨witness_linesAndWaitsDecide.2.2.2.2.2.2.2.2.2.2.2.2.2.2.2.1,
    witness_linesAndWaitsDecide.2.2.2.2.2.2.2.2.2.2.2.2.2.2.2.2.1, witness_framesPassTheSwitch.2.2.1,
    witness_framesPassTheSwitch.2.2.2.2.2.2.2.2.2.2.2.2.2, witness_framesPassTheSwitch.2.2.2.2.2.2.2.1,
    witness_framesAreHandedOver.2.2.2.2, witness_linksAndUartsRespond.2.1, witness_framesAreHandedOver.1,
    witness_linksAndUartsRespond.2.2.2.2.2.2.1, witness_linksAndUartsRespond.2.2.2.2.2.2.2.2.2.2,
    witness_heartbeatsDecideTheVoice.2.1, witness_heartbeatsDecideTheVoice.2.2.2.2.2.2.1,
    witness_heartbeatsDecideTheVoice.2.2.2.2.2.2.2.2.2.2.2.2.2.2, witness_linesAndWaitsDecide.2.2.2.2.2.1,
    witness_linesAndWaitsDecide.2.2.2.2.2.2.2.1, witness_linesAndWaitsDecide.2.2.2.2.2.2.2.2.2.2.1,
    witness_theMirrorFollows.2.2.1, witness_theMirrorFollows.2.2.2.2.2.1, witness_theMirrorFollows.2.2.2.2.2.2.2.2.1,
    witness_theMirrorFollows.2.2.2.2.2.2.2.2.2.1, witness_theMirrorFollows.2.2.2.2.2.2.2.2.2.2.2.2.1,
    witness_swapsAndResyncsEnd.2.1, witness_theMirrorFollows.2.2.2.2.2.2.2.2.2.2.2.1,
    witness_swapsAndResyncsEnd.2.2.2.2.2.1, witness_swapsAndResyncsEnd.2.2.2.2.2.2.2.2.2.1,
    witness_swapsAndResyncsEnd.2.2.2.2.2.2.1, witness_swapsAndResyncsEnd.2.2.2.2.2.2.2.1,
    witness_swapsAndResyncsEnd.2.2.2.2.2.2.2.2.2.2.2.2.1, witness_linesAndWaitsDecide.2.2.2.2.2.2.2.2.2.2.2.2.2.1⟩

theorem witness_faultAndLogEventsComplete :
    (let s : State := ready
     let m : Master := .firn
     let k : Byte := 0
     k.toNat ≤ 1 ∧ s.regDenied m (0xA0080 + 4 * k.toNat) true = none ∧ userWriter m = true) ∧
    (let s : State := { (ready.setBit 0xA0008 0 true) with boot := { ready.boot with goodDone := true } }
     let r : Sources := 0
     let g : Nat := 5
     s.frozen = true ∧ s.assertedWith r = [] ∧ s.onTrial = false ∧ g < 6) ∧
    (let s : State := { ready with boot := { ready.boot with goodDone := true } }
     let n : Byte := 191
     n.toNat < 192 ∧ s.onTrial = false) ∧
    (let s : State := ready.wrAll [(0xA0094, 0x97000000), (0xA006C, 0xFF)]
     let g : Byte := 23
     let l : Bool := true
     let k : Nat := 7
     let c := s.fld (0xA0090 + 4 * (k / 4)) (8 * (k % 4) + 7) (8 * (k % 4))
     g.toNat < 24 ∧ k < 8 ∧ c % 32 = g.toNat ∧ decide (c ≥ 128) = l) ∧
    (let s : State := ready
     let m : Master := .firn
     poster m = true ∧ s.regDenied m 0xB004C true = none ∧ s.log.fifo.length < 64) ∧
    (let s : State := { ready with log := { ready.log with unset := false, fifo := [⟨0x0C80, .firn, false, 0, 0, 0, 0, none⟩] } }
     let p : Posting := ⟨0x0C80, .firn, false, 0, 0, 0, 0, none⟩
     let r : List Posting := []
     let j : Nat := 0
     s.log.unset = false ∧ s.log.lostPend = 0 ∧ s.unflushed ≤ 4094 ∧ s.log.fifo = p :: r ∧ exempt p.code.toNat = true ∧
     p.waiter = none ∧ s.log.waitWrites = [] ∧
     (∀ j < 32, s.populated (s.ringAddr s.logNext + j) = true ∧ s.poisoned (s.ringAddr s.logNext + j) = false) ∧ j < 32) ∧
    (let s : State := ready
     let at_ : Nat := 1000000
     let u := s.reach at_
     at_ % 1000000 = 0 ∧ at_ ≤ u.now ∧ u.log.msNext ≤ at_ / 1000000) ∧
    (let s : State := { (ready.setBit 0xB0004 0 true) with log := { (ready.setBit 0xB0004 0 true).log with unset := false, flushAgain := true } }
     s.flushDue = true ∧ s.bit 0xB0004 0 = true ∧ s.log.flush = none) ∧
    (let s : State := { ready with log := { ready.log with unset := false, flush := some 3 } }
     let e : Nat := 3
     s.log.flush = some e ∧ s.bit 0xB0008 22 = false ∧ s.log.tail < e) ∧
    (let s : State := { near with key := { near.key with modes := 0x8100000000000000 } }
     let n : Byte := 7
     let x : TamperPin := { live := 0x80 }
     n.toNat < 8 ∧ s.detects n.toNat x.levels = true ∧ s.tamperLogOnly n.toNat = true) ∧
    (let n : Byte := 127
     n.toNat < 128) ∧
    (let s : State := { ({ near with cfg := some { debugKey := signKey } } : State) with key := { near.key with challenge := List.replicate 16 0 } }
     let d : Bytes := resp1
     let v : Bytes := []
     s.key.debug = false ∧ s.key.refused < 3 ∧ s.noDebugKey = false ∧ sliceB (d ++ v) 0 16 = s.key.challenge ∧
     s.responseOk (d ++ v) = true) ∧
    (let s : State := { near with key := { near.key with debug := true, scope := 4 } }
     let c : Byte := 0
     (c = 0x00 ∨ c = 0x04 ∨ c = 0x05) ∧
     (s.chip.straps.testEn = true ∨ (s.key.debug = true ∧ s.key.scope.getLsbD 2 = true))) ∧
    (let s : State := { ready with log := { ready.log with unset := false, seals := [⟨0, 7, 1, 2, true⟩] } }
     let q : SealOp := ⟨0, 7, 1, 2, true⟩
     (s.log.seals.find? fun q => q.hashing) = some q ∧ s.log.unset = false ∧ s.unflushed ≤ 4094) ∧
    (let n : Byte := 34
     32 ≤ n.toNat ∧ n.toNat ≤ 34) ∧
    (let s : State := (ready.setBit 0xA0004 0 true)
     let k : Byte := 15
     k.toNat < 16 ∧ s.bit 0xA0004 0 = true) :=
  ⟨witness_faultsAreLatched.2.2.2.2.2.2.2.1, witness_faultsAreLatched.2.2.2.2.2.2.2.2.1,
    witness_faultsAreLatched.2.2.2.2.2.2.2.2.2.2.2.2.1, witness_faultsAreLatched.2.2.2.2.2.2.2.2.2.2.2.2.2.2.1,
    witness_theLogKeepsItsRecords.2.1, witness_theLogKeepsItsRecords.2.2.2.2.1,
    witness_theLogKeepsItsRecords.2.2.2.2.2.2.2.2.2.1, witness_theLogKeepsItsRecords.2.2.2.2.2.2.2.2.2.2.2.1,
    witness_theLogKeepsItsRecords.2.2.2.2.2.2.2.2.2.2.2.2.2.1, witness_theGuardActs.2.2.2.1,
    witness_theGuardActs.2.2.2.2.2.2.2.2.1, witness_theGuardActs.2.2.2.2.2.2.2.2.2.2.1,
    witness_theGuardActs.2.2.2.2.2.2.2.2.2.2.2.2.1, witness_theLogKeepsItsRecords.2.2.2.2.2.2.2.2.2.2.2.2.2.2.2.2.2,
    witness_faultsAreLatched.2.2.2.2.2.2.2.2.2.2.2.2.2.2.2.2.2.2.2.1,
    witness_faultsAreLatched.2.2.2.2.2.2.2.2.2.2.2.2.2.2.2.2.2.1⟩

end Sys2Proof.Tests
end

section
/-! Doorbells (R51, R79): when one runs, and the order in which it is judged. -/

namespace Sys2Proof.Machine

/-- Pair `k` is ACTIVE and `h` is its OWNER: the first condition of R79. -/
abbrev State.ringsOwnPair (s : State) (h : HostId) (k : Nat) : Prop :=
  s.qpActive k = true ∧ s.fld (qpReg k 0x1C) 13 12 = ownerCode h

/-- `head` names a CQ entry from the previous CQ head to CQ_TAIL, in queue order (R51). -/
abbrev State.cqHeadFits (s : State) (k head : Nat) : Prop :=
  head < s.cqLen k ∧
    inQueueOrder (s.cqLen k) (s.rd (qpReg k 0x14)).toNat head (s.rd (qpReg k 0x18)).toNat = true

@[simp] theorem State.fromHost_of_hostOn {s : State} {h : HostId} (hon : s.hostOn h = true)
    (body : State → State) : s.fromHost h body = body s :=
  if_pos hon

theorem exec_doorbellWrite (h : HostId) (p : Byte) (v : W32) (s : State) :
    exec (.doorbellWrite h p v) s = .next (s.fromHost h fun s => s.doorbell h p.toNat v) := rfl

theorem runs_doorbellWrite {s : State} {h : HostId} (hon : s.hostOn h = true) (p : Byte) (v : W32) :
    Runs (.doorbellWrite h p v) s (s.doorbell h p.toNat v) :=
  (exec_doorbellWrite h p v s).trans (congrArg _ (State.fromHost_of_hostOn hon _))

/-- The judgement of R79 on a doorbell of one of the eight pairs, each test a proposition. -/
theorem State.doorbell_eq {k : Nat} (hk : k ≤ 7) (s : State) (h : HostId) (v : W32) :
    s.doorbell h k v =
      if ¬ s.ringsOwnPair h k then s.mbErr 3 k false
      else if s.sqLen k ≤ fldOf v 15 0 then (s.setErr k true).mbErr 1 k false
      else if ¬ s.cqHeadFits k (fldOf v 31 16) then (s.setErr k true).mbErr 2 k false
      else (s.wr (qpReg k 0x10) (w32 (fldOf v 15 0))).wr (qpReg k 0x14) (w32 (fldOf v 31 16)) := by
  have notOwn : (!s.qpActive k || s.fld (qpReg k 0x1C) 13 12 != ownerCode h) = true ↔
      ¬ s.ringsOwnPair h k := by
    rw [Decidable.not_and_iff_not_or_not, Bool.or_eq_true, Bool.not_eq_true', bne_iff_ne,
      Bool.not_eq_true]
  have notFits : (decide (fldOf v 31 16 ≥ s.cqLen k) || !inQueueOrder (s.cqLen k)
        (s.rd (qpReg k 0x14)).toNat (fldOf v 31 16) (s.rd (qpReg k 0x18)).toNat) = true ↔
      ¬ s.cqHeadFits k (fldOf v 31 16) := by
    rw [Decidable.not_and_iff_not_or_not, Bool.or_eq_true, Bool.not_eq_true', decide_eq_true_iff,
      Nat.not_lt, Bool.not_eq_true]
  simp only [State.doorbell, if_neg (Nat.not_lt.mpr hk), notOwn, notFits, ge_iff_le]

end Sys2Proof.Machine

namespace Sys2Proof.Proofs

open Sys2Proof Sys2Proof.Machine

/-- Settles O6: with the host's link on the command is `State.doorbell`, and each clause takes one branch of its judgement. -/
theorem doorbellIsJudgedInOrder : Obligations.DoorbellIsJudgedInOrder := by
  intro s h p v hp hon k tail head mine inRange
  have runs : Runs (.doorbellWrite h p v) s (s.doorbell h k v) := runs_doorbellWrite hon p v
  rw [State.doorbell_eq hp] at runs
  refine ⟨fun notMine => ?_, fun isMine full => ?_, fun isMine room notInRange => ?_,
    fun isMine room fits => ?_⟩
  · rwa [if_pos notMine] at runs
  · rwa [if_neg (not_not_intro isMine), if_pos full] at runs
  · rwa [if_neg (not_not_intro isMine), if_neg (Nat.not_le.mpr room), if_pos notInRange] at runs
  · rwa [if_neg (not_not_intro isMine), if_neg (Nat.not_le.mpr room), if_neg (not_not_intro fits)] at runs

end Sys2Proof.Proofs
end

section
/-! The counting of the time base (R284): NS and FRAC are the two digits of one number of 96 bits. -/

namespace Sys2Proof.Machine

/-- ADJ is a signed word, so 4 · 2³² + ADJ is positive and `State.inc` truncates nothing. -/
theorem State.inc_eq_nominal_add_adj (s : State) : (s.inc : Int) = 4 * 2 ^ 32 + (s.rd 0x60020).toInt := by
  have adjLower : -2 ^ 31 ≤ (s.rd 0x60020).toInt := BitVec.le_toInt _
  exact Int.toNat_of_nonneg (by omega)

/-- A number of units of 2⁻³² ns split into the words NS and FRAC keeps its low 96 bits. -/
theorem w64_div_mul_add_w32 (v : Nat) :
    (w64 (v / 2 ^ 32)).toNat * 2 ^ 32 + (w32 v).toNat = v % 2 ^ 96 := by
  calc (w64 (v / 2 ^ 32)).toNat * 2 ^ 32 + (w32 v).toNat
      = v / 2 ^ 32 % 2 ^ 64 * 2 ^ 32 + v % 2 ^ 32 := by
        rw [w64, w32, BitVec.toNat_ofNat, BitVec.toNat_ofNat]
    _ = v % 2 ^ 32 + 2 ^ 32 * (v / 2 ^ 32 % 2 ^ 64) := by rw [Nat.mul_comm, Nat.add_comm]
    _ = v % 2 ^ 96 := Nat.mod_mul.symm

@[simp] theorem State.instant_edges (s : State) (n : Nat) :
    (s.edges n).instant = (s.instant + n * s.inc) % 2 ^ 96 :=
  w64_div_mul_add_w32 (s.instant + n * s.inc)

end Sys2Proof.Machine

namespace Sys2Proof.Proofs

open Sys2Proof Sys2Proof.Machine

/-- Settles O17: `n` edges add `n * INC` to the instant in one addition, whose carry past 96 bits is lost. -/
theorem timeBaseAdvances : Obligations.TimeBaseAdvances := by
  intro s n
  refine ⟨s.inc_eq_nominal_add_adj, ?_⟩
  calc (s.edges n).instant % 2 ^ 96
      = (s.instant + n * s.inc) % 2 ^ 96 % 2 ^ 96 := by rw [State.instant_edges]
    _ = (s.instant + n * s.inc) % 2 ^ 96 := Nat.mod_mod _ _

end Sys2Proof.Proofs
end

section
/-! Writes of the user sources (R390): when one runs, and a state in which FREEZE undoes one. -/

namespace Sys2Proof.Machine

/-- A transaction that the path and the block's table admit has its effect (R447). -/
theorem State.atReg_of_admitted {s : State} {m : Master} {a : Nat} (admitted : s.regDenied m a true = none)
    (body : State → State) : s.atReg m a body = body s := by
  rw [State.atReg, admitted]

theorem exec_faultUserWrite {k : Byte} (hk : k.toNat ≤ 1) (m : Master) (v : W32) (s : State) :
    exec (.faultUserWrite m k v) s = .next (s.atReg m (0xA0080 + 4 * k.toNat) fun s =>
      if userWriter m then s.userWrite k.toNat v else s) :=
  congrArg Host.Outcome.next (if_neg (Nat.not_lt.mpr hk))

theorem runs_faultUserWrite {s : State} {m : Master} {k : Byte} (hk : k.toNat ≤ 1)
    (admitted : s.regDenied m (0xA0080 + 4 * k.toNat) true = none) (writer : userWriter m = true) (v : W32) :
    Runs (.faultUserWrite m k v) s (s.userWrite k.toNat v) := by
  rw [Runs, exec_faultUserWrite hk, State.atReg_of_admitted admitted, if_pos writer]

/-- A command answers one next state. -/
theorem Runs.unique {c : Instr} {s t u : State} (ht : Runs c s t) (hu : Runs c s u) : t = u :=
  Host.Outcome.next.inj (ht.symm.trans hu)

/-- The handover of MTR, role 6, is in phase 1 while a calibration runs on a channel whose `chReg` is FAULT_USER0, so that its
CAL bit (R259) is the bit of source 131, which is enabled. -/
def strayCalibration : State :=
  { State.reset with
    regs := [(0xA0070, 0x8), (0xE0110, 0x601)]
    mtr := { State.reset.mtr with
      cal := some { id := 0, channel := (0xA0080 - 0x50040) / 4, kind := 1, ref := 0, seconds := 1 } } }

/-- The invariant of every run does not exclude the state: it bounds no channel. -/
theorem strayCalibration_sound : strayCalibration.sound := ⟨rfl, by decide⟩

theorem strayCalibration_admits_firn : strayCalibration.regDenied .firn 0xA0080 true = none := rfl

/-- The write latches source 131; the FREEZE that rises abandons the handover (R484) and with it the calibration (R281), whose
CAL bit clears: FAULT_USER0 is 0 again. -/
theorem strayCalibration_userWrite_rd : (strayCalibration.userWrite 0 0x8).rd 0xA0080 = 0 := by
  decide +kernel

end Sys2Proof.Machine

namespace Sys2Proof.Proofs

open Sys2Proof Sys2Proof.Machine

/-- Refutes O20: in `strayCalibration` Firn writes 8 to FAULT_USER0, and the FREEZE that its source raises clears the bit on
the same edge. The statement speaks of every state, also of one whose calibration names a channel that no front end has. -/
theorem not_userSourcesFollowTheirBits : ¬ Obligations.UserSourcesFollowTheirBits := by
  intro h
  have admitted := strayCalibration_admits_firn
  obtain ⟨writers, -⟩ := h strayCalibration .firn 0 0x8 (by decide) admitted
  obtain ⟨t, runs, holdsWritten, -⟩ := writers (by decide)
  have isWrite : t = strayCalibration.userWrite 0 0x8 :=
    runs.unique (runs_faultUserWrite (k := 0) (by decide) admitted rfl 0x8)
  have cleared : t.rd 0xA0080 = 0 := isWrite ▸ strayCalibration_userWrite_rd
  exact absurd (holdsWritten.symm.trans cleared) (by decide)

end Sys2Proof.Proofs
end
